-- ==== Sys2Proof/Word.lean ====
section
/-! DEFINITION. The word types of the machine (00_scope.md R7, R9). -/

namespace Sys2Proof

/-- A byte: 8 bits (00_scope.md R7). -/
abbrev Byte := BitVec 8

/-- A word: 16 bits (00_scope.md R7). -/
abbrev Word := BitVec 16

/-- The `W` bit of an instruction: byte or word operation (30_encoding.md R104). -/
inductive Width where
  | byte
  | word
deriving DecidableEq, Repr

/-- The number of bits of an operand, 8 or 16. -/
@[reducible] def Width.bits : Width → Nat
  | .byte => 8
  | .word => 16

/-- The number of bytes of an operand, the `N` of 40_data_transfer.md R150. -/
def Width.bytes : Width → Nat
  | .byte => 1
  | .word => 2

/-- An operand value of the given width. -/
abbrev Val (w : Width) := BitVec w.bits

end Sys2Proof
end

