-- ==== Sys2Proof/Syntax.lean ====
section
/-! DEFINITION. The instructions: operands (30_encoding.md R105 to R108) and `Instr`, one constructor for each of the
301 rows of spec/opcode_table.json. Fields that the encoding reads as raw bytes stay raw (an immediate byte, a
displacement byte), so that no two words of the opcode space share a constructor and its fields. -/

namespace Sys2Proof

/-- A 3-bit register code: with `W = 0` the byte register, with `W = 1` the word register of Table 12-6
(30_encoding.md R106). -/
inductive Reg where
  | alAw
  | clCw
  | dlDw
  | blBw
  | ahSp
  | chBp
  | dhIx
  | bhIy
deriving DecidableEq, Repr

/-- The register code of Table 12-6 (30_encoding.md R106). -/
def Reg.code : Reg → BitVec 3
  | .alAw => 0
  | .clCw => 1
  | .dlDw => 2
  | .blBw => 3
  | .ahSp => 4
  | .chBp => 5
  | .dhIx => 6
  | .bhIy => 7

/-- A segment register (Table 12-7, 30_encoding.md R107). -/
inductive SReg where
  | ds1
  | ps
  | ss
  | ds0
deriving DecidableEq, Repr

/-- The segment-register code of Table 12-7 (30_encoding.md R107). -/
def SReg.code : SReg → BitVec 2
  | .ds1 => 0
  | .ps => 1
  | .ss => 2
  | .ds0 => 3

/-- The `mem` field of an addressing byte: the base and index registers of the effective address (Table 12-5,
30_encoding.md R105). -/
inductive Base where
  | bwIx
  | bwIy
  | bpIx
  | bpIy
  | ix
  | iy
  | bp
  | bw
deriving DecidableEq, Repr

/-- The `mem` code of Table 12-5 (30_encoding.md R105). -/
def Base.code : Base → BitVec 3
  | .bwIx => 0
  | .bwIy => 1
  | .bpIx => 2
  | .bpIy => 3
  | .ix => 4
  | .iy => 5
  | .bp => 6
  | .bw => 7

/-- A memory operand (Table 12-5, 30_encoding.md R105): the direct address (`mod = 00`, `mem = 110`), no displacement
(`mod = 00`), an 8-bit displacement (`mod = 01`) or a 16-bit displacement (`mod = 10`). -/
inductive MemOp where
  | direct (address : Word)
  | based (base : Base)
  | disp8 (base : Base) (disp : Byte)
  | disp16 (base : Base) (disp : Word)
deriving DecidableEq, Repr

/-- The operand in the `mod`/`mem` fields: a register (`mod = 11`) or memory (30_encoding.md R103). -/
inductive Operand where
  | reg (r : Reg)
  | mem (m : MemOp)
deriving DecidableEq, Repr

/-- The `sW` bits of the immediate group `100000sW` (42_add_sub_bcd.md R275): `byte` is `sW = 00`, `word` is `01`,
`byteS` is `10` (a byte operation like `00`), `wordS` is `11` (one immediate byte, sign-extended). -/
inductive ImmSize where
  | byte
  | word
  | byteS
  | wordS
deriving DecidableEq, Repr

/-- The width of the operation (42_add_sub_bcd.md R275). -/
@[reducible] def ImmSize.width : ImmSize → Width
  | .byte => .byte
  | .word => .word
  | .byteS => .byte
  | .wordS => .word

/-- The instructions, one constructor for each row of spec/opcode_table.json, in the order of the table. -/
inductive Instr where
  /-- `MOV reg,reg` (40_data_transfer.md R151). -/
  | movRegReg (w : Width) (d q : Reg)
  /-- `MOV mem,reg` (40_data_transfer.md R152). -/
  | movMemReg (w : Width) (m : MemOp) (r : Reg)
  /-- `MOV reg,mem` (40_data_transfer.md R153). -/
  | movRegMem (w : Width) (r : Reg) (m : MemOp)
  /-- `MOV mem,imm` (40_data_transfer.md R154). -/
  | movMemImm (w : Width) (m : MemOp) (imm : Word)
  /-- `MOV reg,imm` (40_data_transfer.md R155). -/
  | movRegImm (w : Width) (r : Reg) (imm : Word)
  /-- `MOV acc,dmem` (40_data_transfer.md R156). -/
  | movAccDmem (w : Width) (addr : Word)
  /-- `MOV dmem,acc` (40_data_transfer.md R157). -/
  | movDmemAcc (w : Width) (addr : Word)
  /-- `MOV sreg,reg16` (40_data_transfer.md R158). -/
  | movSregReg16 (g : SReg) (r : Reg)
  /-- `MOV sreg,mem16` (40_data_transfer.md R159). -/
  | movSregMem16 (g : SReg) (m : MemOp)
  /-- `MOV reg16,sreg` (40_data_transfer.md R161). -/
  | movReg16Sreg (r : Reg) (g : SReg)
  /-- `MOV mem16,sreg` (40_data_transfer.md R162). -/
  | movMem16Sreg (m : MemOp) (g : SReg)
  /-- `MOV DS0,reg16,mem32` (40_data_transfer.md R163). -/
  | movDs0Reg16Mem32 (r : Reg) (m : MemOp)
  /-- `MOV DS1,reg16,mem32` (40_data_transfer.md R164). -/
  | movDs1Reg16Mem32 (r : Reg) (m : MemOp)
  /-- `MOV AH,PSW` (40_data_transfer.md R165). -/
  | movAhPsw
  /-- `MOV PSW,AH` (40_data_transfer.md R166). -/
  | movPswAh
  /-- `LDEA reg16,mem16` (40_data_transfer.md R167). -/
  | ldeaReg16Mem16 (r : Reg) (m : MemOp)
  /-- `TRANS src-table` (40_data_transfer.md R168). -/
  | trans
  /-- `XCH reg,reg` (40_data_transfer.md R169). -/
  | xchRegReg (w : Width) (d q : Reg)
  /-- `XCH mem,reg` (40_data_transfer.md R170). -/
  | xchMemReg (w : Width) (m : MemOp) (r : Reg)
  /-- `XCH AW,reg16` (40_data_transfer.md R171). -/
  | xchAwReg16 (r : Reg)
  /-- `REPC` (41_block_bitfield_io.md R201). -/
  | repc
  /-- `REPNC` (41_block_bitfield_io.md R203). -/
  | repnc
  /-- `REP` (41_block_bitfield_io.md R204). -/
  | rep
  /-- `REPNE` (41_block_bitfield_io.md R206). -/
  | repne
  /-- `MOVBK [DS1-spec:]dst-block,[Seg-spec:]src-block` (41_block_bitfield_io.md R210). -/
  | movbk (w : Width)
  /-- `CMPBK [Seg-spec:]src-block,[DS1-spec:]dst-block` (41_block_bitfield_io.md R211). -/
  | cmpbk (w : Width)
  /-- `CMPM [DS1-spec:]dst-block` (41_block_bitfield_io.md R212). -/
  | cmpm (w : Width)
  /-- `LDM [Seg-spec:]src-block` (41_block_bitfield_io.md R213). -/
  | ldm (w : Width)
  /-- `STM [DS1-spec:]dst-block` (41_block_bitfield_io.md R214). -/
  | stm (w : Width)
  /-- `INS reg8,reg8'` (41_block_bitfield_io.md R221). -/
  | insReg8Reg8 (d q : Reg)
  /-- `INS reg8,imm4` (41_block_bitfield_io.md R222). -/
  | insReg8Imm4 (d : Reg) (imm : Byte)
  /-- `EXT reg8,reg8'` (41_block_bitfield_io.md R223). -/
  | extReg8Reg8 (d q : Reg)
  /-- `EXT reg8,imm4` (41_block_bitfield_io.md R224). -/
  | extReg8Imm4 (d : Reg) (imm : Byte)
  /-- `IN acc,imm8` (41_block_bitfield_io.md R230). -/
  | inAccImm8 (w : Width) (imm : Byte)
  /-- `IN acc,DW` (41_block_bitfield_io.md R231). -/
  | inAccDw (w : Width)
  /-- `OUT imm8,acc` (41_block_bitfield_io.md R232). -/
  | outImm8Acc (w : Width) (imm : Byte)
  /-- `OUT DW,acc` (41_block_bitfield_io.md R233). -/
  | outDwAcc (w : Width)
  /-- `INM [DS1-spec:]dst-block,DW` (41_block_bitfield_io.md R234). -/
  | inm (w : Width)
  /-- `OUTM DW,[Seg-spec:]src-block` (41_block_bitfield_io.md R235). -/
  | outm (w : Width)
  /-- `ADD reg,reg` (42_add_sub_bcd.md R251). -/
  | addRegReg (w : Width) (d q : Reg)
  /-- `ADD mem,reg` (42_add_sub_bcd.md R252). -/
  | addMemReg (w : Width) (m : MemOp) (r : Reg)
  /-- `ADD reg,mem` (42_add_sub_bcd.md R253). -/
  | addRegMem (w : Width) (r : Reg) (m : MemOp)
  /-- `ADD reg,imm` (42_add_sub_bcd.md R254). -/
  | addRegImm (f : ImmSize) (r : Reg) (imm : Word)
  /-- `ADD mem,imm` (42_add_sub_bcd.md R255). -/
  | addMemImm (f : ImmSize) (m : MemOp) (imm : Word)
  /-- `ADD acc,imm` (42_add_sub_bcd.md R256). -/
  | addAccImm (w : Width) (imm : Word)
  /-- `ADDC reg,reg` (42_add_sub_bcd.md R257). -/
  | addcRegReg (w : Width) (d q : Reg)
  /-- `ADDC mem,reg` (42_add_sub_bcd.md R258). -/
  | addcMemReg (w : Width) (m : MemOp) (r : Reg)
  /-- `ADDC reg,mem` (42_add_sub_bcd.md R259). -/
  | addcRegMem (w : Width) (r : Reg) (m : MemOp)
  /-- `ADDC reg,imm` (42_add_sub_bcd.md R260). -/
  | addcRegImm (f : ImmSize) (r : Reg) (imm : Word)
  /-- `ADDC mem,imm` (42_add_sub_bcd.md R261). -/
  | addcMemImm (f : ImmSize) (m : MemOp) (imm : Word)
  /-- `ADDC acc,imm` (42_add_sub_bcd.md R262). -/
  | addcAccImm (w : Width) (imm : Word)
  /-- `SUB reg,reg` (42_add_sub_bcd.md R263). -/
  | subRegReg (w : Width) (d q : Reg)
  /-- `SUB mem,reg` (42_add_sub_bcd.md R264). -/
  | subMemReg (w : Width) (m : MemOp) (r : Reg)
  /-- `SUB reg,mem` (42_add_sub_bcd.md R265). -/
  | subRegMem (w : Width) (r : Reg) (m : MemOp)
  /-- `SUB reg,imm` (42_add_sub_bcd.md R266). -/
  | subRegImm (f : ImmSize) (r : Reg) (imm : Word)
  /-- `SUB mem,imm` (42_add_sub_bcd.md R267). -/
  | subMemImm (f : ImmSize) (m : MemOp) (imm : Word)
  /-- `SUB acc,imm` (42_add_sub_bcd.md R268). -/
  | subAccImm (w : Width) (imm : Word)
  /-- `SUBC reg,reg` (42_add_sub_bcd.md R269). -/
  | subcRegReg (w : Width) (d q : Reg)
  /-- `SUBC mem,reg` (42_add_sub_bcd.md R270). -/
  | subcMemReg (w : Width) (m : MemOp) (r : Reg)
  /-- `SUBC reg,mem` (42_add_sub_bcd.md R271). -/
  | subcRegMem (w : Width) (r : Reg) (m : MemOp)
  /-- `SUBC reg,imm` (42_add_sub_bcd.md R272). -/
  | subcRegImm (f : ImmSize) (r : Reg) (imm : Word)
  /-- `SUBC mem,imm` (42_add_sub_bcd.md R273). -/
  | subcMemImm (f : ImmSize) (m : MemOp) (imm : Word)
  /-- `SUBC acc,imm` (42_add_sub_bcd.md R274). -/
  | subcAccImm (w : Width) (imm : Word)
  /-- `ADD4S [DS1-spec:]dst-string,[Seg-spec:]src-string` (42_add_sub_bcd.md R281). -/
  | add4s
  /-- `SUB4S [DS1-spec:]dst-string,[Seg-spec:]src-string` (42_add_sub_bcd.md R282). -/
  | sub4s
  /-- `CMP4S [DS1-spec:]dst-string,[Seg-spec:]src-string` (42_add_sub_bcd.md R283). -/
  | cmp4s
  /-- `ROL4 reg8` (42_add_sub_bcd.md R285). -/
  | rol4Reg8 (r : Reg)
  /-- `ROL4 mem8` (42_add_sub_bcd.md R286). -/
  | rol4Mem8 (m : MemOp)
  /-- `ROR4 reg8` (42_add_sub_bcd.md R287). -/
  | ror4Reg8 (r : Reg)
  /-- `ROR4 mem8` (42_add_sub_bcd.md R288). -/
  | ror4Mem8 (m : MemOp)
  /-- `INC reg8` (42_add_sub_bcd.md R290). -/
  | incReg8 (r : Reg)
  /-- `INC mem` (42_add_sub_bcd.md R291). -/
  | incMem (w : Width) (m : MemOp)
  /-- `INC reg16` (42_add_sub_bcd.md R292). -/
  | incReg16 (r : Reg)
  /-- `DEC reg8` (42_add_sub_bcd.md R293). -/
  | decReg8 (r : Reg)
  /-- `DEC mem` (42_add_sub_bcd.md R294). -/
  | decMem (w : Width) (m : MemOp)
  /-- `DEC reg16` (42_add_sub_bcd.md R295). -/
  | decReg16 (r : Reg)
  /-- `MULU reg8` (43_mul_div_adjust_convert.md R321). -/
  | muluReg8 (r : Reg)
  /-- `MULU mem8` (43_mul_div_adjust_convert.md R322). -/
  | muluMem8 (m : MemOp)
  /-- `MULU reg16` (43_mul_div_adjust_convert.md R323). -/
  | muluReg16 (r : Reg)
  /-- `MULU mem16` (43_mul_div_adjust_convert.md R324). -/
  | muluMem16 (m : MemOp)
  /-- `MUL reg8` (43_mul_div_adjust_convert.md R325). -/
  | mulReg8 (r : Reg)
  /-- `MUL mem8` (43_mul_div_adjust_convert.md R326). -/
  | mulMem8 (m : MemOp)
  /-- `MUL reg16` (43_mul_div_adjust_convert.md R327). -/
  | mulReg16 (r : Reg)
  /-- `MUL mem16` (43_mul_div_adjust_convert.md R328). -/
  | mulMem16 (m : MemOp)
  /-- `MUL reg16,reg16',imm8` (43_mul_div_adjust_convert.md R329). -/
  | mulReg16Reg16Imm8 (d q : Reg) (imm : Byte)
  /-- `MUL reg16,mem16,imm8` (43_mul_div_adjust_convert.md R330). -/
  | mulReg16Mem16Imm8 (d : Reg) (m : MemOp) (imm : Byte)
  /-- `MUL reg16,reg16',imm16` (43_mul_div_adjust_convert.md R331). -/
  | mulReg16Reg16Imm16 (d q : Reg) (imm : Word)
  /-- `MUL reg16,mem16,imm16` (43_mul_div_adjust_convert.md R332). -/
  | mulReg16Mem16Imm16 (d : Reg) (m : MemOp) (imm : Word)
  /-- `DIVU reg8` (43_mul_div_adjust_convert.md R335). -/
  | divuReg8 (r : Reg)
  /-- `DIVU mem8` (43_mul_div_adjust_convert.md R336). -/
  | divuMem8 (m : MemOp)
  /-- `DIVU reg16` (43_mul_div_adjust_convert.md R337). -/
  | divuReg16 (r : Reg)
  /-- `DIVU mem16` (43_mul_div_adjust_convert.md R338). -/
  | divuMem16 (m : MemOp)
  /-- `DIV reg8` (43_mul_div_adjust_convert.md R339). -/
  | divReg8 (r : Reg)
  /-- `DIV mem8` (43_mul_div_adjust_convert.md R340). -/
  | divMem8 (m : MemOp)
  /-- `DIV reg16` (43_mul_div_adjust_convert.md R341). -/
  | divReg16 (r : Reg)
  /-- `DIV mem16` (43_mul_div_adjust_convert.md R342). -/
  | divMem16 (m : MemOp)
  /-- `ADJBA` (43_mul_div_adjust_convert.md R350). -/
  | adjba
  /-- `ADJ4A` (43_mul_div_adjust_convert.md R351). -/
  | adj4a
  /-- `ADJBS` (43_mul_div_adjust_convert.md R352). -/
  | adjbs
  /-- `ADJ4S` (43_mul_div_adjust_convert.md R353). -/
  | adj4s
  /-- `CVTBD` (43_mul_div_adjust_convert.md R360). -/
  | cvtbd
  /-- `CVTDB` (43_mul_div_adjust_convert.md R361). -/
  | cvtdb
  /-- `CVTBW` (43_mul_div_adjust_convert.md R362). -/
  | cvtbw
  /-- `CVTWL` (43_mul_div_adjust_convert.md R363). -/
  | cvtwl
  /-- `CMP reg,reg` (44_compare_logic_bit.md R381). -/
  | cmpRegReg (w : Width) (d q : Reg)
  /-- `CMP mem,reg` (44_compare_logic_bit.md R382). -/
  | cmpMemReg (w : Width) (m : MemOp) (r : Reg)
  /-- `CMP reg,mem` (44_compare_logic_bit.md R383). -/
  | cmpRegMem (w : Width) (r : Reg) (m : MemOp)
  /-- `CMP reg,imm` (44_compare_logic_bit.md R384). -/
  | cmpRegImm (f : ImmSize) (r : Reg) (imm : Word)
  /-- `CMP mem,imm` (44_compare_logic_bit.md R385). -/
  | cmpMemImm (f : ImmSize) (m : MemOp) (imm : Word)
  /-- `CMP acc,imm` (44_compare_logic_bit.md R386). -/
  | cmpAccImm (w : Width) (imm : Word)
  /-- `NOT reg` (44_compare_logic_bit.md R387). -/
  | notReg (w : Width) (r : Reg)
  /-- `NOT mem` (44_compare_logic_bit.md R388). -/
  | notMem (w : Width) (m : MemOp)
  /-- `NEG reg` (44_compare_logic_bit.md R389). -/
  | negReg (w : Width) (r : Reg)
  /-- `NEG mem` (44_compare_logic_bit.md R390). -/
  | negMem (w : Width) (m : MemOp)
  /-- `TEST reg,reg` (44_compare_logic_bit.md R391). -/
  | testRegReg (w : Width) (d q : Reg)
  /-- `TEST mem,reg` (44_compare_logic_bit.md R392). -/
  | testMemReg (w : Width) (m : MemOp) (r : Reg)
  /-- `TEST reg,imm` (44_compare_logic_bit.md R393). -/
  | testRegImm (w : Width) (r : Reg) (imm : Word)
  /-- `TEST mem,imm` (44_compare_logic_bit.md R394). -/
  | testMemImm (w : Width) (m : MemOp) (imm : Word)
  /-- `TEST acc,imm` (44_compare_logic_bit.md R395). -/
  | testAccImm (w : Width) (imm : Word)
  /-- `AND reg,reg` (44_compare_logic_bit.md R396). -/
  | andRegReg (w : Width) (d q : Reg)
  /-- `AND mem,reg` (44_compare_logic_bit.md R397). -/
  | andMemReg (w : Width) (m : MemOp) (r : Reg)
  /-- `AND reg,mem` (44_compare_logic_bit.md R398). -/
  | andRegMem (w : Width) (r : Reg) (m : MemOp)
  /-- `AND reg,imm` (44_compare_logic_bit.md R399). -/
  | andRegImm (w : Width) (r : Reg) (imm : Word)
  /-- `AND mem,imm` (44_compare_logic_bit.md R400). -/
  | andMemImm (w : Width) (m : MemOp) (imm : Word)
  /-- `AND acc,imm` (44_compare_logic_bit.md R401). -/
  | andAccImm (w : Width) (imm : Word)
  /-- `OR reg,reg` (44_compare_logic_bit.md R402). -/
  | orRegReg (w : Width) (d q : Reg)
  /-- `OR mem,reg` (44_compare_logic_bit.md R403). -/
  | orMemReg (w : Width) (m : MemOp) (r : Reg)
  /-- `OR reg,mem` (44_compare_logic_bit.md R404). -/
  | orRegMem (w : Width) (r : Reg) (m : MemOp)
  /-- `OR reg,imm` (44_compare_logic_bit.md R405). -/
  | orRegImm (w : Width) (r : Reg) (imm : Word)
  /-- `OR mem,imm` (44_compare_logic_bit.md R406). -/
  | orMemImm (w : Width) (m : MemOp) (imm : Word)
  /-- `OR acc,imm` (44_compare_logic_bit.md R407). -/
  | orAccImm (w : Width) (imm : Word)
  /-- `XOR reg,reg` (44_compare_logic_bit.md R408). -/
  | xorRegReg (w : Width) (d q : Reg)
  /-- `XOR mem,reg` (44_compare_logic_bit.md R409). -/
  | xorMemReg (w : Width) (m : MemOp) (r : Reg)
  /-- `XOR reg,mem` (44_compare_logic_bit.md R410). -/
  | xorRegMem (w : Width) (r : Reg) (m : MemOp)
  /-- `XOR reg,imm` (44_compare_logic_bit.md R411). -/
  | xorRegImm (w : Width) (r : Reg) (imm : Word)
  /-- `XOR mem,imm` (44_compare_logic_bit.md R412). -/
  | xorMemImm (w : Width) (m : MemOp) (imm : Word)
  /-- `XOR acc,imm` (44_compare_logic_bit.md R413). -/
  | xorAccImm (w : Width) (imm : Word)
  /-- `TEST1 reg8,CL` (44_compare_logic_bit.md R421). -/
  | test1Reg8Cl (r : Reg)
  /-- `TEST1 mem8,CL` (44_compare_logic_bit.md R422). -/
  | test1Mem8Cl (m : MemOp)
  /-- `TEST1 reg16,CL` (44_compare_logic_bit.md R423). -/
  | test1Reg16Cl (r : Reg)
  /-- `TEST1 mem16,CL` (44_compare_logic_bit.md R424). -/
  | test1Mem16Cl (m : MemOp)
  /-- `TEST1 reg8,imm3` (44_compare_logic_bit.md R425). -/
  | test1Reg8Imm3 (r : Reg) (imm : Byte)
  /-- `TEST1 mem8,imm3` (44_compare_logic_bit.md R426). -/
  | test1Mem8Imm3 (m : MemOp) (imm : Byte)
  /-- `TEST1 reg16,imm4` (44_compare_logic_bit.md R427). -/
  | test1Reg16Imm4 (r : Reg) (imm : Byte)
  /-- `TEST1 mem16,imm4` (44_compare_logic_bit.md R428). -/
  | test1Mem16Imm4 (m : MemOp) (imm : Byte)
  /-- `NOT1 reg8,CL` (44_compare_logic_bit.md R429). -/
  | not1Reg8Cl (r : Reg)
  /-- `NOT1 mem8,CL` (44_compare_logic_bit.md R430). -/
  | not1Mem8Cl (m : MemOp)
  /-- `NOT1 reg16,CL` (44_compare_logic_bit.md R431). -/
  | not1Reg16Cl (r : Reg)
  /-- `NOT1 mem16,CL` (44_compare_logic_bit.md R432). -/
  | not1Mem16Cl (m : MemOp)
  /-- `NOT1 reg8,imm3` (44_compare_logic_bit.md R433). -/
  | not1Reg8Imm3 (r : Reg) (imm : Byte)
  /-- `NOT1 mem8,imm3` (44_compare_logic_bit.md R434). -/
  | not1Mem8Imm3 (m : MemOp) (imm : Byte)
  /-- `NOT1 reg16,imm4` (44_compare_logic_bit.md R435). -/
  | not1Reg16Imm4 (r : Reg) (imm : Byte)
  /-- `NOT1 mem16,imm4` (44_compare_logic_bit.md R436). -/
  | not1Mem16Imm4 (m : MemOp) (imm : Byte)
  /-- `CLR1 reg8,CL` (44_compare_logic_bit.md R437). -/
  | clr1Reg8Cl (r : Reg)
  /-- `CLR1 mem8,CL` (44_compare_logic_bit.md R438). -/
  | clr1Mem8Cl (m : MemOp)
  /-- `CLR1 reg16,CL` (44_compare_logic_bit.md R439). -/
  | clr1Reg16Cl (r : Reg)
  /-- `CLR1 mem16,CL` (44_compare_logic_bit.md R440). -/
  | clr1Mem16Cl (m : MemOp)
  /-- `CLR1 reg8,imm3` (44_compare_logic_bit.md R441). -/
  | clr1Reg8Imm3 (r : Reg) (imm : Byte)
  /-- `CLR1 mem8,imm3` (44_compare_logic_bit.md R442). -/
  | clr1Mem8Imm3 (m : MemOp) (imm : Byte)
  /-- `CLR1 reg16,imm4` (44_compare_logic_bit.md R443). -/
  | clr1Reg16Imm4 (r : Reg) (imm : Byte)
  /-- `CLR1 mem16,imm4` (44_compare_logic_bit.md R444). -/
  | clr1Mem16Imm4 (m : MemOp) (imm : Byte)
  /-- `SET1 reg8,CL` (44_compare_logic_bit.md R445). -/
  | set1Reg8Cl (r : Reg)
  /-- `SET1 mem8,CL` (44_compare_logic_bit.md R446). -/
  | set1Mem8Cl (m : MemOp)
  /-- `SET1 reg16,CL` (44_compare_logic_bit.md R447). -/
  | set1Reg16Cl (r : Reg)
  /-- `SET1 mem16,CL` (44_compare_logic_bit.md R448). -/
  | set1Mem16Cl (m : MemOp)
  /-- `SET1 reg8,imm3` (44_compare_logic_bit.md R449). -/
  | set1Reg8Imm3 (r : Reg) (imm : Byte)
  /-- `SET1 mem8,imm3` (44_compare_logic_bit.md R450). -/
  | set1Mem8Imm3 (m : MemOp) (imm : Byte)
  /-- `SET1 reg16,imm4` (44_compare_logic_bit.md R451). -/
  | set1Reg16Imm4 (r : Reg) (imm : Byte)
  /-- `SET1 mem16,imm4` (44_compare_logic_bit.md R452). -/
  | set1Mem16Imm4 (m : MemOp) (imm : Byte)
  /-- `NOT1 CY` (44_compare_logic_bit.md R460). -/
  | not1Cy
  /-- `CLR1 CY` (44_compare_logic_bit.md R461). -/
  | clr1Cy
  /-- `SET1 CY` (44_compare_logic_bit.md R462). -/
  | set1Cy
  /-- `CLR1 DIR` (44_compare_logic_bit.md R463). -/
  | clr1Dir
  /-- `SET1 DIR` (44_compare_logic_bit.md R464). -/
  | set1Dir
  /-- `SHL reg,1` (45_shift_rotate.md R471). -/
  | shlReg1 (w : Width) (r : Reg)
  /-- `SHL mem,1` (45_shift_rotate.md R472). -/
  | shlMem1 (w : Width) (m : MemOp)
  /-- `SHL reg,CL` (45_shift_rotate.md R473). -/
  | shlRegCl (w : Width) (r : Reg)
  /-- `SHL mem,CL` (45_shift_rotate.md R474). -/
  | shlMemCl (w : Width) (m : MemOp)
  /-- `SHL reg,imm8` (45_shift_rotate.md R475). -/
  | shlRegImm8 (w : Width) (r : Reg) (imm : Byte)
  /-- `SHL mem,imm8` (45_shift_rotate.md R476). -/
  | shlMemImm8 (w : Width) (m : MemOp) (imm : Byte)
  /-- `SHR reg,1` (45_shift_rotate.md R477). -/
  | shrReg1 (w : Width) (r : Reg)
  /-- `SHR mem,1` (45_shift_rotate.md R478). -/
  | shrMem1 (w : Width) (m : MemOp)
  /-- `SHR reg,CL` (45_shift_rotate.md R479). -/
  | shrRegCl (w : Width) (r : Reg)
  /-- `SHR mem,CL` (45_shift_rotate.md R480). -/
  | shrMemCl (w : Width) (m : MemOp)
  /-- `SHR reg,imm8` (45_shift_rotate.md R481). -/
  | shrRegImm8 (w : Width) (r : Reg) (imm : Byte)
  /-- `SHR mem,imm8` (45_shift_rotate.md R482). -/
  | shrMemImm8 (w : Width) (m : MemOp) (imm : Byte)
  /-- `SHRA reg,1` (45_shift_rotate.md R483). -/
  | shraReg1 (w : Width) (r : Reg)
  /-- `SHRA mem,1` (45_shift_rotate.md R484). -/
  | shraMem1 (w : Width) (m : MemOp)
  /-- `SHRA reg,CL` (45_shift_rotate.md R485). -/
  | shraRegCl (w : Width) (r : Reg)
  /-- `SHRA mem,CL` (45_shift_rotate.md R486). -/
  | shraMemCl (w : Width) (m : MemOp)
  /-- `SHRA reg,imm8` (45_shift_rotate.md R487). -/
  | shraRegImm8 (w : Width) (r : Reg) (imm : Byte)
  /-- `SHRA mem,imm8` (45_shift_rotate.md R488). -/
  | shraMemImm8 (w : Width) (m : MemOp) (imm : Byte)
  /-- `ROL reg,1` (45_shift_rotate.md R489). -/
  | rolReg1 (w : Width) (r : Reg)
  /-- `ROL mem,1` (45_shift_rotate.md R490). -/
  | rolMem1 (w : Width) (m : MemOp)
  /-- `ROL reg,CL` (45_shift_rotate.md R491). -/
  | rolRegCl (w : Width) (r : Reg)
  /-- `ROL mem,CL` (45_shift_rotate.md R492). -/
  | rolMemCl (w : Width) (m : MemOp)
  /-- `ROL reg,imm8` (45_shift_rotate.md R493). -/
  | rolRegImm8 (w : Width) (r : Reg) (imm : Byte)
  /-- `ROL mem,imm8` (45_shift_rotate.md R494). -/
  | rolMemImm8 (w : Width) (m : MemOp) (imm : Byte)
  /-- `ROR reg,1` (45_shift_rotate.md R495). -/
  | rorReg1 (w : Width) (r : Reg)
  /-- `ROR mem,1` (45_shift_rotate.md R496). -/
  | rorMem1 (w : Width) (m : MemOp)
  /-- `ROR reg,CL` (45_shift_rotate.md R497). -/
  | rorRegCl (w : Width) (r : Reg)
  /-- `ROR mem,CL` (45_shift_rotate.md R498). -/
  | rorMemCl (w : Width) (m : MemOp)
  /-- `ROR reg,imm8` (45_shift_rotate.md R499). -/
  | rorRegImm8 (w : Width) (r : Reg) (imm : Byte)
  /-- `ROR mem,imm8` (45_shift_rotate.md R500). -/
  | rorMemImm8 (w : Width) (m : MemOp) (imm : Byte)
  /-- `ROLC reg,1` (45_shift_rotate.md R501). -/
  | rolcReg1 (w : Width) (r : Reg)
  /-- `ROLC mem,1` (45_shift_rotate.md R502). -/
  | rolcMem1 (w : Width) (m : MemOp)
  /-- `ROLC reg,CL` (45_shift_rotate.md R503). -/
  | rolcRegCl (w : Width) (r : Reg)
  /-- `ROLC mem,CL` (45_shift_rotate.md R504). -/
  | rolcMemCl (w : Width) (m : MemOp)
  /-- `ROLC reg,imm8` (45_shift_rotate.md R505). -/
  | rolcRegImm8 (w : Width) (r : Reg) (imm : Byte)
  /-- `ROLC mem,imm8` (45_shift_rotate.md R506). -/
  | rolcMemImm8 (w : Width) (m : MemOp) (imm : Byte)
  /-- `RORC reg,1` (45_shift_rotate.md R507). -/
  | rorcReg1 (w : Width) (r : Reg)
  /-- `RORC mem,1` (45_shift_rotate.md R508). -/
  | rorcMem1 (w : Width) (m : MemOp)
  /-- `RORC reg,CL` (45_shift_rotate.md R509). -/
  | rorcRegCl (w : Width) (r : Reg)
  /-- `RORC mem,CL` (45_shift_rotate.md R510). -/
  | rorcMemCl (w : Width) (m : MemOp)
  /-- `RORC reg,imm8` (45_shift_rotate.md R511). -/
  | rorcRegImm8 (w : Width) (r : Reg) (imm : Byte)
  /-- `RORC mem,imm8` (45_shift_rotate.md R512). -/
  | rorcMemImm8 (w : Width) (m : MemOp) (imm : Byte)
  /-- `CALL near-proc` (46_control_transfer.md R521). -/
  | callNear (disp : Word)
  /-- `CALL regptr16` (46_control_transfer.md R522). -/
  | callRegptr16 (r : Reg)
  /-- `CALL memptr16` (46_control_transfer.md R523). -/
  | callMemptr16 (m : MemOp)
  /-- `CALL far-proc` (46_control_transfer.md R524). -/
  | callFar (off seg : Word)
  /-- `CALL memptr32` (46_control_transfer.md R525). -/
  | callMemptr32 (m : MemOp)
  /-- `RET (near)` (46_control_transfer.md R526). -/
  | retNear
  /-- `RET pop-value (near)` (46_control_transfer.md R527). -/
  | retNearPop (n : Word)
  /-- `RET (far)` (46_control_transfer.md R528). -/
  | retFar
  /-- `RET pop-value (far)` (46_control_transfer.md R529). -/
  | retFarPop (n : Word)
  /-- `PUSH mem16` (46_control_transfer.md R541). -/
  | pushMem16 (m : MemOp)
  /-- `PUSH reg16` (46_control_transfer.md R542). -/
  | pushReg16 (r : Reg)
  /-- `PUSH sreg` (46_control_transfer.md R543). -/
  | pushSreg (g : SReg)
  /-- `PUSH R` (46_control_transfer.md R544). -/
  | pushR
  /-- `PUSH imm8` (46_control_transfer.md R545). -/
  | pushImm8 (imm : Byte)
  /-- `PUSH imm16` (46_control_transfer.md R546). -/
  | pushImm16 (imm : Word)
  /-- `PUSH PSW` (46_control_transfer.md R548). -/
  | pushPsw
  /-- `POP mem16` (46_control_transfer.md R551). -/
  | popMem16 (m : MemOp)
  /-- `POP reg16` (46_control_transfer.md R552). -/
  | popReg16 (r : Reg)
  /-- `POP sreg` (46_control_transfer.md R553). -/
  | popSreg (g : SReg)
  /-- `POP R` (46_control_transfer.md R554). -/
  | popR
  /-- `POP PSW` (46_control_transfer.md R555). -/
  | popPsw
  /-- `PREPARE imm16,imm8` (46_control_transfer.md R556). -/
  | prepare (size : Word) (depth : Byte)
  /-- `DISPOSE` (46_control_transfer.md R557). -/
  | dispose
  /-- `BR near-label` (46_control_transfer.md R560). -/
  | brNear (disp : Word)
  /-- `BR short-label` (46_control_transfer.md R561). -/
  | brShort (disp : Byte)
  /-- `BR regptr16` (46_control_transfer.md R562). -/
  | brRegptr16 (r : Reg)
  /-- `BR memptr16` (46_control_transfer.md R563). -/
  | brMemptr16 (m : MemOp)
  /-- `BR far-label` (46_control_transfer.md R564). -/
  | brFar (off seg : Word)
  /-- `BR memptr32` (46_control_transfer.md R565). -/
  | brMemptr32 (m : MemOp)
  /-- `BV short-label` (46_control_transfer.md R570). -/
  | bv (disp : Byte)
  /-- `BNV short-label` (46_control_transfer.md R571). -/
  | bnv (disp : Byte)
  /-- `BC short-label` (46_control_transfer.md R572). -/
  | bc (disp : Byte)
  /-- `BNC short-label` (46_control_transfer.md R573). -/
  | bnc (disp : Byte)
  /-- `BE short-label` (46_control_transfer.md R574). -/
  | be (disp : Byte)
  /-- `BNE short-label` (46_control_transfer.md R575). -/
  | bne (disp : Byte)
  /-- `BNH short-label` (46_control_transfer.md R576). -/
  | bnh (disp : Byte)
  /-- `BH short-label` (46_control_transfer.md R577). -/
  | bh (disp : Byte)
  /-- `BPE short-label` (46_control_transfer.md R578). -/
  | bpe (disp : Byte)
  /-- `BPO short-label` (46_control_transfer.md R579). -/
  | bpo (disp : Byte)
  /-- `BN short-label` (46_control_transfer.md R580). -/
  | bn (disp : Byte)
  /-- `BP short-label` (46_control_transfer.md R581). -/
  | bp (disp : Byte)
  /-- `BLT short-label` (46_control_transfer.md R582). -/
  | blt (disp : Byte)
  /-- `BGE short-label` (46_control_transfer.md R583). -/
  | bge (disp : Byte)
  /-- `BLE short-label` (46_control_transfer.md R584). -/
  | ble (disp : Byte)
  /-- `BGT short-label` (46_control_transfer.md R585). -/
  | bgt (disp : Byte)
  /-- `DBNZNE short-label` (46_control_transfer.md R586). -/
  | dbnzne (disp : Byte)
  /-- `DBNZE short-label` (46_control_transfer.md R587). -/
  | dbnze (disp : Byte)
  /-- `DBNZ short-label` (46_control_transfer.md R588). -/
  | dbnz (disp : Byte)
  /-- `BCWZ short-label` (46_control_transfer.md R589). -/
  | bcwz (disp : Byte)
  /-- `BRK 3` (47_break_cpu_control.md R601). -/
  | brk3
  /-- `BRK imm8` (47_break_cpu_control.md R602). -/
  | brkImm8 (imm : Byte)
  /-- `BRKV` (47_break_cpu_control.md R603). -/
  | brkv
  /-- `RETI` (47_break_cpu_control.md R604). -/
  | reti
  /-- `CHKIND reg16,mem32` (47_break_cpu_control.md R605). -/
  | chkind (r : Reg) (m : MemOp)
  /-- `HALT` (47_break_cpu_control.md R616). -/
  | halt
  /-- `POLL` (47_break_cpu_control.md R617). -/
  | poll
  /-- `DI` (47_break_cpu_control.md R618). -/
  | di
  /-- `EI` (47_break_cpu_control.md R619). -/
  | ei
  /-- `BUSLOCK` (47_break_cpu_control.md R620). -/
  | buslock
  /-- `FPO1 fp-op` (47_break_cpu_control.md R622). -/
  | fpo1 (x y z : BitVec 3)
  /-- `FPO1 fp-op,mem` (47_break_cpu_control.md R621). -/
  | fpo1Mem (x y : BitVec 3) (m : MemOp)
  /-- `FPO2 fp-op` (47_break_cpu_control.md R623). -/
  | fpo2 (x : BitVec 1) (y z : BitVec 3)
  /-- `FPO2 fp-op,mem` (47_break_cpu_control.md R625). -/
  | fpo2Mem (x : BitVec 1) (y : BitVec 3) (m : MemOp)
  /-- `NOP` (47_break_cpu_control.md R624). -/
  | nop
  /-- `DS1:` (47_break_cpu_control.md R626). -/
  | ds1Prefix
  /-- `PS:` (47_break_cpu_control.md R626). -/
  | psPrefix
  /-- `SS:` (47_break_cpu_control.md R626). -/
  | ssPrefix
  /-- `DS0:` (47_break_cpu_control.md R626). -/
  | ds0Prefix
  /-- `BRKEM imm8` (48_emulation_mode.md R660). -/
  | brkem (imm : Byte)
  /-- `RETEM` (48_emulation_mode.md R661). -/
  | retem
  /-- `CALLN imm8` (48_emulation_mode.md R662). -/
  | calln (imm : Byte)
  /-- `ADD reg,reg (d = 0 opcode)` (42_add_sub_bcd.md R251, 30_encoding.md R123). -/
  | addRegRegD0 (w : Width) (d q : Reg)
  /-- `OR reg,reg (d = 0 opcode)` (44_compare_logic_bit.md R402, 30_encoding.md R123). -/
  | orRegRegD0 (w : Width) (d q : Reg)
  /-- `ADDC reg,reg (d = 0 opcode)` (42_add_sub_bcd.md R257, 30_encoding.md R123). -/
  | addcRegRegD0 (w : Width) (d q : Reg)
  /-- `SUBC reg,reg (d = 0 opcode)` (42_add_sub_bcd.md R269, 30_encoding.md R123). -/
  | subcRegRegD0 (w : Width) (d q : Reg)
  /-- `AND reg,reg (d = 0 opcode)` (44_compare_logic_bit.md R396, 30_encoding.md R123). -/
  | andRegRegD0 (w : Width) (d q : Reg)
  /-- `SUB reg,reg (d = 0 opcode)` (42_add_sub_bcd.md R263, 30_encoding.md R123). -/
  | subRegRegD0 (w : Width) (d q : Reg)
  /-- `XOR reg,reg (d = 0 opcode)` (44_compare_logic_bit.md R408, 30_encoding.md R123). -/
  | xorRegRegD0 (w : Width) (d q : Reg)
  /-- `CMP reg,reg (d = 0 opcode)` (44_compare_logic_bit.md R381, 30_encoding.md R123). -/
  | cmpRegRegD0 (w : Width) (d q : Reg)
  /-- `MOV reg,reg (d = 0 opcode)` (40_data_transfer.md R151, 30_encoding.md R123). -/
  | movRegRegD0 (w : Width) (d q : Reg)
  /-- `INC reg16 (two-byte form)` (42_add_sub_bcd.md R292, 30_encoding.md R123). -/
  | incReg16Two (r : Reg)
  /-- `DEC reg16 (two-byte form)` (42_add_sub_bcd.md R295, 30_encoding.md R123). -/
  | decReg16Two (r : Reg)
  /-- `PUSH reg16 (two-byte form)` (46_control_transfer.md R542, 30_encoding.md R123). -/
  | pushReg16Two (r : Reg)
  /-- `POP reg16 (two-byte form)` (46_control_transfer.md R552, 30_encoding.md R123). -/
  | popReg16Two (r : Reg)
  /-- `MOV reg,imm (C6H/C7H form)` (40_data_transfer.md R155, 30_encoding.md R123). -/
  | movRegImmC6 (w : Width) (r : Reg) (imm : Word)
deriving DecidableEq, Repr

end Sys2Proof
end

