-- ==== Sys2Proof/WellFormed.lean ====
section
/-! DEFINITION. Well-formed instructions: the terms of `Instr` that some encoding has. A term that is not well-formed
(a `mod = 00` operand based on BP, a byte operation with an immediate above FFH, a sign-extended immediate that is no
sign extension, a move or pop into PS, XCH AW,AW) is no instruction of the machine. -/

namespace Sys2Proof

/-- With `mod = 00` the code `mem = 110` is the direct address, so no operand is BP alone without a displacement
(30_encoding.md R105). -/
def MemOp.wellFormed : MemOp → Bool
  | .direct _ => true
  | .based b => b != .bp
  | .disp8 _ _ => true
  | .disp16 _ _ => true

/-- An immediate of a form with a `W` bit is one byte when `W = 0` (30_encoding.md R104). -/
def Width.immFits : Width → Word → Bool
  | .byte, imm => imm.toNat < 256
  | .word, _ => true

/-- An immediate of the group `100000sW` (42_add_sub_bcd.md R275): one byte for a byte operation, the sign extension
of one byte for `sW = 11`. -/
def ImmSize.immFits : ImmSize → Word → Bool
  | .byte, imm => imm.toNat < 256
  | .word, _ => true
  | .byteS, imm => imm.toNat < 256
  | .wordS, imm => imm == (imm.setWidth 8).signExtend 16

/-- PS is no destination of `MOV sreg` (40_data_transfer.md R160) or `POP sreg` (46_control_transfer.md R553). -/
def SReg.loadable (g : SReg) : Bool := g != .ps

/-- The well-formed instructions: those that `decode` can answer. -/
def Instr.wellFormed : Instr → Bool
  | .movRegReg _ _ _ => true
  | .movMemReg _ m _ => m.wellFormed
  | .movRegMem _ _ m => m.wellFormed
  | .movMemImm w m imm => m.wellFormed && w.immFits imm
  | .movRegImm w _ imm => w.immFits imm
  | .movAccDmem _ _ => true
  | .movDmemAcc _ _ => true
  | .movSregReg16 g _ => g.loadable
  | .movSregMem16 g m => g.loadable && m.wellFormed
  | .movReg16Sreg _ _ => true
  | .movMem16Sreg m _ => m.wellFormed
  | .movDs0Reg16Mem32 _ m => m.wellFormed
  | .movDs1Reg16Mem32 _ m => m.wellFormed
  | .movAhPsw => true
  | .movPswAh => true
  | .ldeaReg16Mem16 _ m => m.wellFormed
  | .trans => true
  | .xchRegReg _ _ _ => true
  | .xchMemReg _ m _ => m.wellFormed
  | .xchAwReg16 r => r != .alAw
  | .repc => true
  | .repnc => true
  | .rep => true
  | .repne => true
  | .movbk _ => true
  | .cmpbk _ => true
  | .cmpm _ => true
  | .ldm _ => true
  | .stm _ => true
  | .insReg8Reg8 _ _ => true
  | .insReg8Imm4 _ _ => true
  | .extReg8Reg8 _ _ => true
  | .extReg8Imm4 _ _ => true
  | .inAccImm8 _ _ => true
  | .inAccDw _ => true
  | .outImm8Acc _ _ => true
  | .outDwAcc _ => true
  | .inm _ => true
  | .outm _ => true
  | .addRegReg _ _ _ => true
  | .addMemReg _ m _ => m.wellFormed
  | .addRegMem _ _ m => m.wellFormed
  | .addRegImm f _ imm => f.immFits imm
  | .addMemImm f m imm => m.wellFormed && f.immFits imm
  | .addAccImm w imm => w.immFits imm
  | .addcRegReg _ _ _ => true
  | .addcMemReg _ m _ => m.wellFormed
  | .addcRegMem _ _ m => m.wellFormed
  | .addcRegImm f _ imm => f.immFits imm
  | .addcMemImm f m imm => m.wellFormed && f.immFits imm
  | .addcAccImm w imm => w.immFits imm
  | .subRegReg _ _ _ => true
  | .subMemReg _ m _ => m.wellFormed
  | .subRegMem _ _ m => m.wellFormed
  | .subRegImm f _ imm => f.immFits imm
  | .subMemImm f m imm => m.wellFormed && f.immFits imm
  | .subAccImm w imm => w.immFits imm
  | .subcRegReg _ _ _ => true
  | .subcMemReg _ m _ => m.wellFormed
  | .subcRegMem _ _ m => m.wellFormed
  | .subcRegImm f _ imm => f.immFits imm
  | .subcMemImm f m imm => m.wellFormed && f.immFits imm
  | .subcAccImm w imm => w.immFits imm
  | .add4s => true
  | .sub4s => true
  | .cmp4s => true
  | .rol4Reg8 _ => true
  | .rol4Mem8 m => m.wellFormed
  | .ror4Reg8 _ => true
  | .ror4Mem8 m => m.wellFormed
  | .incReg8 _ => true
  | .incMem _ m => m.wellFormed
  | .incReg16 _ => true
  | .decReg8 _ => true
  | .decMem _ m => m.wellFormed
  | .decReg16 _ => true
  | .muluReg8 _ => true
  | .muluMem8 m => m.wellFormed
  | .muluReg16 _ => true
  | .muluMem16 m => m.wellFormed
  | .mulReg8 _ => true
  | .mulMem8 m => m.wellFormed
  | .mulReg16 _ => true
  | .mulMem16 m => m.wellFormed
  | .mulReg16Reg16Imm8 _ _ _ => true
  | .mulReg16Mem16Imm8 _ m _ => m.wellFormed
  | .mulReg16Reg16Imm16 _ _ _ => true
  | .mulReg16Mem16Imm16 _ m _ => m.wellFormed
  | .divuReg8 _ => true
  | .divuMem8 m => m.wellFormed
  | .divuReg16 _ => true
  | .divuMem16 m => m.wellFormed
  | .divReg8 _ => true
  | .divMem8 m => m.wellFormed
  | .divReg16 _ => true
  | .divMem16 m => m.wellFormed
  | .adjba => true
  | .adj4a => true
  | .adjbs => true
  | .adj4s => true
  | .cvtbd => true
  | .cvtdb => true
  | .cvtbw => true
  | .cvtwl => true
  | .cmpRegReg _ _ _ => true
  | .cmpMemReg _ m _ => m.wellFormed
  | .cmpRegMem _ _ m => m.wellFormed
  | .cmpRegImm f _ imm => f.immFits imm
  | .cmpMemImm f m imm => m.wellFormed && f.immFits imm
  | .cmpAccImm w imm => w.immFits imm
  | .notReg _ _ => true
  | .notMem _ m => m.wellFormed
  | .negReg _ _ => true
  | .negMem _ m => m.wellFormed
  | .testRegReg _ _ _ => true
  | .testMemReg _ m _ => m.wellFormed
  | .testRegImm w _ imm => w.immFits imm
  | .testMemImm w m imm => m.wellFormed && w.immFits imm
  | .testAccImm w imm => w.immFits imm
  | .andRegReg _ _ _ => true
  | .andMemReg _ m _ => m.wellFormed
  | .andRegMem _ _ m => m.wellFormed
  | .andRegImm w _ imm => w.immFits imm
  | .andMemImm w m imm => m.wellFormed && w.immFits imm
  | .andAccImm w imm => w.immFits imm
  | .orRegReg _ _ _ => true
  | .orMemReg _ m _ => m.wellFormed
  | .orRegMem _ _ m => m.wellFormed
  | .orRegImm w _ imm => w.immFits imm
  | .orMemImm w m imm => m.wellFormed && w.immFits imm
  | .orAccImm w imm => w.immFits imm
  | .xorRegReg _ _ _ => true
  | .xorMemReg _ m _ => m.wellFormed
  | .xorRegMem _ _ m => m.wellFormed
  | .xorRegImm w _ imm => w.immFits imm
  | .xorMemImm w m imm => m.wellFormed && w.immFits imm
  | .xorAccImm w imm => w.immFits imm
  | .test1Reg8Cl _ => true
  | .test1Mem8Cl m => m.wellFormed
  | .test1Reg16Cl _ => true
  | .test1Mem16Cl m => m.wellFormed
  | .test1Reg8Imm3 _ _ => true
  | .test1Mem8Imm3 m _ => m.wellFormed
  | .test1Reg16Imm4 _ _ => true
  | .test1Mem16Imm4 m _ => m.wellFormed
  | .not1Reg8Cl _ => true
  | .not1Mem8Cl m => m.wellFormed
  | .not1Reg16Cl _ => true
  | .not1Mem16Cl m => m.wellFormed
  | .not1Reg8Imm3 _ _ => true
  | .not1Mem8Imm3 m _ => m.wellFormed
  | .not1Reg16Imm4 _ _ => true
  | .not1Mem16Imm4 m _ => m.wellFormed
  | .clr1Reg8Cl _ => true
  | .clr1Mem8Cl m => m.wellFormed
  | .clr1Reg16Cl _ => true
  | .clr1Mem16Cl m => m.wellFormed
  | .clr1Reg8Imm3 _ _ => true
  | .clr1Mem8Imm3 m _ => m.wellFormed
  | .clr1Reg16Imm4 _ _ => true
  | .clr1Mem16Imm4 m _ => m.wellFormed
  | .set1Reg8Cl _ => true
  | .set1Mem8Cl m => m.wellFormed
  | .set1Reg16Cl _ => true
  | .set1Mem16Cl m => m.wellFormed
  | .set1Reg8Imm3 _ _ => true
  | .set1Mem8Imm3 m _ => m.wellFormed
  | .set1Reg16Imm4 _ _ => true
  | .set1Mem16Imm4 m _ => m.wellFormed
  | .not1Cy => true
  | .clr1Cy => true
  | .set1Cy => true
  | .clr1Dir => true
  | .set1Dir => true
  | .shlReg1 _ _ => true
  | .shlMem1 _ m => m.wellFormed
  | .shlRegCl _ _ => true
  | .shlMemCl _ m => m.wellFormed
  | .shlRegImm8 _ _ _ => true
  | .shlMemImm8 _ m _ => m.wellFormed
  | .shrReg1 _ _ => true
  | .shrMem1 _ m => m.wellFormed
  | .shrRegCl _ _ => true
  | .shrMemCl _ m => m.wellFormed
  | .shrRegImm8 _ _ _ => true
  | .shrMemImm8 _ m _ => m.wellFormed
  | .shraReg1 _ _ => true
  | .shraMem1 _ m => m.wellFormed
  | .shraRegCl _ _ => true
  | .shraMemCl _ m => m.wellFormed
  | .shraRegImm8 _ _ _ => true
  | .shraMemImm8 _ m _ => m.wellFormed
  | .rolReg1 _ _ => true
  | .rolMem1 _ m => m.wellFormed
  | .rolRegCl _ _ => true
  | .rolMemCl _ m => m.wellFormed
  | .rolRegImm8 _ _ _ => true
  | .rolMemImm8 _ m _ => m.wellFormed
  | .rorReg1 _ _ => true
  | .rorMem1 _ m => m.wellFormed
  | .rorRegCl _ _ => true
  | .rorMemCl _ m => m.wellFormed
  | .rorRegImm8 _ _ _ => true
  | .rorMemImm8 _ m _ => m.wellFormed
  | .rolcReg1 _ _ => true
  | .rolcMem1 _ m => m.wellFormed
  | .rolcRegCl _ _ => true
  | .rolcMemCl _ m => m.wellFormed
  | .rolcRegImm8 _ _ _ => true
  | .rolcMemImm8 _ m _ => m.wellFormed
  | .rorcReg1 _ _ => true
  | .rorcMem1 _ m => m.wellFormed
  | .rorcRegCl _ _ => true
  | .rorcMemCl _ m => m.wellFormed
  | .rorcRegImm8 _ _ _ => true
  | .rorcMemImm8 _ m _ => m.wellFormed
  | .callNear _ => true
  | .callRegptr16 _ => true
  | .callMemptr16 m => m.wellFormed
  | .callFar _ _ => true
  | .callMemptr32 m => m.wellFormed
  | .retNear => true
  | .retNearPop _ => true
  | .retFar => true
  | .retFarPop _ => true
  | .pushMem16 m => m.wellFormed
  | .pushReg16 _ => true
  | .pushSreg _ => true
  | .pushR => true
  | .pushImm8 _ => true
  | .pushImm16 _ => true
  | .pushPsw => true
  | .popMem16 m => m.wellFormed
  | .popReg16 _ => true
  | .popSreg g => g.loadable
  | .popR => true
  | .popPsw => true
  | .prepare _ _ => true
  | .dispose => true
  | .brNear _ => true
  | .brShort _ => true
  | .brRegptr16 _ => true
  | .brMemptr16 m => m.wellFormed
  | .brFar _ _ => true
  | .brMemptr32 m => m.wellFormed
  | .bv _ => true
  | .bnv _ => true
  | .bc _ => true
  | .bnc _ => true
  | .be _ => true
  | .bne _ => true
  | .bnh _ => true
  | .bh _ => true
  | .bpe _ => true
  | .bpo _ => true
  | .bn _ => true
  | .bp _ => true
  | .blt _ => true
  | .bge _ => true
  | .ble _ => true
  | .bgt _ => true
  | .dbnzne _ => true
  | .dbnze _ => true
  | .dbnz _ => true
  | .bcwz _ => true
  | .brk3 => true
  | .brkImm8 _ => true
  | .brkv => true
  | .reti => true
  | .chkind _ m => m.wellFormed
  | .halt => true
  | .poll => true
  | .di => true
  | .ei => true
  | .buslock => true
  | .fpo1 _ _ _ => true
  | .fpo1Mem _ _ m => m.wellFormed
  | .fpo2 _ _ _ => true
  | .fpo2Mem _ _ m => m.wellFormed
  | .nop => true
  | .ds1Prefix => true
  | .psPrefix => true
  | .ssPrefix => true
  | .ds0Prefix => true
  | .brkem _ => true
  | .retem => true
  | .calln _ => true
  | .addRegRegD0 _ _ _ => true
  | .orRegRegD0 _ _ _ => true
  | .addcRegRegD0 _ _ _ => true
  | .subcRegRegD0 _ _ _ => true
  | .andRegRegD0 _ _ _ => true
  | .subRegRegD0 _ _ _ => true
  | .xorRegRegD0 _ _ _ => true
  | .cmpRegRegD0 _ _ _ => true
  | .movRegRegD0 _ _ _ => true
  | .incReg16Two _ => true
  | .decReg16Two _ => true
  | .pushReg16Two _ => true
  | .popReg16Two _ => true
  | .movRegImmC6 w _ imm => w.immFits imm

end Sys2Proof
end

