-- ==== Sys2Proof/Decode.lean ====
section
/-! DEFINITION. The decoder (30_encoding.md R109), written as the opcode map of R116 and R130, and after it the encoder
of the same tables. Both are total. Bytes beyond the end of the list read as zero.

The section is noncomputable only because Lean's code generator allocates no constructor whose index is above 244, and
`Instr` has 301: the definitions are ordinary structural ones, which the kernel evaluates. -/

noncomputable section

namespace Sys2Proof

/-- Why a byte sequence is no instruction. -/
inductive DecodeError where
  /-- A first byte, or a second byte after 0FH, that is not listed (30_encoding.md R117, R130). -/
  | undefinedOpcode
  /-- An unlisted sub-opcode or fixed bit (30_encoding.md R119, R121, R122; 44_compare_logic_bit.md R380). -/
  | undefinedSubOpcode
  /-- `mod = 11` where the operand must be memory (30_encoding.md R120). -/
  | registerWhereMemoryRequired
  /-- `MOV PS,...` (40_data_transfer.md R160). -/
  | movToPS
  /-- In emulation mode, a byte sequence that is neither RETEM nor CALLN (48_emulation_mode.md R665). -/
  | emulationMode
deriving DecidableEq, Repr

/-- An instruction and the number of bytes read for it, or the reason there is none. -/
abbrev Decoded := Except DecodeError (Instr × Nat)

/-- What the bytes that follow an opcode byte are read as. -/
abbrev Form := List Byte → Decoded

/-- Counts `n` more bytes. -/
def Decoded.longer (n : Nat) : Decoded → Decoded
  | .ok (i, k) => .ok (i, k + n)
  | .error e => .error e

/-- The byte at place `k`; zero beyond the end. -/
def byteAt (bs : List Byte) (k : Nat) : Byte := bs.getD k 0

/-- The word at place `k`, low byte first (20_memory.md R68). -/
def wordAt (bs : List Byte) (k : Nat) : Word := byteAt bs (k + 1) ++ byteAt bs k

/-- The register of a code (Table 12-6, 30_encoding.md R106). -/
def Reg.ofCode (c : BitVec 3) : Reg :=
  match c.toNat with
  | 0 => .alAw
  | 1 => .clCw
  | 2 => .dlDw
  | 3 => .blBw
  | 4 => .ahSp
  | 5 => .chBp
  | 6 => .dhIx
  | _ => .bhIy

/-- The segment register of a code (Table 12-7, 30_encoding.md R107). -/
def SReg.ofCode (c : BitVec 2) : SReg :=
  match c.toNat with
  | 0 => .ds1
  | 1 => .ps
  | 2 => .ss
  | _ => .ds0

/-- The base of a `mem` code (Table 12-5, 30_encoding.md R105). -/
def Base.ofCode (c : BitVec 3) : Base :=
  match c.toNat with
  | 0 => .bwIx
  | 1 => .bwIy
  | 2 => .bpIx
  | 3 => .bpIy
  | 4 => .ix
  | 5 => .iy
  | 6 => .bp
  | _ => .bw

/-- An addressing byte and its displacement, read: bits 5-3, the operand, the number of bytes. -/
structure Addressing where
  field : BitVec 3
  operand : Operand
  length : Nat
deriving DecidableEq, Repr

/-- Reads the addressing byte and the displacement bytes that `mod` and `mem` demand (30_encoding.md R103, R105). -/
def addressing (bs : List Byte) : Addressing :=
  let b := byteAt bs 0
  let field := b.extractLsb' 3 3
  let mem := b.extractLsb' 0 3
  match (b.extractLsb' 6 2).toNat with
  | 0 => if mem = 6 then ⟨field, .mem (.direct (wordAt bs 1)), 3⟩ else ⟨field, .mem (.based (Base.ofCode mem)), 1⟩
  | 1 => ⟨field, .mem (.disp8 (Base.ofCode mem) (byteAt bs 1)), 2⟩
  | 2 => ⟨field, .mem (.disp16 (Base.ofCode mem) (wordAt bs 1)), 3⟩
  | _ => ⟨field, .reg (Reg.ofCode mem), 1⟩

/-- An instruction with no further bytes. -/
def one (i : Instr) : Form := fun _ => .ok (i, 0)

/-- A form that is no instruction. -/
def refuse (e : DecodeError) : Form := fun _ => .error e

/-- One byte follows. -/
def withByte (f : Byte → Instr) : Form := fun bs => .ok (f (byteAt bs 0), 1)

/-- One word follows. -/
def withWord (f : Word → Instr) : Form := fun bs => .ok (f (wordAt bs 0), 2)

/-- A far pointer follows: the offset word, then the segment word (30_encoding.md R100). -/
def withFar (f : Word → Word → Instr) : Form := fun bs => .ok (f (wordAt bs 0) (wordAt bs 2), 4)

/-- An immediate of the width `w` follows (30_encoding.md R104). -/
def withImm (w : Width) (f : Word → Instr) : Form := fun bs =>
  match w with
  | .byte => .ok (f ((byteAt bs 0).setWidth 16), 1)
  | .word => .ok (f (wordAt bs 0), 2)

/-- The immediate of the group `100000sW` follows (42_add_sub_bcd.md R275). -/
def withSized (z : ImmSize) (f : Word → Instr) : Form := fun bs =>
  match z with
  | .byte => .ok (f ((byteAt bs 0).setWidth 16), 1)
  | .word => .ok (f (wordAt bs 0), 2)
  | .byteS => .ok (f ((byteAt bs 0).setWidth 16), 1)
  | .wordS => .ok (f ((byteAt bs 0).signExtend 16), 1)

/-- An addressing byte follows; `k` chooses by bits 5-3 and the operand how the bytes after it are read. -/
def withRm (k : BitVec 3 → Operand → Form) : Form := fun bs =>
  Decoded.longer (addressing bs).length
    (k (addressing bs).field (addressing bs).operand (bs.drop (addressing bs).length))

/-- A register in bits 5-3 and a register or memory operand. -/
def regRm (onReg : Reg → Reg → Instr) (onMem : Reg → MemOp → Instr) : Form :=
  withRm fun field o =>
    match o with
    | .reg q => one (onReg (Reg.ofCode field) q)
    | .mem m => one (onMem (Reg.ofCode field) m)

/-- A register in bits 5-3 and a memory operand; `mod = 11` is refused (30_encoding.md R120). -/
def regMem (onMem : Reg → MemOp → Instr) : Form :=
  withRm fun field o =>
    match o with
    | .reg _ => refuse .registerWhereMemoryRequired
    | .mem m => one (onMem (Reg.ofCode field) m)

/-- The six forms of a two-operand operation (30_encoding.md R110). -/
def twoOperand (regRegD0 : Width → Reg → Reg → Instr) (memReg : Width → MemOp → Reg → Instr)
    (regReg : Width → Reg → Reg → Instr) (regMem : Width → Reg → MemOp → Instr) (accImm : Width → Word → Instr) :
    List Form :=
  [ regRm (fun q d => regRegD0 .byte d q) (fun r m => memReg .byte m r),
    regRm (fun q d => regRegD0 .word d q) (fun r m => memReg .word m r),
    regRm (regReg .byte) (regMem .byte),
    regRm (regReg .word) (regMem .word),
    withImm .byte (accImm .byte),
    withImm .word (accImm .word) ]

/-- The immediate group `100000sW` (30_encoding.md R111); OR, AND and XOR have no form with `s = 1`
(44_compare_logic_bit.md R380). -/
def immediateGroup (z : ImmSize) : Form :=
  withRm fun field o =>
    match field.toNat, o with
    | 0, .reg r => withSized z (.addRegImm z r)
    | 0, .mem m => withSized z (.addMemImm z m)
    | 1, .reg r => logical z (.orRegImm · r ·)
    | 1, .mem m => logical z (.orMemImm · m ·)
    | 2, .reg r => withSized z (.addcRegImm z r)
    | 2, .mem m => withSized z (.addcMemImm z m)
    | 3, .reg r => withSized z (.subcRegImm z r)
    | 3, .mem m => withSized z (.subcMemImm z m)
    | 4, .reg r => logical z (.andRegImm · r ·)
    | 4, .mem m => logical z (.andMemImm · m ·)
    | 5, .reg r => withSized z (.subRegImm z r)
    | 5, .mem m => withSized z (.subMemImm z m)
    | 6, .reg r => logical z (.xorRegImm · r ·)
    | 6, .mem m => logical z (.xorMemImm · m ·)
    | _, .reg r => withSized z (.cmpRegImm z r)
    | _, .mem m => withSized z (.cmpMemImm z m)
where
  logical (z : ImmSize) (f : Width → Word → Instr) : Form :=
    match z with
    | .byte => withImm .byte (f .byte)
    | .word => withImm .word (f .word)
    | .byteS => refuse .undefinedSubOpcode
    | .wordS => refuse .undefinedSubOpcode

/-- The shift and rotate group with count 1 (30_encoding.md R112). -/
def shiftOneGroup (w : Width) : Form :=
  withRm fun field o =>
    match field.toNat, o with
    | 0, .reg r => one (.rolReg1 w r)
    | 0, .mem m => one (.rolMem1 w m)
    | 1, .reg r => one (.rorReg1 w r)
    | 1, .mem m => one (.rorMem1 w m)
    | 2, .reg r => one (.rolcReg1 w r)
    | 2, .mem m => one (.rolcMem1 w m)
    | 3, .reg r => one (.rorcReg1 w r)
    | 3, .mem m => one (.rorcMem1 w m)
    | 4, .reg r => one (.shlReg1 w r)
    | 4, .mem m => one (.shlMem1 w m)
    | 5, .reg r => one (.shrReg1 w r)
    | 5, .mem m => one (.shrMem1 w m)
    | 7, .reg r => one (.shraReg1 w r)
    | 7, .mem m => one (.shraMem1 w m)
    | _, _ => refuse .undefinedSubOpcode

/-- The shift and rotate group with the count in CL (30_encoding.md R112). -/
def shiftClGroup (w : Width) : Form :=
  withRm fun field o =>
    match field.toNat, o with
    | 0, .reg r => one (.rolRegCl w r)
    | 0, .mem m => one (.rolMemCl w m)
    | 1, .reg r => one (.rorRegCl w r)
    | 1, .mem m => one (.rorMemCl w m)
    | 2, .reg r => one (.rolcRegCl w r)
    | 2, .mem m => one (.rolcMemCl w m)
    | 3, .reg r => one (.rorcRegCl w r)
    | 3, .mem m => one (.rorcMemCl w m)
    | 4, .reg r => one (.shlRegCl w r)
    | 4, .mem m => one (.shlMemCl w m)
    | 5, .reg r => one (.shrRegCl w r)
    | 5, .mem m => one (.shrMemCl w m)
    | 7, .reg r => one (.shraRegCl w r)
    | 7, .mem m => one (.shraMemCl w m)
    | _, _ => refuse .undefinedSubOpcode

/-- The shift and rotate group with the count in a byte after the displacement (30_encoding.md R112). -/
def shiftImmGroup (w : Width) : Form :=
  withRm fun field o =>
    match field.toNat, o with
    | 0, .reg r => withByte (.rolRegImm8 w r)
    | 0, .mem m => withByte (.rolMemImm8 w m)
    | 1, .reg r => withByte (.rorRegImm8 w r)
    | 1, .mem m => withByte (.rorMemImm8 w m)
    | 2, .reg r => withByte (.rolcRegImm8 w r)
    | 2, .mem m => withByte (.rolcMemImm8 w m)
    | 3, .reg r => withByte (.rorcRegImm8 w r)
    | 3, .mem m => withByte (.rorcMemImm8 w m)
    | 4, .reg r => withByte (.shlRegImm8 w r)
    | 4, .mem m => withByte (.shlMemImm8 w m)
    | 5, .reg r => withByte (.shrRegImm8 w r)
    | 5, .mem m => withByte (.shrMemImm8 w m)
    | 7, .reg r => withByte (.shraRegImm8 w r)
    | 7, .mem m => withByte (.shraMemImm8 w m)
    | _, _ => refuse .undefinedSubOpcode

/-- The group F6H (30_encoding.md R113). -/
def groupF6 : Form :=
  withRm fun field o =>
    match field.toNat, o with
    | 0, .reg r => withImm .byte (.testRegImm .byte r)
    | 0, .mem m => withImm .byte (.testMemImm .byte m)
    | 2, .reg r => one (.notReg .byte r)
    | 2, .mem m => one (.notMem .byte m)
    | 3, .reg r => one (.negReg .byte r)
    | 3, .mem m => one (.negMem .byte m)
    | 4, .reg r => one (.muluReg8 r)
    | 4, .mem m => one (.muluMem8 m)
    | 5, .reg r => one (.mulReg8 r)
    | 5, .mem m => one (.mulMem8 m)
    | 6, .reg r => one (.divuReg8 r)
    | 6, .mem m => one (.divuMem8 m)
    | 7, .reg r => one (.divReg8 r)
    | 7, .mem m => one (.divMem8 m)
    | _, _ => refuse .undefinedSubOpcode

/-- The group F7H (30_encoding.md R113). -/
def groupF7 : Form :=
  withRm fun field o =>
    match field.toNat, o with
    | 0, .reg r => withImm .word (.testRegImm .word r)
    | 0, .mem m => withImm .word (.testMemImm .word m)
    | 2, .reg r => one (.notReg .word r)
    | 2, .mem m => one (.notMem .word m)
    | 3, .reg r => one (.negReg .word r)
    | 3, .mem m => one (.negMem .word m)
    | 4, .reg r => one (.muluReg16 r)
    | 4, .mem m => one (.muluMem16 m)
    | 5, .reg r => one (.mulReg16 r)
    | 5, .mem m => one (.mulMem16 m)
    | 6, .reg r => one (.divuReg16 r)
    | 6, .mem m => one (.divuMem16 m)
    | 7, .reg r => one (.divReg16 r)
    | 7, .mem m => one (.divMem16 m)
    | _, _ => refuse .undefinedSubOpcode

/-- The group FEH (30_encoding.md R114). -/
def groupFE : Form :=
  withRm fun field o =>
    match field.toNat, o with
    | 0, .reg r => one (.incReg8 r)
    | 0, .mem m => one (.incMem .byte m)
    | 1, .reg r => one (.decReg8 r)
    | 1, .mem m => one (.decMem .byte m)
    | _, _ => refuse .undefinedSubOpcode

/-- The group FFH (30_encoding.md R114, R123). -/
def groupFF : Form :=
  withRm fun field o =>
    match field.toNat, o with
    | 0, .reg r => one (.incReg16Two r)
    | 0, .mem m => one (.incMem .word m)
    | 1, .reg r => one (.decReg16Two r)
    | 1, .mem m => one (.decMem .word m)
    | 2, .reg r => one (.callRegptr16 r)
    | 2, .mem m => one (.callMemptr16 m)
    | 3, .reg _ => refuse .registerWhereMemoryRequired
    | 3, .mem m => one (.callMemptr32 m)
    | 4, .reg r => one (.brRegptr16 r)
    | 4, .mem m => one (.brMemptr16 m)
    | 5, .reg _ => refuse .registerWhereMemoryRequired
    | 5, .mem m => one (.brMemptr32 m)
    | 6, .reg r => one (.pushReg16Two r)
    | 6, .mem m => one (.pushMem16 m)
    | _, _ => refuse .undefinedSubOpcode

/-- An addressing byte whose bits 5-3 must be 000 (30_encoding.md R115, R121). -/
def withRm0 (onReg : Reg → Form) (onMem : MemOp → Form) : Form :=
  withRm fun field o =>
    match field.toNat, o with
    | 0, .reg r => onReg r
    | 0, .mem m => onMem m
    | _, _ => refuse .undefinedSubOpcode

/-- 8CH: `mod 0 sreg mem`, a segment register is the source (30_encoding.md R115). -/
def moveFromSreg : Form :=
  withRm fun field o =>
    if field.msb then refuse .undefinedSubOpcode
    else
      match o with
      | .reg r => one (.movReg16Sreg r (SReg.ofCode (field.setWidth 2)))
      | .mem m => one (.movMem16Sreg m (SReg.ofCode (field.setWidth 2)))

/-- 8EH: `mod 0 sreg mem`, a segment register other than PS is the destination (40_data_transfer.md R160). -/
def moveToSreg : Form :=
  withRm fun field o =>
    if field.msb then refuse .undefinedSubOpcode
    else if field = 1 then refuse .movToPS
    else
      match o with
      | .reg r => one (.movSregReg16 (SReg.ofCode (field.setWidth 2)) r)
      | .mem m => one (.movSregMem16 (SReg.ofCode (field.setWidth 2)) m)

/-- CVTBD and CVTDB: the second byte must be 0AH (30_encoding.md R122). -/
def with0AH (i : Instr) : Form := fun bs =>
  if byteAt bs 0 = 0x0A then .ok (i, 1) else .error .undefinedSubOpcode

/-- FPO1: the operation bits go to the coprocessor unexamined (47_break_cpu_control.md R621, R622). -/
def fpo1Form (x : BitVec 3) : Form :=
  withRm fun field o =>
    match o with
    | .reg r => one (.fpo1 x field r.code)
    | .mem m => one (.fpo1Mem x field m)

/-- FPO2 (47_break_cpu_control.md R623, R625). -/
def fpo2Form (x : BitVec 1) : Form :=
  withRm fun field o =>
    match o with
    | .reg r => one (.fpo2 x field r.code)
    | .mem m => one (.fpo2Mem x field m)

/-- INS and EXT with two registers: `11 reg8' reg8`; a memory operand is not listed (30_encoding.md R121). -/
def bitFieldReg (f : Reg → Reg → Instr) : Form :=
  withRm fun field o =>
    match o with
    | .reg d => one (f d (Reg.ofCode field))
    | .mem _ => refuse .undefinedSubOpcode

/-- INS and EXT with a length byte: `11 000 reg8`, `imm4` (30_encoding.md R121). -/
def bitFieldImm (f : Reg → Byte → Instr) : Form :=
  withRm0 (fun d => withByte (f d)) (fun _ => refuse .undefinedSubOpcode)

/-- A bit instruction of the extended group: bits 5-3 of the third byte are 000 (44_compare_logic_bit.md R420). -/
def bitForm (onReg : Reg → Instr) (onMem : MemOp → Instr) : Form :=
  withRm0 (fun r => one (onReg r)) (fun m => one (onMem m))

/-- A bit instruction whose bit number is a byte after the displacement (44_compare_logic_bit.md R420). -/
def bitImmForm (onReg : Reg → Byte → Instr) (onMem : MemOp → Byte → Instr) : Form :=
  withRm0 (fun r => withByte (onReg r)) (fun m => withByte (onMem m))

/-- The second byte of the extended group, after 0FH (30_encoding.md R130). -/
def extendedForm (b : Byte) : Form :=
  match b.toNat with
  | 0x10 => bitForm .test1Reg8Cl .test1Mem8Cl
  | 0x11 => bitForm .test1Reg16Cl .test1Mem16Cl
  | 0x12 => bitForm .clr1Reg8Cl .clr1Mem8Cl
  | 0x13 => bitForm .clr1Reg16Cl .clr1Mem16Cl
  | 0x14 => bitForm .set1Reg8Cl .set1Mem8Cl
  | 0x15 => bitForm .set1Reg16Cl .set1Mem16Cl
  | 0x16 => bitForm .not1Reg8Cl .not1Mem8Cl
  | 0x17 => bitForm .not1Reg16Cl .not1Mem16Cl
  | 0x18 => bitImmForm .test1Reg8Imm3 .test1Mem8Imm3
  | 0x19 => bitImmForm .test1Reg16Imm4 .test1Mem16Imm4
  | 0x1A => bitImmForm .clr1Reg8Imm3 .clr1Mem8Imm3
  | 0x1B => bitImmForm .clr1Reg16Imm4 .clr1Mem16Imm4
  | 0x1C => bitImmForm .set1Reg8Imm3 .set1Mem8Imm3
  | 0x1D => bitImmForm .set1Reg16Imm4 .set1Mem16Imm4
  | 0x1E => bitImmForm .not1Reg8Imm3 .not1Mem8Imm3
  | 0x1F => bitImmForm .not1Reg16Imm4 .not1Mem16Imm4
  | 0x20 => one .add4s
  | 0x22 => one .sub4s
  | 0x26 => one .cmp4s
  | 0x28 => bitForm .rol4Reg8 .rol4Mem8
  | 0x2A => bitForm .ror4Reg8 .ror4Mem8
  | 0x31 => bitFieldReg .insReg8Reg8
  | 0x33 => bitFieldReg .extReg8Reg8
  | 0x39 => bitFieldImm .insReg8Imm4
  | 0x3B => bitFieldImm .extReg8Imm4
  | 0xFF => withByte .brkem
  | _ => refuse .undefinedOpcode

/-- After 0FH: the second opcode byte selects (30_encoding.md R130). -/
def extendedGroup : Form := fun bs => Decoded.longer 1 (extendedForm (byteAt bs 0) (bs.drop 1))

/-- MUL with a 16-bit immediate (43_mul_div_adjust_convert.md R331, R332). -/
def mulImm16 : Form :=
  withRm fun field o =>
    match o with
    | .reg q => withWord (.mulReg16Reg16Imm16 (Reg.ofCode field) q)
    | .mem m => withWord (.mulReg16Mem16Imm16 (Reg.ofCode field) m)

/-- MUL with a sign-extended 8-bit immediate (43_mul_div_adjust_convert.md R329, R330). -/
def mulImm8 : Form :=
  withRm fun field o =>
    match o with
    | .reg q => withByte (.mulReg16Reg16Imm8 (Reg.ofCode field) q)
    | .mem m => withByte (.mulReg16Mem16Imm8 (Reg.ofCode field) m)

/-- PREPARE: imm16, then imm8 (46_control_transfer.md R556). -/
def prepareForm : Form := fun bs => .ok (.prepare (wordAt bs 0) (byteAt bs 2), 3)

/-- The opcode map, first bytes 00H to 0FH (30_encoding.md R116). -/
def opcodes00 : List Form :=
  twoOperand .addRegRegD0 .addMemReg .addRegReg .addRegMem .addAccImm ++
  [one (.pushSreg .ds1), one (.popSreg .ds1)] ++
  twoOperand .orRegRegD0 .orMemReg .orRegReg .orRegMem .orAccImm ++
  [one (.pushSreg .ps), extendedGroup]

/-- The opcode map, first bytes 10H to 1FH (30_encoding.md R116). -/
def opcodes10 : List Form :=
  twoOperand .addcRegRegD0 .addcMemReg .addcRegReg .addcRegMem .addcAccImm ++
  [one (.pushSreg .ss), one (.popSreg .ss)] ++
  twoOperand .subcRegRegD0 .subcMemReg .subcRegReg .subcRegMem .subcAccImm ++
  [one (.pushSreg .ds0), one (.popSreg .ds0)]

/-- The opcode map, first bytes 20H to 2FH (30_encoding.md R116). -/
def opcodes20 : List Form :=
  twoOperand .andRegRegD0 .andMemReg .andRegReg .andRegMem .andAccImm ++
  [one .ds1Prefix, one .adj4a] ++
  twoOperand .subRegRegD0 .subMemReg .subRegReg .subRegMem .subAccImm ++
  [one .psPrefix, one .adj4s]

/-- The opcode map, first bytes 30H to 3FH (30_encoding.md R116). -/
def opcodes30 : List Form :=
  twoOperand .xorRegRegD0 .xorMemReg .xorRegReg .xorRegMem .xorAccImm ++
  [one .ssPrefix, one .adjba] ++
  twoOperand .cmpRegRegD0 .cmpMemReg .cmpRegReg .cmpRegMem .cmpAccImm ++
  [one .ds0Prefix, one .adjbs]

/-- The opcode map, first bytes 40H to 4FH (30_encoding.md R116). -/
def opcodes40 : List Form :=
  [ one (.incReg16 .alAw), one (.incReg16 .clCw), one (.incReg16 .dlDw), one (.incReg16 .blBw),
    one (.incReg16 .ahSp), one (.incReg16 .chBp), one (.incReg16 .dhIx), one (.incReg16 .bhIy),
    one (.decReg16 .alAw), one (.decReg16 .clCw), one (.decReg16 .dlDw), one (.decReg16 .blBw),
    one (.decReg16 .ahSp), one (.decReg16 .chBp), one (.decReg16 .dhIx), one (.decReg16 .bhIy) ]

/-- The opcode map, first bytes 50H to 5FH (30_encoding.md R116). -/
def opcodes50 : List Form :=
  [ one (.pushReg16 .alAw), one (.pushReg16 .clCw), one (.pushReg16 .dlDw), one (.pushReg16 .blBw),
    one (.pushReg16 .ahSp), one (.pushReg16 .chBp), one (.pushReg16 .dhIx), one (.pushReg16 .bhIy),
    one (.popReg16 .alAw), one (.popReg16 .clCw), one (.popReg16 .dlDw), one (.popReg16 .blBw),
    one (.popReg16 .ahSp), one (.popReg16 .chBp), one (.popReg16 .dhIx), one (.popReg16 .bhIy) ]

/-- The opcode map, first bytes 60H to 6FH (30_encoding.md R116). -/
def opcodes60 : List Form :=
  [ one .pushR, one .popR, regMem .chkind, refuse .undefinedOpcode, one .repnc, one .repc, fpo2Form 0, fpo2Form 1,
    withWord .pushImm16, mulImm16, withByte .pushImm8, mulImm8, one (.inm .byte), one (.inm .word),
    one (.outm .byte), one (.outm .word) ]

/-- The opcode map, first bytes 70H to 7FH (30_encoding.md R116). -/
def opcodes70 : List Form :=
  [ withByte .bv, withByte .bnv, withByte .bc, withByte .bnc, withByte .be, withByte .bne, withByte .bnh,
    withByte .bh, withByte .bn, withByte .bp, withByte .bpe, withByte .bpo, withByte .blt, withByte .bge,
    withByte .ble, withByte .bgt ]

/-- The opcode map, first bytes 80H to 8FH (30_encoding.md R116). -/
def opcodes80 : List Form :=
  [ immediateGroup .byte, immediateGroup .word, immediateGroup .byteS, immediateGroup .wordS,
    regRm (.testRegReg .byte) (fun r m => .testMemReg .byte m r),
    regRm (.testRegReg .word) (fun r m => .testMemReg .word m r),
    regRm (.xchRegReg .byte) (fun r m => .xchMemReg .byte m r),
    regRm (.xchRegReg .word) (fun r m => .xchMemReg .word m r),
    regRm (fun q d => .movRegRegD0 .byte d q) (fun r m => .movMemReg .byte m r),
    regRm (fun q d => .movRegRegD0 .word d q) (fun r m => .movMemReg .word m r),
    regRm (.movRegReg .byte) (.movRegMem .byte), regRm (.movRegReg .word) (.movRegMem .word), moveFromSreg,
    regMem .ldeaReg16Mem16, moveToSreg, withRm0 (fun r => one (.popReg16Two r)) (fun m => one (.popMem16 m)) ]

/-- The opcode map, first bytes 90H to 9FH (30_encoding.md R116). -/
def opcodes90 : List Form :=
  [ one .nop, one (.xchAwReg16 .clCw), one (.xchAwReg16 .dlDw), one (.xchAwReg16 .blBw), one (.xchAwReg16 .ahSp),
    one (.xchAwReg16 .chBp), one (.xchAwReg16 .dhIx), one (.xchAwReg16 .bhIy), one .cvtbw, one .cvtwl,
    withFar .callFar, one .poll, one .pushPsw, one .popPsw, one .movPswAh, one .movAhPsw ]

/-- The opcode map, first bytes A0H to AFH (30_encoding.md R116). -/
def opcodesA0 : List Form :=
  [ withWord (.movAccDmem .byte), withWord (.movAccDmem .word), withWord (.movDmemAcc .byte),
    withWord (.movDmemAcc .word), one (.movbk .byte), one (.movbk .word), one (.cmpbk .byte),
    one (.cmpbk .word), withImm .byte (.testAccImm .byte), withImm .word (.testAccImm .word), one (.stm .byte),
    one (.stm .word), one (.ldm .byte), one (.ldm .word), one (.cmpm .byte), one (.cmpm .word) ]

/-- The opcode map, first bytes B0H to BFH (30_encoding.md R116). -/
def opcodesB0 : List Form :=
  [ withImm .byte (.movRegImm .byte .alAw), withImm .byte (.movRegImm .byte .clCw),
    withImm .byte (.movRegImm .byte .dlDw), withImm .byte (.movRegImm .byte .blBw),
    withImm .byte (.movRegImm .byte .ahSp), withImm .byte (.movRegImm .byte .chBp),
    withImm .byte (.movRegImm .byte .dhIx), withImm .byte (.movRegImm .byte .bhIy),
    withImm .word (.movRegImm .word .alAw), withImm .word (.movRegImm .word .clCw),
    withImm .word (.movRegImm .word .dlDw), withImm .word (.movRegImm .word .blBw),
    withImm .word (.movRegImm .word .ahSp), withImm .word (.movRegImm .word .chBp),
    withImm .word (.movRegImm .word .dhIx), withImm .word (.movRegImm .word .bhIy) ]

/-- The opcode map, first bytes C0H to CFH (30_encoding.md R116). -/
def opcodesC0 : List Form :=
  [ shiftImmGroup .byte, shiftImmGroup .word, withWord .retNearPop, one .retNear, regMem .movDs1Reg16Mem32,
    regMem .movDs0Reg16Mem32,
    withRm0 (fun r => withImm .byte (.movRegImmC6 .byte r)) (fun m => withImm .byte (.movMemImm .byte m)),
    withRm0 (fun r => withImm .word (.movRegImmC6 .word r)) (fun m => withImm .word (.movMemImm .word m)),
    prepareForm, one .dispose, withWord .retFarPop, one .retFar, one .brk3, withByte .brkImm8, one .brkv,
    one .reti ]

/-- The opcode map, first bytes D0H to DFH (30_encoding.md R116). -/
def opcodesD0 : List Form :=
  [ shiftOneGroup .byte, shiftOneGroup .word, shiftClGroup .byte, shiftClGroup .word, with0AH .cvtbd,
    with0AH .cvtdb, refuse .undefinedOpcode, one .trans, fpo1Form 0, fpo1Form 1, fpo1Form 2, fpo1Form 3,
    fpo1Form 4, fpo1Form 5, fpo1Form 6, fpo1Form 7 ]

/-- The opcode map, first bytes E0H to EFH (30_encoding.md R116). -/
def opcodesE0 : List Form :=
  [ withByte .dbnzne, withByte .dbnze, withByte .dbnz, withByte .bcwz, withByte (.inAccImm8 .byte),
    withByte (.inAccImm8 .word), withByte (.outImm8Acc .byte), withByte (.outImm8Acc .word), withWord .callNear,
    withWord .brNear, withFar .brFar, withByte .brShort, one (.inAccDw .byte), one (.inAccDw .word),
    one (.outDwAcc .byte), one (.outDwAcc .word) ]

/-- The opcode map, first bytes F0H to FFH (30_encoding.md R116). -/
def opcodesF0 : List Form :=
  [ one .buslock, refuse .undefinedOpcode, one .repne, one .rep, one .halt, one .not1Cy, groupF6, groupF7,
    one .clr1Cy, one .set1Cy, one .di, one .ei, one .clr1Dir, one .set1Dir, groupFE, groupFF ]

/-- The opcode map of 30_encoding.md R116, one row of sixteen for each upper half of the first byte. -/
def opcodeMap : List (List Form) :=
  [ opcodes00, opcodes10, opcodes20, opcodes30, opcodes40, opcodes50, opcodes60, opcodes70,
    opcodes80, opcodes90, opcodesA0, opcodesB0, opcodesC0, opcodesD0, opcodesE0, opcodesF0 ]

/-- The form of a first byte. -/
def opcodeForm (b : Byte) : Form :=
  (opcodeMap.getD (b.toNat / 16) []).getD (b.toNat % 16) (refuse .undefinedOpcode)

/-- Decodes the native-mode instruction at the head of the bytes, and counts its bytes (30_encoding.md R109). A prefix
byte is an instruction of its own. -/
def decode (bs : List Byte) : Decoded := Decoded.longer 1 (opcodeForm (byteAt bs 0) (bs.drop 1))

/-- Decodes in emulation mode: RETEM and CALLN are all the spec gives of it (30_encoding.md R131;
48_emulation_mode.md R661, R662, R665). -/
def decodeEmulation (bs : List Byte) : Decoded :=
  if byteAt bs 0 = 0xED ∧ byteAt bs 1 = 0xFD then .ok (.retem, 2)
  else if byteAt bs 0 = 0xED ∧ byteAt bs 1 = 0xED then .ok (.calln (byteAt bs 2), 3)
  else .error .emulationMode

/-- The low `n` bytes of `w`, the most significant first: the order in which spec/opcode_table.json numbers the bytes
of a row (30_encoding.md R142 `first byte leftmost`; log entry 30). -/
def bytesOf : Nat → Nat → List Byte
  | 0, _ => []
  | n + 1, w => BitVec.ofNat 8 (w / 256 ^ n) :: bytesOf n w

/-- The instruction that the decoder reads from the `nbits` bits of `w`, numbered as spec/opcode_table.json numbers
them; RETEM and CALLN, which exist in emulation mode only, are recognised first (log entry 30). -/
def decodeTableWord (nbits w : Nat) : Option Instr :=
  match decodeEmulation (bytesOf (nbits / 8) w) with
  | .ok (i, _) => some i
  | .error _ =>
    match decode (bytesOf (nbits / 8) w) with
    | .ok (i, _) => some i
    | .error _ => none

/-- The bytes of a word, low byte first (30_encoding.md R100). -/
def encodeWord (v : Word) : List Byte := [v.extractLsb' 0 8, v.extractLsb' 8 8]

/-- The addressing byte `mod reg mem` (30_encoding.md R103). -/
def modrm (mod : BitVec 2) (reg mem : BitVec 3) : Byte := mod ++ reg ++ mem

/-- The addressing byte of a memory operand and its displacement bytes (30_encoding.md R105). -/
def encodeMem (field : BitVec 3) : MemOp → List Byte
  | .direct a => modrm 0 field 6 :: encodeWord a
  | .based b => [modrm 0 field b.code]
  | .disp8 b d => [modrm 1 field b.code, d]
  | .disp16 b d => modrm 2 field b.code :: encodeWord d

/-- An opcode byte with `W` in bit 0 (30_encoding.md R104). -/
def withW (op : Byte) : Width → Byte
  | .byte => op
  | .word => op ||| 1

/-- An opcode byte with a register code in bits 2-0 (30_encoding.md R106). -/
def withReg (op : Byte) (r : Reg) : Byte := op ||| r.code.setWidth 8

/-- An opcode byte with a segment-register code in bits 4-3 (30_encoding.md R107). -/
def withSreg (op : Byte) (g : SReg) : Byte := op ||| (g.code.setWidth 8 <<< 3)

/-- The addressing byte `11 reg reg'`. -/
def regReg (d q : Reg) : Byte := modrm 3 d.code q.code

/-- Bits 5-3 of the addressing byte of the segment-register moves: `0 sreg` (30_encoding.md R107). -/
def sregField (g : SReg) : BitVec 3 := g.code.setWidth 3

/-- An immediate of the width `w` (30_encoding.md R104). -/
def encodeImm (w : Width) (imm : Word) : List Byte :=
  match w with
  | .byte => [imm.setWidth 8]
  | .word => encodeWord imm

/-- The first byte of the group `100000sW` (42_add_sub_bcd.md R275). -/
def ImmSize.opcode : ImmSize → Byte
  | .byte => 0x80
  | .word => 0x81
  | .byteS => 0x82
  | .wordS => 0x83

/-- The immediate bytes of the group `100000sW` (42_add_sub_bcd.md R275). -/
def ImmSize.encode (z : ImmSize) (imm : Word) : List Byte :=
  match z with
  | .byte => [imm.setWidth 8]
  | .word => encodeWord imm
  | .byteS => [imm.setWidth 8]
  | .wordS => [imm.setWidth 8]

/-- `11011 XXX` (47_break_cpu_control.md R622). -/
def fpo1Byte (x : BitVec 3) : Byte := 0xD8 ||| x.setWidth 8

/-- `0110011 X` (47_break_cpu_control.md R623). -/
def fpo2Byte (x : BitVec 1) : Byte := 0x66 ||| x.setWidth 8

/-- The bytes of an instruction, from the encoding line of its rule. -/
def encode : Instr → List Byte
  | .movRegReg w d q => [withW 0x8A w, regReg d q]
  | .movMemReg w m r => withW 0x88 w :: encodeMem r.code m
  | .movRegMem w r m => withW 0x8A w :: encodeMem r.code m
  | .movMemImm w m imm => withW 0xC6 w :: encodeMem 0 m ++ encodeImm w imm
  | .movRegImm w r imm => withReg (match w with | .byte => 0xB0 | .word => 0xB8) r :: encodeImm w imm
  | .movAccDmem w addr => withW 0xA0 w :: encodeWord addr
  | .movDmemAcc w addr => withW 0xA2 w :: encodeWord addr
  | .movSregReg16 g r => [0x8E, modrm 3 (sregField g) r.code]
  | .movSregMem16 g m => 0x8E :: encodeMem (sregField g) m
  | .movReg16Sreg r g => [0x8C, modrm 3 (sregField g) r.code]
  | .movMem16Sreg m g => 0x8C :: encodeMem (sregField g) m
  | .movDs0Reg16Mem32 r m => 0xC5 :: encodeMem r.code m
  | .movDs1Reg16Mem32 r m => 0xC4 :: encodeMem r.code m
  | .movAhPsw => [0x9F]
  | .movPswAh => [0x9E]
  | .ldeaReg16Mem16 r m => 0x8D :: encodeMem r.code m
  | .trans => [0xD7]
  | .xchRegReg w d q => [withW 0x86 w, regReg d q]
  | .xchMemReg w m r => withW 0x86 w :: encodeMem r.code m
  | .xchAwReg16 r => [withReg 0x90 r]
  | .repc => [0x65]
  | .repnc => [0x64]
  | .rep => [0xF3]
  | .repne => [0xF2]
  | .movbk w => [withW 0xA4 w]
  | .cmpbk w => [withW 0xA6 w]
  | .cmpm w => [withW 0xAE w]
  | .ldm w => [withW 0xAC w]
  | .stm w => [withW 0xAA w]
  | .insReg8Reg8 d q => [0x0F, 0x31, modrm 3 q.code d.code]
  | .insReg8Imm4 d imm => [0x0F, 0x39, modrm 3 0 d.code, imm]
  | .extReg8Reg8 d q => [0x0F, 0x33, modrm 3 q.code d.code]
  | .extReg8Imm4 d imm => [0x0F, 0x3B, modrm 3 0 d.code, imm]
  | .inAccImm8 w imm => [withW 0xE4 w, imm]
  | .inAccDw w => [withW 0xEC w]
  | .outImm8Acc w imm => [withW 0xE6 w, imm]
  | .outDwAcc w => [withW 0xEE w]
  | .inm w => [withW 0x6C w]
  | .outm w => [withW 0x6E w]
  | .addRegReg w d q => [withW 0x02 w, regReg d q]
  | .addMemReg w m r => withW 0x00 w :: encodeMem r.code m
  | .addRegMem w r m => withW 0x02 w :: encodeMem r.code m
  | .addRegImm f r imm => f.opcode :: modrm 3 0 r.code :: f.encode imm
  | .addMemImm f m imm => f.opcode :: encodeMem 0 m ++ f.encode imm
  | .addAccImm w imm => withW 0x04 w :: encodeImm w imm
  | .addcRegReg w d q => [withW 0x12 w, regReg d q]
  | .addcMemReg w m r => withW 0x10 w :: encodeMem r.code m
  | .addcRegMem w r m => withW 0x12 w :: encodeMem r.code m
  | .addcRegImm f r imm => f.opcode :: modrm 3 2 r.code :: f.encode imm
  | .addcMemImm f m imm => f.opcode :: encodeMem 2 m ++ f.encode imm
  | .addcAccImm w imm => withW 0x14 w :: encodeImm w imm
  | .subRegReg w d q => [withW 0x2A w, regReg d q]
  | .subMemReg w m r => withW 0x28 w :: encodeMem r.code m
  | .subRegMem w r m => withW 0x2A w :: encodeMem r.code m
  | .subRegImm f r imm => f.opcode :: modrm 3 5 r.code :: f.encode imm
  | .subMemImm f m imm => f.opcode :: encodeMem 5 m ++ f.encode imm
  | .subAccImm w imm => withW 0x2C w :: encodeImm w imm
  | .subcRegReg w d q => [withW 0x1A w, regReg d q]
  | .subcMemReg w m r => withW 0x18 w :: encodeMem r.code m
  | .subcRegMem w r m => withW 0x1A w :: encodeMem r.code m
  | .subcRegImm f r imm => f.opcode :: modrm 3 3 r.code :: f.encode imm
  | .subcMemImm f m imm => f.opcode :: encodeMem 3 m ++ f.encode imm
  | .subcAccImm w imm => withW 0x1C w :: encodeImm w imm
  | .add4s => [0x0F, 0x20]
  | .sub4s => [0x0F, 0x22]
  | .cmp4s => [0x0F, 0x26]
  | .rol4Reg8 r => [0x0F, 0x28, modrm 3 0 r.code]
  | .rol4Mem8 m => 0x0F :: 0x28 :: encodeMem 0 m
  | .ror4Reg8 r => [0x0F, 0x2A, modrm 3 0 r.code]
  | .ror4Mem8 m => 0x0F :: 0x2A :: encodeMem 0 m
  | .incReg8 r => [0xFE, modrm 3 0 r.code]
  | .incMem w m => withW 0xFE w :: encodeMem 0 m
  | .incReg16 r => [withReg 0x40 r]
  | .decReg8 r => [0xFE, modrm 3 1 r.code]
  | .decMem w m => withW 0xFE w :: encodeMem 1 m
  | .decReg16 r => [withReg 0x48 r]
  | .muluReg8 r => [0xF6, modrm 3 4 r.code]
  | .muluMem8 m => 0xF6 :: encodeMem 4 m
  | .muluReg16 r => [0xF7, modrm 3 4 r.code]
  | .muluMem16 m => 0xF7 :: encodeMem 4 m
  | .mulReg8 r => [0xF6, modrm 3 5 r.code]
  | .mulMem8 m => 0xF6 :: encodeMem 5 m
  | .mulReg16 r => [0xF7, modrm 3 5 r.code]
  | .mulMem16 m => 0xF7 :: encodeMem 5 m
  | .mulReg16Reg16Imm8 d q imm => [0x6B, modrm 3 d.code q.code, imm]
  | .mulReg16Mem16Imm8 d m imm => 0x6B :: encodeMem d.code m ++ [imm]
  | .mulReg16Reg16Imm16 d q imm => 0x69 :: modrm 3 d.code q.code :: encodeWord imm
  | .mulReg16Mem16Imm16 d m imm => 0x69 :: encodeMem d.code m ++ encodeWord imm
  | .divuReg8 r => [0xF6, modrm 3 6 r.code]
  | .divuMem8 m => 0xF6 :: encodeMem 6 m
  | .divuReg16 r => [0xF7, modrm 3 6 r.code]
  | .divuMem16 m => 0xF7 :: encodeMem 6 m
  | .divReg8 r => [0xF6, modrm 3 7 r.code]
  | .divMem8 m => 0xF6 :: encodeMem 7 m
  | .divReg16 r => [0xF7, modrm 3 7 r.code]
  | .divMem16 m => 0xF7 :: encodeMem 7 m
  | .adjba => [0x37]
  | .adj4a => [0x27]
  | .adjbs => [0x3F]
  | .adj4s => [0x2F]
  | .cvtbd => [0xD4, 0x0A]
  | .cvtdb => [0xD5, 0x0A]
  | .cvtbw => [0x98]
  | .cvtwl => [0x99]
  | .cmpRegReg w d q => [withW 0x3A w, regReg d q]
  | .cmpMemReg w m r => withW 0x38 w :: encodeMem r.code m
  | .cmpRegMem w r m => withW 0x3A w :: encodeMem r.code m
  | .cmpRegImm f r imm => f.opcode :: modrm 3 7 r.code :: f.encode imm
  | .cmpMemImm f m imm => f.opcode :: encodeMem 7 m ++ f.encode imm
  | .cmpAccImm w imm => withW 0x3C w :: encodeImm w imm
  | .notReg w r => [withW 0xF6 w, modrm 3 2 r.code]
  | .notMem w m => withW 0xF6 w :: encodeMem 2 m
  | .negReg w r => [withW 0xF6 w, modrm 3 3 r.code]
  | .negMem w m => withW 0xF6 w :: encodeMem 3 m
  | .testRegReg w d q => [withW 0x84 w, regReg d q]
  | .testMemReg w m r => withW 0x84 w :: encodeMem r.code m
  | .testRegImm w r imm => withW 0xF6 w :: modrm 3 0 r.code :: encodeImm w imm
  | .testMemImm w m imm => withW 0xF6 w :: encodeMem 0 m ++ encodeImm w imm
  | .testAccImm w imm => withW 0xA8 w :: encodeImm w imm
  | .andRegReg w d q => [withW 0x22 w, regReg d q]
  | .andMemReg w m r => withW 0x20 w :: encodeMem r.code m
  | .andRegMem w r m => withW 0x22 w :: encodeMem r.code m
  | .andRegImm w r imm => withW 0x80 w :: modrm 3 4 r.code :: encodeImm w imm
  | .andMemImm w m imm => withW 0x80 w :: encodeMem 4 m ++ encodeImm w imm
  | .andAccImm w imm => withW 0x24 w :: encodeImm w imm
  | .orRegReg w d q => [withW 0x0A w, regReg d q]
  | .orMemReg w m r => withW 0x08 w :: encodeMem r.code m
  | .orRegMem w r m => withW 0x0A w :: encodeMem r.code m
  | .orRegImm w r imm => withW 0x80 w :: modrm 3 1 r.code :: encodeImm w imm
  | .orMemImm w m imm => withW 0x80 w :: encodeMem 1 m ++ encodeImm w imm
  | .orAccImm w imm => withW 0x0C w :: encodeImm w imm
  | .xorRegReg w d q => [withW 0x32 w, regReg d q]
  | .xorMemReg w m r => withW 0x30 w :: encodeMem r.code m
  | .xorRegMem w r m => withW 0x32 w :: encodeMem r.code m
  | .xorRegImm w r imm => withW 0x80 w :: modrm 3 6 r.code :: encodeImm w imm
  | .xorMemImm w m imm => withW 0x80 w :: encodeMem 6 m ++ encodeImm w imm
  | .xorAccImm w imm => withW 0x34 w :: encodeImm w imm
  | .test1Reg8Cl r => [0x0F, 0x10, modrm 3 0 r.code]
  | .test1Mem8Cl m => 0x0F :: 0x10 :: encodeMem 0 m
  | .test1Reg16Cl r => [0x0F, 0x11, modrm 3 0 r.code]
  | .test1Mem16Cl m => 0x0F :: 0x11 :: encodeMem 0 m
  | .test1Reg8Imm3 r imm => [0x0F, 0x18, modrm 3 0 r.code, imm]
  | .test1Mem8Imm3 m imm => 0x0F :: 0x18 :: encodeMem 0 m ++ [imm]
  | .test1Reg16Imm4 r imm => [0x0F, 0x19, modrm 3 0 r.code, imm]
  | .test1Mem16Imm4 m imm => 0x0F :: 0x19 :: encodeMem 0 m ++ [imm]
  | .not1Reg8Cl r => [0x0F, 0x16, modrm 3 0 r.code]
  | .not1Mem8Cl m => 0x0F :: 0x16 :: encodeMem 0 m
  | .not1Reg16Cl r => [0x0F, 0x17, modrm 3 0 r.code]
  | .not1Mem16Cl m => 0x0F :: 0x17 :: encodeMem 0 m
  | .not1Reg8Imm3 r imm => [0x0F, 0x1E, modrm 3 0 r.code, imm]
  | .not1Mem8Imm3 m imm => 0x0F :: 0x1E :: encodeMem 0 m ++ [imm]
  | .not1Reg16Imm4 r imm => [0x0F, 0x1F, modrm 3 0 r.code, imm]
  | .not1Mem16Imm4 m imm => 0x0F :: 0x1F :: encodeMem 0 m ++ [imm]
  | .clr1Reg8Cl r => [0x0F, 0x12, modrm 3 0 r.code]
  | .clr1Mem8Cl m => 0x0F :: 0x12 :: encodeMem 0 m
  | .clr1Reg16Cl r => [0x0F, 0x13, modrm 3 0 r.code]
  | .clr1Mem16Cl m => 0x0F :: 0x13 :: encodeMem 0 m
  | .clr1Reg8Imm3 r imm => [0x0F, 0x1A, modrm 3 0 r.code, imm]
  | .clr1Mem8Imm3 m imm => 0x0F :: 0x1A :: encodeMem 0 m ++ [imm]
  | .clr1Reg16Imm4 r imm => [0x0F, 0x1B, modrm 3 0 r.code, imm]
  | .clr1Mem16Imm4 m imm => 0x0F :: 0x1B :: encodeMem 0 m ++ [imm]
  | .set1Reg8Cl r => [0x0F, 0x14, modrm 3 0 r.code]
  | .set1Mem8Cl m => 0x0F :: 0x14 :: encodeMem 0 m
  | .set1Reg16Cl r => [0x0F, 0x15, modrm 3 0 r.code]
  | .set1Mem16Cl m => 0x0F :: 0x15 :: encodeMem 0 m
  | .set1Reg8Imm3 r imm => [0x0F, 0x1C, modrm 3 0 r.code, imm]
  | .set1Mem8Imm3 m imm => 0x0F :: 0x1C :: encodeMem 0 m ++ [imm]
  | .set1Reg16Imm4 r imm => [0x0F, 0x1D, modrm 3 0 r.code, imm]
  | .set1Mem16Imm4 m imm => 0x0F :: 0x1D :: encodeMem 0 m ++ [imm]
  | .not1Cy => [0xF5]
  | .clr1Cy => [0xF8]
  | .set1Cy => [0xF9]
  | .clr1Dir => [0xFC]
  | .set1Dir => [0xFD]
  | .shlReg1 w r => [withW 0xD0 w, modrm 3 4 r.code]
  | .shlMem1 w m => withW 0xD0 w :: encodeMem 4 m
  | .shlRegCl w r => [withW 0xD2 w, modrm 3 4 r.code]
  | .shlMemCl w m => withW 0xD2 w :: encodeMem 4 m
  | .shlRegImm8 w r imm => [withW 0xC0 w, modrm 3 4 r.code, imm]
  | .shlMemImm8 w m imm => withW 0xC0 w :: encodeMem 4 m ++ [imm]
  | .shrReg1 w r => [withW 0xD0 w, modrm 3 5 r.code]
  | .shrMem1 w m => withW 0xD0 w :: encodeMem 5 m
  | .shrRegCl w r => [withW 0xD2 w, modrm 3 5 r.code]
  | .shrMemCl w m => withW 0xD2 w :: encodeMem 5 m
  | .shrRegImm8 w r imm => [withW 0xC0 w, modrm 3 5 r.code, imm]
  | .shrMemImm8 w m imm => withW 0xC0 w :: encodeMem 5 m ++ [imm]
  | .shraReg1 w r => [withW 0xD0 w, modrm 3 7 r.code]
  | .shraMem1 w m => withW 0xD0 w :: encodeMem 7 m
  | .shraRegCl w r => [withW 0xD2 w, modrm 3 7 r.code]
  | .shraMemCl w m => withW 0xD2 w :: encodeMem 7 m
  | .shraRegImm8 w r imm => [withW 0xC0 w, modrm 3 7 r.code, imm]
  | .shraMemImm8 w m imm => withW 0xC0 w :: encodeMem 7 m ++ [imm]
  | .rolReg1 w r => [withW 0xD0 w, modrm 3 0 r.code]
  | .rolMem1 w m => withW 0xD0 w :: encodeMem 0 m
  | .rolRegCl w r => [withW 0xD2 w, modrm 3 0 r.code]
  | .rolMemCl w m => withW 0xD2 w :: encodeMem 0 m
  | .rolRegImm8 w r imm => [withW 0xC0 w, modrm 3 0 r.code, imm]
  | .rolMemImm8 w m imm => withW 0xC0 w :: encodeMem 0 m ++ [imm]
  | .rorReg1 w r => [withW 0xD0 w, modrm 3 1 r.code]
  | .rorMem1 w m => withW 0xD0 w :: encodeMem 1 m
  | .rorRegCl w r => [withW 0xD2 w, modrm 3 1 r.code]
  | .rorMemCl w m => withW 0xD2 w :: encodeMem 1 m
  | .rorRegImm8 w r imm => [withW 0xC0 w, modrm 3 1 r.code, imm]
  | .rorMemImm8 w m imm => withW 0xC0 w :: encodeMem 1 m ++ [imm]
  | .rolcReg1 w r => [withW 0xD0 w, modrm 3 2 r.code]
  | .rolcMem1 w m => withW 0xD0 w :: encodeMem 2 m
  | .rolcRegCl w r => [withW 0xD2 w, modrm 3 2 r.code]
  | .rolcMemCl w m => withW 0xD2 w :: encodeMem 2 m
  | .rolcRegImm8 w r imm => [withW 0xC0 w, modrm 3 2 r.code, imm]
  | .rolcMemImm8 w m imm => withW 0xC0 w :: encodeMem 2 m ++ [imm]
  | .rorcReg1 w r => [withW 0xD0 w, modrm 3 3 r.code]
  | .rorcMem1 w m => withW 0xD0 w :: encodeMem 3 m
  | .rorcRegCl w r => [withW 0xD2 w, modrm 3 3 r.code]
  | .rorcMemCl w m => withW 0xD2 w :: encodeMem 3 m
  | .rorcRegImm8 w r imm => [withW 0xC0 w, modrm 3 3 r.code, imm]
  | .rorcMemImm8 w m imm => withW 0xC0 w :: encodeMem 3 m ++ [imm]
  | .callNear disp => 0xE8 :: encodeWord disp
  | .callRegptr16 r => [0xFF, modrm 3 2 r.code]
  | .callMemptr16 m => 0xFF :: encodeMem 2 m
  | .callFar off seg => 0x9A :: encodeWord off ++ encodeWord seg
  | .callMemptr32 m => 0xFF :: encodeMem 3 m
  | .retNear => [0xC3]
  | .retNearPop n => 0xC2 :: encodeWord n
  | .retFar => [0xCB]
  | .retFarPop n => 0xCA :: encodeWord n
  | .pushMem16 m => 0xFF :: encodeMem 6 m
  | .pushReg16 r => [withReg 0x50 r]
  | .pushSreg g => [withSreg 0x06 g]
  | .pushR => [0x60]
  | .pushImm8 imm => [0x6A, imm]
  | .pushImm16 imm => 0x68 :: encodeWord imm
  | .pushPsw => [0x9C]
  | .popMem16 m => 0x8F :: encodeMem 0 m
  | .popReg16 r => [withReg 0x58 r]
  | .popSreg g => [withSreg 0x07 g]
  | .popR => [0x61]
  | .popPsw => [0x9D]
  | .prepare size depth => 0xC8 :: encodeWord size ++ [depth]
  | .dispose => [0xC9]
  | .brNear disp => 0xE9 :: encodeWord disp
  | .brShort disp => [0xEB, disp]
  | .brRegptr16 r => [0xFF, modrm 3 4 r.code]
  | .brMemptr16 m => 0xFF :: encodeMem 4 m
  | .brFar off seg => 0xEA :: encodeWord off ++ encodeWord seg
  | .brMemptr32 m => 0xFF :: encodeMem 5 m
  | .bv disp => [0x70, disp]
  | .bnv disp => [0x71, disp]
  | .bc disp => [0x72, disp]
  | .bnc disp => [0x73, disp]
  | .be disp => [0x74, disp]
  | .bne disp => [0x75, disp]
  | .bnh disp => [0x76, disp]
  | .bh disp => [0x77, disp]
  | .bpe disp => [0x7A, disp]
  | .bpo disp => [0x7B, disp]
  | .bn disp => [0x78, disp]
  | .bp disp => [0x79, disp]
  | .blt disp => [0x7C, disp]
  | .bge disp => [0x7D, disp]
  | .ble disp => [0x7E, disp]
  | .bgt disp => [0x7F, disp]
  | .dbnzne disp => [0xE0, disp]
  | .dbnze disp => [0xE1, disp]
  | .dbnz disp => [0xE2, disp]
  | .bcwz disp => [0xE3, disp]
  | .brk3 => [0xCC]
  | .brkImm8 imm => [0xCD, imm]
  | .brkv => [0xCE]
  | .reti => [0xCF]
  | .chkind r m => 0x62 :: encodeMem r.code m
  | .halt => [0xF4]
  | .poll => [0x9B]
  | .di => [0xFA]
  | .ei => [0xFB]
  | .buslock => [0xF0]
  | .fpo1 x y z => [fpo1Byte x, modrm 3 y z]
  | .fpo1Mem x y m => fpo1Byte x :: encodeMem y m
  | .fpo2 x y z => [fpo2Byte x, modrm 3 y z]
  | .fpo2Mem x y m => fpo2Byte x :: encodeMem y m
  | .nop => [0x90]
  | .ds1Prefix => [0x26]
  | .psPrefix => [0x2E]
  | .ssPrefix => [0x36]
  | .ds0Prefix => [0x3E]
  | .brkem imm => [0x0F, 0xFF, imm]
  | .retem => [0xED, 0xFD]
  | .calln imm => [0xED, 0xED, imm]
  | .addRegRegD0 w d q => [withW 0x00 w, modrm 3 q.code d.code]
  | .orRegRegD0 w d q => [withW 0x08 w, modrm 3 q.code d.code]
  | .addcRegRegD0 w d q => [withW 0x10 w, modrm 3 q.code d.code]
  | .subcRegRegD0 w d q => [withW 0x18 w, modrm 3 q.code d.code]
  | .andRegRegD0 w d q => [withW 0x20 w, modrm 3 q.code d.code]
  | .subRegRegD0 w d q => [withW 0x28 w, modrm 3 q.code d.code]
  | .xorRegRegD0 w d q => [withW 0x30 w, modrm 3 q.code d.code]
  | .cmpRegRegD0 w d q => [withW 0x38 w, modrm 3 q.code d.code]
  | .movRegRegD0 w d q => [withW 0x88 w, modrm 3 q.code d.code]
  | .incReg16Two r => [0xFF, modrm 3 0 r.code]
  | .decReg16Two r => [0xFF, modrm 3 1 r.code]
  | .pushReg16Two r => [0xFF, modrm 3 6 r.code]
  | .popReg16Two r => [0x8F, modrm 3 0 r.code]
  | .movRegImmC6 w r imm => withW 0xC6 w :: modrm 3 0 r.code :: encodeImm w imm

end Sys2Proof

end
end

