-- ==== Sys2Proof/Config.lean ====
section
/-! DEFINITION. What an implementation fixes and the free values: opaque constants, so that a claim about the
machine holds for every choice. The log entry named beside each says what the spec leaves open. -/

namespace Sys2Proof

/-- The two implementations of the architecture (00_scope.md R6). -/
inductive Chip where
  | uPD70108
  | uPD70116
deriving DecidableEq, Repr

/-- How the system is wired, by the pin S/LG (00_scope.md R8): it decides which bus-control pins exist. -/
inductive Wiring where
  | smallScale
  | largeScale
deriving DecidableEq, Repr

/-- `QUEUE_BYTES` (00_scope.md R6, 92_eei_decisions.md section 1). -/
def Chip.queueBytes : Chip → Nat
  | .uPD70108 => 4
  | .uPD70116 => 6

/-- The empty bytes the queue must have for a prefetch: a byte, or a word (10_state.md R32). -/
def Chip.prefetchUnit : Chip → Nat
  | .uPD70108 => 1
  | .uPD70116 => 2

/-- How many bytes after an instruction a store of it may miss: `QUEUE_BYTES`, and one more where the prefetch is
word-wide (20_memory.md R86; log entry 6). -/
def Chip.fetchWindow : Chip → Nat
  | .uPD70108 => 4
  | .uPD70116 => 7

/-- The six status flags of the PSW (10_state.md R33). -/
inductive Flag where
  | v
  | s
  | z
  | ac
  | p
  | cy
deriving DecidableEq, Repr

/-- The value drawn for a flag that an instruction leaves undefined (00_scope.md R10, R11; D9; log entry 16). -/
opaque Config.freeFlag (draw : Nat) (f : Flag) : Bool

/-- A drawn truth value other than a flag: `slot` tells several draws of one instruction apart (log entry 16). -/
opaque Config.freeBool (draw slot : Nat) : Bool

/-- A drawn byte (93_implementation_defined.md `any value`; log entry 16). -/
opaque Config.freeByte (draw slot : Nat) : Byte

/-- A drawn word (93_implementation_defined.md `any value`; log entry 16). -/
opaque Config.freeWord (draw slot : Nat) : Word

/-- The byte an I/O device answers with (20_memory.md R80, R81; log entry 29). -/
opaque Config.ioByte (draw : Nat) (port : Word) : Byte

/-- The byte the environment answers with at a memory address that is neither RAM nor ROM, when the CPU reads data
there after `cycles` recorded cycles (D21; 93_implementation_defined.md V12; log entry 4). -/
opaque Config.openByte (cycles : Nat) (address : Nat) : Byte

/-- The same where the CPU prefetches instruction bytes, after `events` recorded events of the prefetcher (D21; log
entry 4). -/
opaque Config.openCode (events : Nat) (address : Nat) : Byte

/-- Whether the instruction byte at the offset `off`, changed in memory after it may have been prefetched, is taken as
it was before the store (20_memory.md R86, D4; log entry 6). -/
opaque Config.fetchIsStale (draw : Nat) (off : Word) : Bool

/-- How many bus cycles the prefetcher makes ahead of an instruction, as far as the queue has room (10_state.md R32,
70_reset_and_hazards.md R762; log entry 6). -/
opaque Config.prefetchCycles (draw : Nat) : Nat

/-- How many of the data cycles of a step RESET lets happen when it cuts the step short (70_reset_and_hazards.md R741;
log entry 27). -/
opaque Config.cyclesBeforeReset (draw : Nat) : Nat

/-- How many of the prefetcher's events of that step happen (R741; log entry 27). -/
opaque Config.fetchesBeforeReset (draw : Nat) : Nat

/-- `WORD_AT_FFFF`: true is `segment_wrap`, false is `linear` (20_memory.md R71, D6; log entry 7). -/
opaque Config.wordWrapsInSegment : Bool

/-- `PUSH SP` stores the value SP had before the instruction (true) or the decremented value (false)
(46_control_transfer.md R542, D7; log entry 8). -/
opaque Config.pushSpStoresOld : Bool

/-- `POP SP` leaves the popped word in SP (true) or that word plus 2 (false) (R552, D7; log entry 8). -/
opaque Config.popSpKeepsPopped : Bool

/-- `CALL SP` branches to the value SP had before the push (true) or after it (false) (R522, D7; log entry 8). -/
opaque Config.callSpReadsOld : Bool

/-- A call through memory reads its pointer before the push (true) or after it (false) (R523, D7; log entry 8). -/
opaque Config.callReadsPointerFirst : Bool

/-- `EXT` into AL or AH: the updated bit offset is written after AW (true) or before it (false)
(41_block_bitfield_io.md R223, D28; log entry 10). -/
opaque Config.extWritesOffsetLast : Bool

/-- `BRKEM_CLEARS_IE_BRK`, open in the spec (48_emulation_mode.md R660, D12; log entry 20). -/
opaque Config.brkemClearsIeBrk : Bool

end Sys2Proof
end

