-- ==== Sys2Proof/Machine/State.lean ====
section
/-! DEFINITION. The state of the machine as plain data (10_state.md), the reasons a step can stop, and the state after
reset (10_state.md R50). -/

namespace Sys2Proof.Machine

/-- The ten flags of the program status word (10_state.md R33). The six other bits are fixed (R34) and not stored. -/
structure Psw where
  /-- Bit 15: true is native mode, false 8080 emulation mode (R45). -/
  md : Bool
  /-- Bit 11: overflow (R41). -/
  v : Bool
  /-- Bit 10: direction of the block instructions (R42). -/
  dir : Bool
  /-- Bit 9: interrupt enable (R43). -/
  ie : Bool
  /-- Bit 8: break, the single-step flag (R44). -/
  brk : Bool
  /-- Bit 7: sign (R40). -/
  s : Bool
  /-- Bit 6: zero (R39). -/
  z : Bool
  /-- Bit 4: auxiliary carry (R38). -/
  ac : Bool
  /-- Bit 2: parity (R37). -/
  p : Bool
  /-- Bit 0: carry (R36). -/
  cy : Bool
deriving DecidableEq, Repr

/-- The interrupt-inhibit window (10_state.md R49, 60_exceptions.md R692): closed after a segment-register move for
NMI, INT and single step, after EI for INT. -/
inductive Window where
  | none
  | sreg
  | ei
deriving DecidableEq, Repr

/-- The repeat prefixes (41_block_bitfield_io.md R201 to R206). -/
inductive Repeat where
  | repc
  | repnc
  | rep
  | repne
deriving DecidableEq, Repr

/-- The prefix state (10_state.md R49). -/
structure Prefixes where
  /-- The segment override in force. -/
  seg : Option SReg
  /-- The repeat prefix in force. -/
  rep : Option Repeat
  /-- BUSLOCK in force. -/
  buslock : Bool
  /-- The number of prefix bytes. -/
  count : Nat
deriving DecidableEq, Repr

/-- No prefix. -/
def Prefixes.none : Prefixes := ⟨Option.none, Option.none, false, 0⟩

/-- The levels the CPU samples: INT, the vector byte the interrupt controller would supply, POLL, and RESET
(60_exceptions.md R689, R690; 47_break_cpu_control.md R617; 70_reset_and_hazards.md R740). -/
structure Pins where
  intHigh : Bool
  vector : Byte
  pollLow : Bool
  resetHigh : Bool
deriving DecidableEq, Repr

/-- One sample of the pins, taken at the start of a step (log entry 24): a rising edge of NMI, and the levels. -/
structure Input where
  nmiEdge : Bool
  pins : Pins
deriving DecidableEq, Repr

/-- What answers at a memory address (D21): RAM, ROM that ignores writes, or the environment. -/
inductive RegionKind where
  | ram
  | rom
  | device
deriving DecidableEq, Repr

/-- A region of the platform's memory map (D21, 20_memory.md R79). -/
structure Region where
  base : Nat
  size : Nat
  kind : RegionKind
deriving DecidableEq, Repr

/-- The types of bus cycle (10_state.md R56). -/
inductive CycleKind where
  | interruptAck
  | ioRead
  | ioWrite
  | halt
  | fetch
  | memRead
  | memWrite
  | passive
deriving DecidableEq, Repr

/-- One bus cycle, as the pins show it to an external observer (10_state.md R56; 20_memory.md R72, R78). -/
structure BusCycle where
  /-- The type, on BS2-BS0 or on IO/M, BUFR/W and LBS0. -/
  kind : CycleKind
  /-- PS3: the complement of MD. -/
  ps3 : Bool
  /-- PS2: IE. -/
  ps2 : Bool
  /-- Whether BUSLOCK is active: other bus masters are kept off the bus (20_memory.md R75). -/
  locked : Bool
  /-- PS1 and PS0: the segment register used, if the access uses one. -/
  segment : Option SReg
  /-- The memory or I/O address, if the cycle has one. -/
  address : Option Nat
  /-- The bytes transferred, from the lowest address on. -/
  data : List Byte
deriving DecidableEq, Repr

/-- What QS1 and QS0 say of the instruction queue (10_state.md R56). -/
inductive QueueAction where
  | nothing
  | firstByte
  | flushed
  | subsequentByte
deriving DecidableEq, Repr

/-- What the execution unit does on the bus (20_memory.md R80 to R82, 60_exceptions.md R691, 47_break_cpu_control.md
R621, R622; log entry 28). -/
inductive BusEvent where
  /-- A bus cycle other than a program fetch. -/
  | cycle (c : BusCycle)
  /-- FPO1 with its operation bits, `z` for the register form only: what the floating point chip takes as its own. -/
  | fpo1 (x y : BitVec 3) (z : Option (BitVec 3))
  /-- FPO2 likewise. -/
  | fpo2 (x : BitVec 1) (y : BitVec 3) (z : Option (BitVec 3))
deriving DecidableEq, Repr

/-- What the prefetcher and the queue do (10_state.md R32, R56; log entry 28). -/
inductive FetchEvent where
  /-- A program fetch cycle. -/
  | cycle (c : BusCycle)
  /-- A queue action other than `nothing`. -/
  | queue (a : QueueAction)
deriving DecidableEq, Repr

/-- Memory as a list of (address, byte) pairs: addresses strictly rising and below 2^20, no byte 00H, since 00H is what
an unlisted address reads as (log entry 3). `Memory.wf` says so. -/
abbrev Memory := List Host.Cell

/-- The state of the machine. -/
structure State where
  /-- AW, with halves AH and AL (10_state.md R21). -/
  aw : Word
  /-- BW (R21). -/
  bw : Word
  /-- CW (R21). -/
  cw : Word
  /-- DW (R21). -/
  dw : Word
  /-- The stack pointer (R23). -/
  sp : Word
  /-- The base pointer (R23). -/
  bp : Word
  /-- The source index register (R23). -/
  ix : Word
  /-- The destination index register (R23). -/
  iy : Word
  /-- The program segment register (R46). -/
  ps : Word
  /-- The stack segment register (R46). -/
  ss : Word
  /-- Data segment register 0 (R46). -/
  ds0 : Word
  /-- Data segment register 1 (R46). -/
  ds1 : Word
  /-- The program counter, an offset in PS (R28). -/
  pc : Word
  /-- The program status word (R33). -/
  psw : Psw
  /-- The bytes of RAM and ROM (R48, 20_memory.md R60). -/
  mem : Memory
  /-- The platform's memory map; an address in no region is RAM (D21; log entry 4). -/
  platform : List Region
  /-- Which of the two implementations this is (00_scope.md R6; log entry 5). -/
  chip : Chip
  /-- How the platform wires the chip (00_scope.md R8; log entry 52). -/
  wiring : Wiring
  /-- The prefetch pointer, an offset in PS (R32). -/
  pfp : Word
  /-- The prefetch queue: the bytes from PC on already read, at most `QUEUE_BYTES` (R32, R49). -/
  queue : List Byte
  /-- The model's own: the bytes from PC on as they were when they came within the reach of the prefetcher, for the
  choice between an old and a new byte (20_memory.md R86; D4; log entry 6). -/
  seen : List Byte
  /-- A rising edge of NMI not yet taken (R49). -/
  nmiLatch : Bool
  /-- The window that the instruction just completed opened (R49, 60_exceptions.md R692). -/
  window : Window
  /-- The value BRK had when the instruction in progress began (R49, 60_exceptions.md R696). -/
  stepArmed : Bool
  /-- A single step carried past a boundary closed by a segment-register move (R49, 60_exceptions.md R686). -/
  stepPending : Bool
  /-- The prefixes in force (R49). -/
  prefixes : Prefixes
  /-- Standby mode (R49, 60_exceptions.md R699). -/
  standby : Bool
  /-- Whether a BUSLOCK prefix stood before the HALT last executed: it fixes the BUSLOCK output in standby
  (60_exceptions.md R699, Table 9-1). -/
  haltLocked : Bool
  /-- `MDWE`, the write enable of MD (R49, 48_emulation_mode.md R658). -/
  mdwe : Bool
  /-- A block instruction whose repeat loop goes on, or a POLL that waits (41_block_bitfield_io.md R202,
  47_break_cpu_control.md R617; log entry 23). -/
  inProgress : Option Instr
  /-- The levels last sampled (00_scope.md R8). -/
  pins : Pins
  /-- The samples still to come, one a step (00_scope.md R8; log entry 24). -/
  inputs : List Input
  /-- What the execution unit has done on the bus, newest first; its length counts the cycles, for free values (R56,
  20_memory.md R78; log entry 28). -/
  bus : List BusEvent
  /-- What the prefetcher has done, newest first; its order relative to `bus` is open (R32, R56, 20_memory.md R77; log
  entry 28). -/
  fetchLog : List FetchEvent
  /-- The model's own: the index of the next free values; every step advances it (00_scope.md R10; log entry 16). -/
  draws : Nat
deriving DecidableEq, Repr

/-- The machine has no fault: no event stops it, every exception is a vectored interrupt (60_exceptions.md R680,
R703). -/
inductive Fault where
deriving DecidableEq, Repr

/-- Why a step is refused: the execution is outside the behaviour the spec gives. -/
inductive Refusal where
  /-- Raised by `step`: an unlisted opcode byte (30_encoding.md R117, R130). Safe: nothing is claimed of it. -/
  | undefinedOpcode
  /-- Raised by `step`: an unlisted sub-opcode or fixed bit (30_encoding.md R119, R121, R122). Safe. -/
  | undefinedSubOpcode
  /-- Raised by `step`: `mod = 11` where the operand must be memory (30_encoding.md R120). Safe. -/
  | registerWhereMemoryRequired
  /-- Raised by `step`: `MOV PS,...` (40_data_transfer.md R160). Safe. -/
  | movToPS
  /-- Raised by `step` for a repeat prefix before an instruction the spec does not pair it with, and by the meaning of
  a repeat prefix after another one (41_block_bitfield_io.md R202). Safe. -/
  | repPrefixMisuse
  /-- Raised by the meaning of a segment override or BUSLOCK prefix after another of its type
  (47_break_cpu_control.md R626, 60_exceptions.md R695). Safe. -/
  | prefixMisuse
  /-- Raised by the meaning of BRKEM while MD is write-enabled (48_emulation_mode.md R657). Safe. -/
  | nestedBrkem
  /-- Raised by `step` in emulation mode at an instruction that is not RETEM or CALLN (48_emulation_mode.md R665).
  Safe. -/
  | emulationMode
  /-- Raised by `exec` for an instruction that has no meaning yet, by its mnemonic. Safe. No arm raises it. -/
  | notModelled (mnemonic : String)
deriving DecidableEq, Repr

/-- The machine right after reset (10_state.md R50): PS is FFFFH; PC, PFP, SS, DS0 and DS1 are 0000H; MD is 1; DIR, IE
and BRK are 0; the queue is empty; the hidden state is cleared (D8, D20; log entry 2). The registers and flags that
reset leaves undefined hold 0 (log entry 1); no byte of memory is listed (log entry 3). -/
def State.reset : State where
  aw := 0
  bw := 0
  cw := 0
  dw := 0
  sp := 0
  bp := 0
  ix := 0
  iy := 0
  ps := 0xFFFF
  ss := 0
  ds0 := 0
  ds1 := 0
  pc := 0
  psw :=
    { md := true, v := false, dir := false, ie := false, brk := false, s := false, z := false, ac := false,
      p := false, cy := false }
  mem := []
  platform := []
  chip := .uPD70116
  wiring := .smallScale
  pfp := 0
  queue := []
  seen := []
  nmiLatch := false
  window := .none
  stepArmed := false
  stepPending := false
  prefixes := Prefixes.none
  standby := false
  haltLocked := false
  mdwe := false
  inProgress := none
  pins := { intHigh := false, vector := 0, pollLow := true, resetHigh := false }
  inputs := []
  bus := []
  fetchLog := []
  draws := 0

end Sys2Proof.Machine
end

