-- ==== Sys2Proof/Machine/Memory.lean ====
section
/-! DEFINITION. Memory: reading and writing one byte, physical addresses, bytes, words and double words (20_memory.md). -/

namespace Sys2Proof.Machine

/-- The canonical form from the address `low` on: addresses strictly rising and below 2^20, no byte 00H. -/
def Memory.wfFrom (low : Nat) : Memory → Bool
  | [] => true
  | (a, v) :: rest => decide (low ≤ a) && decide (a < 2 ^ 20) && (v != 0) && Memory.wfFrom (a + 1) rest

/-- The canonical form of memory: equal memories are equal lists. -/
def Memory.wf (m : Memory) : Bool := m.wfFrom 0

/-- The byte at an address; an unlisted address reads 00H (log entry 3). -/
def Memory.read : Memory → Nat → Byte
  | [], _ => 0
  | (b, v) :: rest, a => if a = b then v else Memory.read rest a

/-- Memory with the byte `v` at the address `a`; writing 00H removes the entry. -/
def Memory.write : Memory → Nat → Byte → Memory
  | [], a, v => if v = 0 then [] else [(a, v)]
  | (b, w) :: rest, a, v =>
    if b < a then (b, w) :: Memory.write rest a v
    else if a = b then (if v = 0 then Memory.write rest a v else (a, v) :: rest)
    else (if v = 0 then (b, w) :: Memory.write rest a v else (a, v) :: (b, w) :: rest)

/-- The kind of the first region that holds the address; an address in no region is RAM (D21; log entry 4). -/
def kindAt : List Region → Nat → RegionKind
  | [], _ => .ram
  | r :: rest, a => if r.base ≤ a ∧ a < r.base + r.size then r.kind else kindAt rest a

/-- The byte read at a physical address: RAM and ROM hold it, elsewhere the environment's answer is read (D21). -/
def State.byteOr (s : State) (a : Nat) (answer : Byte) : Byte :=
  match kindAt s.platform a with
  | .ram => s.mem.read a
  | .rom => s.mem.read a
  | .device => answer

/-- Reads the byte at a physical address as data; each read of a device gives another free value, since every read is
recorded (20_memory.md R82; 93_implementation_defined.md V12; log entry 4). -/
def State.readByte (s : State) (a : Nat) : Byte := s.byteOr a (Config.openByte s.bus.length a)

/-- Writes the byte at a physical address: RAM takes it, ROM ignores it, a device keeps it to itself (D21). -/
def State.writeByte (s : State) (a : Nat) (v : Byte) : State :=
  match kindAt s.platform a with
  | .ram => { s with mem := s.mem.write a v }
  | .rom => s
  | .device => s

/-- `phys(seg, off)`: (seg * 16 + off) mod 2^20 (20_memory.md R62). -/
def phys (seg off : Word) : Nat := (seg.toNat * 16 + off.toNat) % 2 ^ 20

/-- The physical address of byte `k` of an operand at `seg:off` (20_memory.md R71): past offset FFFFH it is either
offset 0000H of the same segment or the next physical address (D6; log entry 7). -/
def byteAddr (seg off : Word) (k : Nat) : Nat :=
  if off.toNat + k < 2 ^ 16 then (seg.toNat * 16 + off.toNat + k) % 2 ^ 20
  else if Config.wordWrapsInSegment then (seg.toNat * 16 + (off.toNat + k - 2 ^ 16)) % 2 ^ 20
  else (seg.toNat * 16 + off.toNat + k) % 2 ^ 20

/-- The word whose low byte is byte `k` of an operand at `seg:off` (20_memory.md R66, R70). -/
def State.loadWord (s : State) (seg off : Word) (k : Nat) : Word :=
  s.readByte (byteAddr seg off (k + 1)) ++ s.readByte (byteAddr seg off k)

/-- `MemReadS(seg, off, N)` (20_memory.md R70). -/
def State.load (s : State) (w : Width) (seg off : Word) : Val w :=
  match w with
  | .byte => s.readByte (byteAddr seg off 0)
  | .word => s.loadWord seg off 0

/-- Puts a byte, or the low byte of a word and then its high byte, in memory (20_memory.md R66, R74). -/
def State.storeBytes (s : State) (w : Width) (seg off : Word) (v : Val w) : State :=
  match w with
  | .byte => s.writeByte (byteAddr seg off 0) v
  | .word =>
    (s.writeByte (byteAddr seg off 0) (BitVec.extractLsb' 0 8 v)).writeByte (byteAddr seg off 1)
      (BitVec.extractLsb' 8 8 v)

/-- The word at a physical address, as the vector fetch reads it (60_exceptions.md R681). -/
def State.loadPhysical (s : State) (a : Nat) : Word := s.readByte (a + 1) ++ s.readByte a

end Sys2Proof.Machine
end

