-- ==== Sys2Proof/Machine/Bus.lean ====
section
/-! DEFINITION. The bus: what the pins show of a cycle (10_state.md R56), how many cycles an access takes
(20_memory.md R72, R81), and the record of the cycles made. -/

namespace Sys2Proof.Machine

/-- BS2-BS0 in a large-scale system (10_state.md R56). -/
def CycleKind.busStatus : CycleKind → BitVec 3
  | .interruptAck => 0b000
  | .ioRead => 0b001
  | .ioWrite => 0b010
  | .halt => 0b011
  | .fetch => 0b100
  | .memRead => 0b101
  | .memWrite => 0b110
  | .passive => 0b111

/-- IO/M, BUFR/W and LBS0 in a small-scale μPD70108 system (10_state.md R56); `BusCycle.pins` says which of them a chip and
a system have. -/
def CycleKind.smallScaleStatus : CycleKind → BitVec 3
  | .fetch => 0b000
  | .memRead => 0b001
  | .memWrite => 0b010
  | .passive => 0b011
  | .interruptAck => 0b100
  | .ioRead => 0b101
  | .ioWrite => 0b110
  | .halt => 0b111

/-- PS1 and PS0: the segment register used for the access (10_state.md R56). -/
def segmentStatus : SReg → BitVec 2
  | .ds1 => 0b00
  | .ss => 0b01
  | .ps => 0b10
  | .ds0 => 0b11

/-- QS1 and QS0 (10_state.md R56). -/
def QueueAction.status : QueueAction → BitVec 2
  | .nothing => 0b00
  | .firstByte => 0b01
  | .flushed => 0b10
  | .subsequentByte => 0b11

/-- A0 of a cycle that has an address (20_memory.md R72). -/
def BusCycle.a0 (c : BusCycle) : Option Bool := c.address.map fun a => decide (a % 2 = 1)

/-- UBE, a pin of the μPD70116 only (00_scope.md R6): low (false) when the upper half of the data bus is used, that is for
a word, for a byte at an odd address, and in the interrupt acknowledge cycles (20_memory.md R72, 60_exceptions.md R691). -/
def BusCycle.ube (c : BusCycle) : Chip → Option Bool
  | .uPD70108 => none
  | .uPD70116 => some !(c.kind == .interruptAck || decide (c.data.length = 2) || c.a0 == some true)

/-- The memory and I/O select pin of a small-scale system: IO/M of the μPD70108, high for I/O, and IO/M of the μPD70116,
low for I/O (00_scope.md R6). That the second is the complement of the first in every cycle is DEDUCED (log entry 52). -/
def CycleKind.selectPin (k : CycleKind) : Chip → Bool
  | .uPD70108 => k.smallScaleStatus.getLsbD 2
  | .uPD70116 => !k.smallScaleStatus.getLsbD 2

/-- The levels of the pins that tell what a cycle is; `none` is a pin the system does not have, or, for PS1, PS0 and A0, a
cycle without a segment register or an address (10_state.md R56; 00_scope.md R6, R8). -/
structure StatusPins where
  /-- BS2-BS0. -/
  busStatus : Option (BitVec 3)
  /-- IO/M. -/
  select : Option Bool
  /-- BUFR/W. -/
  bufferWrite : Option Bool
  /-- LBS0. -/
  lbs0 : Option Bool
  /-- UBE. -/
  ube : Option Bool
  /-- A0. -/
  a0 : Option Bool
  /-- PS3 and PS2. -/
  mode : BitVec 2
  /-- PS1 and PS0. -/
  segment : Option (BitVec 2)
  /-- BUSLOCK, low when active. -/
  buslock : Option Bool
deriving DecidableEq, Repr

/-- What the pins of a chip show of a cycle in a system: BS2-BS0 and BUSLOCK in a large-scale one; the select pin, BUFR/W
and, on the μPD70108, LBS0 in a small-scale one (10_state.md R56; 20_memory.md R75; 00_scope.md R6, R8; log entry 52). -/
def BusCycle.pins (c : BusCycle) (chip : Chip) (wiring : Wiring) : StatusPins :=
  let small := decide (wiring = .smallScale)
  { busStatus := if small then none else some c.kind.busStatus
    select := if small then some (c.kind.selectPin chip) else none
    bufferWrite := if small then some (c.kind.smallScaleStatus.getLsbD 1) else none
    lbs0 := if small && chip == .uPD70108 then some (c.kind.smallScaleStatus.getLsbD 0) else none
    ube := c.ube chip
    a0 := c.a0
    mode := BitVec.ofBool c.ps3 ++ BitVec.ofBool c.ps2
    segment := c.segment.map segmentStatus
    buslock := if small then none else some !c.locked }

/-- QS1 and QS0, which a large-scale system has (10_state.md R56). -/
def QueueAction.pins (a : QueueAction) : Wiring → Option (BitVec 2)
  | .smallScale => none
  | .largeScale => some a.status

/-- The outputs that Table 9-1 fixes in standby; true is high, `none` is a pin the system does not have. The pins "fixed at
either high or low level" are not among them (60_exceptions.md R699). -/
structure StandbyPins where
  /-- QS1 and QS0. -/
  queueStatus : Option (BitVec 2)
  /-- BS2-BS0. -/
  busStatus : Option (BitVec 3)
  /-- BUSLOCK, low when active. -/
  buslock : Option Bool
  /-- INTAK, low when active. -/
  intak : Option Bool
  /-- BUFEN, low when active. -/
  bufen : Option Bool
  /-- WR, low when active. -/
  wr : Option Bool
  /-- RD, low when active. -/
  rd : Option Bool
  /-- ASTB, high when active. -/
  astb : Option Bool
  /-- UBE, low when active. -/
  ube : Option Bool
deriving DecidableEq, Repr

/-- The outputs while the machine is in standby: the control outputs at their inactive levels, but BUSLOCK low if a BUSLOCK
prefix stood before HALT (60_exceptions.md R699, Table 9-1). -/
def State.standbyPins (s : State) : StandbyPins :=
  let large {α : Type} (x : α) : Option α := if s.wiring = .largeScale then some x else none
  let small (x : Bool) : Option Bool := if s.wiring = .smallScale then some x else none
  { queueStatus := large QueueAction.nothing.status
    busStatus := large CycleKind.passive.busStatus
    buslock := large !s.haltLocked
    intak := small true
    bufen := small true
    wr := small true
    rd := small true
    astb := small false
    ube := if s.chip = .uPD70116 then some true else none }

/-- A segment register (10_state.md R47). -/
def State.readSreg (s : State) : SReg → Word
  | .ds1 => s.ds1
  | .ps => s.ps
  | .ss => s.ss
  | .ds0 => s.ds0

/-- Whether a word at an address is transferred in one cycle: on the μPD70116, at an even address
(20_memory.md R72, R81). -/
def wordInOneCycle : Chip → Nat → Bool
  | .uPD70108, _ => false
  | .uPD70116, a => decide (a % 2 = 0)

/-- BUSLOCK, low when active, while an instruction runs: a large-scale system has it, active when a BUSLOCK prefix stands
before the instruction (47_break_cpu_control.md R620). For standby see `standbyPins`. -/
def State.buslockPin (s : State) : Option Bool :=
  match s.wiring with
  | .smallScale => none
  | .largeScale => some !s.prefixes.buslock

/-- A cycle made now, with the mode and the interrupt enable on PS3 and PS2, and locked by a BUSLOCK prefix
(10_state.md R43, R45, R56; 20_memory.md R75). -/
def State.busCycle (s : State) (kind : CycleKind) (segment : Option SReg) (address : Option Nat)
    (data : List Byte) : BusCycle :=
  { kind := kind
    ps3 := !s.psw.md
    ps2 := s.psw.ie
    locked := s.prefixes.buslock
    segment := segment
    address := address
    data := data }

/-- The cycles, in their order, that transfer a value whose byte `k` is at the address `addr k`
(20_memory.md R66, R72, R81). -/
def State.cyclesOf (s : State) (kind : CycleKind) (segment : Option SReg) (addr : Nat → Nat) (w : Width)
    (v : Val w) : List BusCycle :=
  match w with
  | .byte => [s.busCycle kind segment (some (addr 0)) [v]]
  | .word =>
    if wordInOneCycle s.chip (addr 0) then
      [s.busCycle kind segment (some (addr 0)) [BitVec.extractLsb' 0 8 v, BitVec.extractLsb' 8 8 v]]
    else
      [s.busCycle kind segment (some (addr 0)) [BitVec.extractLsb' 0 8 v],
        s.busCycle kind segment (some (addr 1)) [BitVec.extractLsb' 8 8 v]]

/-- The read cycles of an operand in the segment `g` (20_memory.md R70, R82). -/
def State.readCycles (s : State) (w : Width) (g : SReg) (off : Word) : List BusCycle :=
  s.cyclesOf .memRead (some g) (byteAddr (s.readSreg g) off) w (s.load w (s.readSreg g) off)

/-- The read cycles of the word whose low byte is byte `k` of an operand (20_memory.md R67, R71). -/
def State.wordReadCycles (s : State) (g : SReg) (off : Word) (k : Nat) : List BusCycle :=
  s.cyclesOf .memRead (some g) (fun j => byteAddr (s.readSreg g) off (k + j)) .word (s.loadWord (s.readSreg g) off k)

/-- The write cycles of a value stored in the segment `g` (20_memory.md R70). -/
def State.writeCycles (s : State) (w : Width) (g : SReg) (off : Word) (v : Val w) : List BusCycle :=
  s.cyclesOf .memWrite (some g) (byteAddr (s.readSreg g) off) w v

/-- The two word reads of the vector at the physical address `a` (60_exceptions.md R681, R691). -/
def State.vectorCycles (s : State) (a : Nat) : List BusCycle :=
  s.cyclesOf .memRead none (fun k => a + k) .word (s.loadPhysical a) ++
    s.cyclesOf .memRead none (fun k => a + 2 + k) .word (s.loadPhysical (a + 2))

/-- The cycles of an I/O access; port addresses wrap modulo 2^16 (20_memory.md R80, R81). -/
def State.ioCycles (s : State) (kind : CycleKind) (w : Width) (port : Word) (v : Val w) : List BusCycle :=
  s.cyclesOf kind none (fun k => (port + BitVec.ofNat 16 k).toNat) w v

/-- The two interrupt acknowledge cycles: BUSLOCK is active in the first (20_memory.md R75, 60_exceptions.md R691; in the
second a hold is possible, 90_conflicts.md C47; log entry 39), and the second reads the vector byte. -/
def State.acknowledgeCycles (s : State) (vector : Byte) : List BusCycle :=
  [{ s.busCycle .interruptAck none none [] with locked := true },
    { s.busCycle .interruptAck none none [vector] with locked := false }]

/-- Records cycles, given in their order. -/
def State.recordCycles (s : State) (cs : List BusCycle) : State :=
  { s with bus := (cs.map BusEvent.cycle).reverse ++ s.bus }

/-- The state after an operand was read: the read is on the bus, nothing else has changed (20_memory.md R82). -/
def State.afterLoad (s : State) (w : Width) (g : SReg) (off : Word) : State := s.recordCycles (s.readCycles w g off)

/-- `MemWriteS(seg, off, N, v)`, the segment given by its register (20_memory.md R70). -/
def State.store (s : State) (w : Width) (g : SReg) (off : Word) (v : Val w) : State :=
  (s.storeBytes w (s.readSreg g) off v).recordCycles (s.writeCycles w g off v)

end Sys2Proof.Machine
end

