-- ==== Sys2Proof/Machine/Ops.lean ====
section
/-! DEFINITION. The named operations over registers, the PSW, the program counter, the stack, and taking an exception and
returning from one. -/

namespace Sys2Proof.Machine

/-- The low half of a register (10_state.md R21). -/
def lowByte (x : Word) : Byte := x.extractLsb' 0 8

/-- The high half of a register (10_state.md R21). -/
def highByte (x : Word) : Byte := x.extractLsb' 8 8

/-- A word with its low half replaced (10_state.md R21). -/
def setLow (x : Word) (v : Byte) : Word := highByte x ++ v

/-- A word with its high half replaced (10_state.md R21). -/
def setHigh (x : Word) (v : Byte) : Word := v ++ lowByte x

/-- A byte register: `reg` with `W = 0` (30_encoding.md R106). -/
def State.readReg8 (s : State) : Reg → Byte
  | .alAw => lowByte s.aw
  | .clCw => lowByte s.cw
  | .dlDw => lowByte s.dw
  | .blBw => lowByte s.bw
  | .ahSp => highByte s.aw
  | .chBp => highByte s.cw
  | .dhIx => highByte s.dw
  | .bhIy => highByte s.bw

/-- A word register: `reg` with `W = 1` (30_encoding.md R106). -/
def State.readReg16 (s : State) : Reg → Word
  | .alAw => s.aw
  | .clCw => s.cw
  | .dlDw => s.dw
  | .blBw => s.bw
  | .ahSp => s.sp
  | .chBp => s.bp
  | .dhIx => s.ix
  | .bhIy => s.iy

/-- Writes a byte register: only those eight bits of the word change (10_state.md R21). -/
def State.writeReg8 (s : State) (r : Reg) (v : Byte) : State :=
  match r with
  | .alAw => { s with aw := setLow s.aw v }
  | .clCw => { s with cw := setLow s.cw v }
  | .dlDw => { s with dw := setLow s.dw v }
  | .blBw => { s with bw := setLow s.bw v }
  | .ahSp => { s with aw := setHigh s.aw v }
  | .chBp => { s with cw := setHigh s.cw v }
  | .dhIx => { s with dw := setHigh s.dw v }
  | .bhIy => { s with bw := setHigh s.bw v }

/-- Writes a word register (10_state.md R21, R24). -/
def State.writeReg16 (s : State) (r : Reg) (v : Word) : State :=
  match r with
  | .alAw => { s with aw := v }
  | .clCw => { s with cw := v }
  | .dlDw => { s with dw := v }
  | .blBw => { s with bw := v }
  | .ahSp => { s with sp := v }
  | .chBp => { s with bp := v }
  | .dhIx => { s with ix := v }
  | .bhIy => { s with iy := v }

/-- The register a code names with the width `w` (30_encoding.md R104, R106). -/
def State.readReg (s : State) (w : Width) (r : Reg) : Val w :=
  match w with
  | .byte => s.readReg8 r
  | .word => s.readReg16 r

/-- Writes the register a code names with the width `w`. -/
def State.writeReg (s : State) (w : Width) (r : Reg) (v : Val w) : State :=
  match w with
  | .byte => s.writeReg8 r v
  | .word => s.writeReg16 r v

/-- Writes a segment register (10_state.md R47). -/
def State.writeSreg (s : State) (g : SReg) (v : Word) : State :=
  match g with
  | .ds1 => { s with ds1 := v }
  | .ps => { s with ps := v }
  | .ss => { s with ss := v }
  | .ds0 => { s with ds0 := v }

/-- The 16-bit image of the PSW, as it is stored to memory (10_state.md R33, R34; log entry 47). -/
def Psw.image (p : Psw) : Word :=
  BitVec.ofBool p.md ++ (7 : BitVec 3) ++ BitVec.ofBool p.v ++ BitVec.ofBool p.dir ++ BitVec.ofBool p.ie ++
    BitVec.ofBool p.brk ++ BitVec.ofBool p.s ++ BitVec.ofBool p.z ++ (0 : BitVec 1) ++ BitVec.ofBool p.ac ++
    (0 : BitVec 1) ++ BitVec.ofBool p.p ++ (1 : BitVec 1) ++ BitVec.ofBool p.cy

/-- The ten flags of a 16-bit image; the six other bits are ignored (10_state.md R34). -/
def Psw.ofImage (x : Word) : Psw where
  md := x.getLsbD 15
  v := x.getLsbD 11
  dir := x.getLsbD 10
  ie := x.getLsbD 9
  brk := x.getLsbD 8
  s := x.getLsbD 7
  z := x.getLsbD 6
  ac := x.getLsbD 4
  p := x.getLsbD 2
  cy := x.getLsbD 0

/-- The PSW loaded from an image, as POP PSW and RETI load it: MD only if it is write-enabled
(46_control_transfer.md R555, 48_emulation_mode.md R658; log entry 42). -/
def State.loadPsw (s : State) (x : Word) : State :=
  { s with psw := { Psw.ofImage x with md := if s.mdwe then (Psw.ofImage x).md else s.psw.md } }

/-- Clears the queue: nothing read ahead is left, and QS1 and QS0 say so (10_state.md R31, R56). -/
def State.flushQueue (s : State) : State :=
  { s with queue := [], seen := [], fetchLog := .queue .flushed :: s.fetchLog }

/-- `pc <- target`: the prefetch pointer follows and the queue is cleared (10_state.md R31). -/
def State.writePc (s : State) (target : Word) : State := { s with pc := target, pfp := target }.flushQueue

/-- Loads PC with an offset and PS with a segment. -/
def State.farTransfer (s : State) (target : Word × Word) : State := (s.writeSreg .ps target.2).writePc target.1

/-- `push16(v)` (46_control_transfer.md R540). -/
def State.push16 (s : State) (v : Word) : State :=
  { s with sp := s.sp - 2 }.store .word .ss (s.sp - 2) v

/-- The `k`-th word of the stack, the one at SS:SP being the 0-th (46_control_transfer.md R540). -/
def State.stackWord (s : State) (k : Nat) : Word := s.load .word s.ss (s.sp + BitVec.ofNat 16 (2 * k))

/-- SP past `n` words of the stack (46_control_transfer.md R540). -/
def State.dropWords (s : State) (n : Nat) : State := { s with sp := s.sp + BitVec.ofNat 16 (2 * n) }

/-- The state after the words of the stack with these numbers were read, in this order. -/
def State.afterStack (s : State) (ks : List Nat) : State :=
  s.recordCycles (ks.flatMap fun k => s.readCycles .word .ss (s.sp + BitVec.ofNat 16 (2 * k)))

/-- The state after `n` words were popped: read one after another, SP past them (46_control_transfer.md R540). -/
def State.popWords (s : State) (n : Nat) : State := (s.afterStack (List.range n)).dropWords n

/-- Pushes PSW, PS and the return offset, in this order (60_exceptions.md R684). -/
def State.pushFrame (s : State) (ret : Word) : State := ((s.push16 s.psw.image).push16 s.ps).push16 ret

/-- PC and PS from the vector `n`, at the physical addresses 4n to 4n + 3 (60_exceptions.md R681). -/
def State.toVector (s : State) (n : Byte) : State :=
  (s.recordCycles (s.vectorCycles (4 * n.toNat))).farTransfer
    (s.loadPhysical (4 * n.toNat), s.loadPhysical (4 * n.toNat + 2))

/-- `Interrupt(n, ret)`: the one entry sequence of every interrupt and exception (60_exceptions.md R684): PSW, PS and
the return offset are pushed, IE and BRK are cleared, MD is set, PS and PC come from vector `n`. -/
def State.enterInterrupt (s : State) (n : Byte) (ret : Word) : State :=
  let t := s.pushFrame ret
  { t with psw := { t.psw with ie := false, brk := false, md := true } }.toVector n

/-- PC, PS and the PSW image popped in this order; `flags` says how the image is loaded (60_exceptions.md R697). -/
def State.popFrame (s : State) (flags : State → Word → State) : State :=
  (flags (s.popWords 3) (s.stackWord 2)).farTransfer (s.stackWord 0, s.stackWord 1)

/-- RETI (47_break_cpu_control.md R604). It leaves the write enable of MD, as 48_emulation_mode.md R658 has it, though the
table of 10_state.md R49 lists RETI among its writers: the model's choice (log entry 42). -/
def State.returnFromInterrupt (s : State) : State := s.popFrame State.loadPsw

/-- RETEM: all ten flags, MD included, and MD is write-disabled (48_emulation_mode.md R661). -/
def State.returnFromEmulation (s : State) : State :=
  { s.popFrame (fun t x => { t with psw := Psw.ofImage x }) with mdwe := false }

/-- IE and BRK as BRKEM and CALLN leave them: the parameter `BRKEM_CLEARS_IE_BRK` is open (48_emulation_mode.md R660,
R662; D12; log entry 20). -/
def Psw.afterModeCall (p : Psw) : Psw :=
  { p with ie := p.ie && !Config.brkemClearsIeBrk, brk := p.brk && !Config.brkemClearsIeBrk }

/-- CALLN: as an interrupt, with MD set (48_emulation_mode.md R662). -/
def State.callNative (s : State) (n : Byte) : State :=
  let t := s.pushFrame s.pc
  { t with psw := { t.psw.afterModeCall with md := true } }.toVector n

/-- BRKEM: as an interrupt, with MD cleared and write-enabled (48_emulation_mode.md R660). Between a BRKEM and its
RETEM it is refused (R657; log entry 21). -/
def State.breakForEmulation (s : State) (n : Byte) : Host.Outcome State Fault Refusal :=
  if s.mdwe then .refused .nestedBrkem
  else
    let t := s.pushFrame s.pc
    .next ({ t with psw := { t.psw.afterModeCall with md := false }, mdwe := true }.toVector n)

/-- Opens an interrupt-inhibit window (60_exceptions.md R692). -/
def State.openWindow (s : State) (w : Window) : State := { s with window := w }

/-- IE (47_break_cpu_control.md R618, R619). -/
def State.setIe (s : State) (b : Bool) : State := { s with psw := { s.psw with ie := b } }

/-- DIR (44_compare_logic_bit.md R463, R464). -/
def State.setDir (s : State) (b : Bool) : State := { s with psw := { s.psw with dir := b } }

/-- Records what the floating point chip takes from an FPO instruction (47_break_cpu_control.md R622; log entry 28). -/
def State.recordBus (s : State) (e : BusEvent) : State := { s with bus := e :: s.bus }

/-- `IORead(port, N)`: the devices answer; the high byte is at port + 1 modulo 2^16 (20_memory.md R80; log entry 29). -/
def State.ioRead (s : State) (w : Width) (port : Word) : Val w :=
  match w with
  | .byte => Config.ioByte s.draws port
  | .word => Config.ioByte s.draws (port + 1) ++ Config.ioByte s.draws port

/-- The state after an I/O read: the read is on the bus. -/
def State.afterIoRead (s : State) (w : Width) (port : Word) : State :=
  s.recordCycles (s.ioCycles .ioRead w port (s.ioRead w port))

/-- `IOWrite(port, N, v)` (20_memory.md R80). -/
def State.ioWrite (s : State) (w : Width) (port : Word) (v : Val w) : State :=
  s.recordCycles (s.ioCycles .ioWrite w port v)

end Sys2Proof.Machine
end

