-- ==== Sys2Proof/Machine/Fetch.lean ====
section
/-! DEFINITION. Prefetching and fetching an instruction (10_state.md R28 to R32, 20_memory.md R86), and which
instructions a repeat prefix may precede.

The section is noncomputable for the reason given in Sys2Proof/Decode.lean. -/

noncomputable section

namespace Sys2Proof.Machine

/-- How many bytes the next prefetch reads: on the μPD70116 a word, but one byte at an odd offset, which PFP has only
after a branch to it (10_state.md R32). -/
def State.prefetchBytes (s : State) : Nat :=
  match s.chip with
  | .uPD70108 => 1
  | .uPD70116 => if s.pfp.toNat % 2 = 1 then 1 else 2

/-- The byte in memory at the offset `off` of PS, as the prefetcher reads it (10_state.md R32). -/
def State.codeByte (s : State) (off : Word) : Byte :=
  s.byteOr (phys s.ps off) (Config.openCode s.fetchLog.length (phys s.ps off))

/-- The byte the next prefetch finds `j` places after PFP: the byte in memory, or, where a store changed it after it may
have been prefetched, either of the two (20_memory.md R86; D4; log entry 6). Offsets wrap inside PS (10_state.md R30). -/
def State.prefetchedByte (s : State) (j : Nat) : Byte :=
  let off := s.pfp + BitVec.ofNat 16 j
  match s.seen[s.queue.length + j]? with
  | none => s.codeByte off
  | some old =>
    if old = s.codeByte off then old else if Config.fetchIsStale s.draws off then old else s.codeByte off

/-- One prefetch, if the queue has room for a byte (μPD70108) or a word (μPD70116): a program fetch cycle, its bytes at
the end of the queue, PFP past them (10_state.md R32, R56). -/
def State.prefetch (s : State) : State :=
  if s.queue.length + s.chip.prefetchUnit ≤ s.chip.queueBytes then
    let data := (List.range s.prefetchBytes).map s.prefetchedByte
    { s with
      queue := s.queue ++ data
      pfp := s.pfp + BitVec.ofNat 16 s.prefetchBytes
      fetchLog := .cycle (s.busCycle .fetch (some .ps) (some (phys s.ps s.pfp)) data) :: s.fetchLog }
  else s

/-- `n` prefetches, as far as the queue has room. -/
def State.prefetchTimes (s : State) : Nat → State
  | 0 => s
  | n + 1 => State.prefetchTimes s.prefetch n

/-- The state in which the execution unit finds a byte in the queue: it waits for a prefetch if there is none. -/
def State.withByte (s : State) : State :=
  match s.queue with
  | [] => s.prefetch
  | _ :: _ => s

/-- The next instruction byte (10_state.md R29). -/
def State.nextByte (s : State) : Byte := s.withByte.queue.headD 0

/-- Takes one byte from the queue: PC moves past it and QS1 and QS0 say which byte it was (10_state.md R29, R56). -/
def State.takeByte (s : State) (a : QueueAction) : State :=
  let t := s.withByte
  { t with pc := t.pc + 1, queue := t.queue.tail, seen := t.seen.tail, fetchLog := .queue a :: t.fetchLog }

/-- The next `n` instruction bytes. -/
def State.nextBytes (s : State) (a : QueueAction) : Nat → List Byte
  | 0 => []
  | n + 1 => s.nextByte :: State.nextBytes (s.takeByte a) .subsequentByte n

/-- Takes `n` bytes from the queue. -/
def State.takeBytes (s : State) (a : QueueAction) : Nat → State
  | 0 => s
  | n + 1 => State.takeBytes (s.takeByte a) .subsequentByte n

/-- The queue action at the next byte taken: the first byte of an instruction is its first prefix byte, if it has one
(10_state.md R56; DEDUCED, log entry 28). -/
def State.firstAction (s : State) : QueueAction := if s.prefixes.count = 0 then .firstByte else .subsequentByte

/-- The longest instruction without its prefixes: six bytes (30_encoding.md R101). -/
def maxLength : Nat := 6

/-- The bytes from PC on, as many as the longest instruction has. -/
def State.instructionBytes (s : State) : List Byte := s.nextBytes s.firstAction maxLength

/-- The instruction at PC, decoded by the mode (10_state.md R45, 30_encoding.md R131). -/
def State.fetched (s : State) : Decoded :=
  if s.psw.md then decode s.instructionBytes else decodeEmulation s.instructionBytes

/-- The bytes within the reach of the prefetcher as they are now, but as they were before for those that were within its
reach already (20_memory.md R86; log entry 6). -/
def State.seenBytes (s : State) : List Byte :=
  (List.range s.chip.fetchWindow).map fun k => (s.seen[k]?).getD (s.codeByte (s.pc + BitVec.ofNat 16 k))

/-- PC past the `n` bytes of the instruction (10_state.md R29), a free number of prefetches ahead of it (R32;
70_reset_and_hazards.md R762; log entry 6), and the single step armed by BRK (60_exceptions.md R696). -/
def State.advance (s : State) (n : Nat) : State :=
  let t := s.takeBytes s.firstAction n
  let u := t.prefetchTimes (Config.prefetchCycles s.draws)
  { t with
    queue := u.queue
    pfp := u.pfp
    fetchLog := u.fetchLog
    seen := t.seenBytes
    stepArmed := s.psw.brk }

/-- The refusal for a byte sequence that is no instruction. -/
def refusalOf : DecodeError → Refusal
  | .undefinedOpcode => .undefinedOpcode
  | .undefinedSubOpcode => .undefinedSubOpcode
  | .registerWhereMemoryRequired => .registerWhereMemoryRequired
  | .movToPS => .movToPS
  | .emulationMode => .emulationMode

/-- The nine prefix bytes (30_encoding.md R102). -/
def isPrefix : Instr → Bool
  | .repc => true
  | .repnc => true
  | .rep => true
  | .repne => true
  | .buslock => true
  | .ds1Prefix => true
  | .psPrefix => true
  | .ssPrefix => true
  | .ds0Prefix => true
  | _ => false

/-- Whether the repeat prefix in force may precede the instruction: REP any block instruction, REPC, REPNC and REPNE the
comparing ones (41_block_bitfield_io.md R202; D19). Another prefix byte may still follow. -/
def repeatAllowed (p : Option Repeat) (i : Instr) : Bool :=
  match p with
  | none => true
  | some k =>
    match i with
    | .movbk _ => k == .rep
    | .ldm _ => k == .rep
    | .stm _ => k == .rep
    | .inm _ => k == .rep
    | .outm _ => k == .rep
    | .cmpbk _ => true
    | .cmpm _ => true
    | _ => isPrefix i

end Sys2Proof.Machine

end
end

