-- ==== Sys2Proof/Machine/Boundary.lean ====
section
/-! DEFINITION. What happens between instructions: the pins, reset, standby, and the interrupts that are taken
(60_exceptions.md R684 to R701, 70_reset_and_hazards.md R740 to R743). -/

namespace Sys2Proof.Machine

/-- Takes the sample of the pins for this step: the levels, and a rising edge of NMI into the latch
(60_exceptions.md R688, R689; log entry 24). -/
def State.sample (s : State) : State :=
  match s.inputs with
  | [] => s
  | i :: rest => { s with inputs := rest, pins := i.pins, nmiLatch := s.nmiLatch || i.nmiEdge }

/-- Whether RESET is high in this step (70_reset_and_hazards.md R740). -/
def State.resetRequested (s : State) : Bool := s.sample.pins.resetHigh

/-- The next step draws other free values (log entry 16). -/
def State.nextDraw (s : State) : State := { s with draws := s.draws + 1 }

/-- RESET while the machine runs: the values of 10_state.md R50, the registers and flags it leaves undefined drawn,
memory and the devices not affected, the queue flushed (70_reset_and_hazards.md R741; log entry 27). The values drawn are
independent of those drawn by the step that RESET cuts (93_implementation_defined.md U1): `resetStep` advances the index
between the two. -/
def State.resetEvent (s : State) : State :=
  { State.reset with
    aw := Config.freeWord s.draws 0
    bw := Config.freeWord s.draws 1
    cw := Config.freeWord s.draws 2
    dw := Config.freeWord s.draws 3
    sp := Config.freeWord s.draws 4
    bp := Config.freeWord s.draws 5
    ix := Config.freeWord s.draws 6
    iy := Config.freeWord s.draws 7
    psw :=
      { md := true, dir := false, ie := false, brk := false
        v := Config.freeFlag s.draws .v
        s := Config.freeFlag s.draws .s
        z := Config.freeFlag s.draws .z
        ac := Config.freeFlag s.draws .ac
        p := Config.freeFlag s.draws .p
        cy := Config.freeFlag s.draws .cy }
    mem := s.mem
    platform := s.platform
    chip := s.chip
    wiring := s.wiring
    pins := s.pins
    inputs := s.inputs
    bus := s.bus
    fetchLog := .queue .flushed :: s.fetchLog
    draws := s.draws }

/-- Puts the bytes of a write cycle in memory, the first at the address `a`. -/
def State.writeBytes (s : State) (a : Nat) : List Byte → State
  | [] => s
  | b :: rest => State.writeBytes (s.writeByte (a % 2 ^ 20) b) (a + 1) rest

/-- What an event on the bus does to memory: a memory write cycle writes its bytes, any other does nothing. -/
def State.replay (s : State) : BusEvent → State
  | .cycle c =>
    match c.kind, c.address with
    | .memWrite, some a => s.writeBytes a c.data
    | _, _ => s
  | .fpo1 _ _ _ => s
  | .fpo2 _ _ _ => s

/-- The events that the step from `s` to `u` put on the bus, in their order. -/
def newEvents {ε : Type} (before after : List ε) : List ε := (after.take (after.length - before.length)).reverse

/-- `s` with the first of the events that the step `o` makes on the bus and of its prefetches, a free number of each: a
cut instruction may have written part of what it writes, one whole bus cycle after another (70_reset_and_hazards.md
R741, 20_memory.md R74; log entry 27). -/
def State.cutShort (s : State) (o : Host.Outcome State Fault Refusal) : State :=
  match o with
  | .next u =>
    let made := (newEvents s.bus u.bus).take (Config.cyclesBeforeReset s.draws)
    let fetches := (newEvents s.fetchLog u.fetchLog).take (Config.fetchesBeforeReset s.draws)
    { s with
      mem := (made.foldl State.replay s).mem
      bus := made.reverse ++ s.bus
      fetchLog := fetches.reverse ++ s.fetchLog }
  | .fault _ => s
  | .refused _ => s

/-- A step in which RESET is high, `o` being what the step would have done without it. When RESET has just become high, `o`
is cut short and the machine is reset; an NMI edge and the levels of this sample take no part in `o`. While RESET stays high
the processor does nothing, and an NMI edge is lost (70_reset_and_hazards.md R740, R741, R743; D8). That RESET is a level,
and becomes high within the step whose sample first shows it high, is the model's choice (log entry 27). -/
def State.resetStep (s : State) (o : Host.Outcome State Fault Refusal) : State :=
  if s.pins.resetHigh then { s.sample with nmiLatch := false }.nextDraw
  else (s.cutShort o).sample.nextDraw.resetEvent.nextDraw

/-- An interrupt taken between instructions: the entry sequence, and standby ends (60_exceptions.md R684, R700). -/
def State.takeInterrupt (s : State) (n : Byte) (ret : Word) : State := { s.enterInterrupt n ret with standby := false }

/-- Whether INT is accepted: a high level and IE = 1 (60_exceptions.md R689). -/
def State.intAccepted (s : State) : Bool := s.pins.intHigh && s.psw.ie

/-- NMI if it is latched, else INT if it is accepted and EI has not just opened its window: at most one of them
(60_exceptions.md R686, R692). The vector of INT is read in the acknowledge cycles (R690, R691; log entry 45). -/
def State.takeExternal (s : State) (window : Window) (ret : Word) : State :=
  if s.nmiLatch then { s with nmiLatch := false }.takeInterrupt 2 ret
  else if window != .ei && s.intAccepted then
    (s.recordCycles (s.acknowledgeCycles s.pins.vector)).takeInterrupt s.pins.vector ret
  else s

/-- The single-step interrupt, entered last so that its routine runs first (60_exceptions.md R686). -/
def State.takeSingleStep (s : State) : State :=
  if s.stepPending then { s with stepPending := false }.takeInterrupt 1 s.pc else s

/-- The end of an instruction: its prefixes, its window and its armed step are used up (10_state.md R49,
60_exceptions.md R686). -/
def State.closeInstruction (s : State) : State :=
  { s with
    prefixes := Prefixes.none
    window := .none
    stepPending := s.stepPending || s.stepArmed
    stepArmed := false }

/-- `Boundary`, after an instruction has completed (60_exceptions.md R686; D14; log entry 41): nothing is taken after a
segment-register move; else NMI or INT, then the single step. -/
def State.boundary (s : State) : State :=
  if s.window = .sreg then s.closeInstruction
  else (s.closeInstruction.takeExternal s.window s.pc).takeSingleStep

/-- The offset an interrupt inside a repeated block instruction returns to: that of the first of at most three prefix
bytes before its one opcode byte (60_exceptions.md R694). -/
def State.loopReturn (s : State) : Word := s.pc - 1 - BitVec.ofNat 16 (min s.prefixes.count 3)

/-- The point of a repeat loop where an interrupt is accepted: NMI or INT, no single step, no window; the loop is
suspended and its re-execution resumes it (41_block_bitfield_io.md R202, R207; 60_exceptions.md R693, R696; log
entry 23). Its prefixes are used up before the entry, whose cycles are not locked (log entry 39). -/
def State.loopBoundary (s : State) : State :=
  if s.nmiLatch || s.intAccepted then
    { { s with prefixes := Prefixes.none }.takeExternal .none s.loopReturn with inProgress := none, stepArmed := false }
  else s

/-- One sample in standby: NMI, or INT with IE = 1, is taken and returns after HALT; INT with IE = 0 only ends standby
(60_exceptions.md R700; log entry 26). -/
def State.standbyStep (s : State) : State :=
  if s.nmiLatch || s.intAccepted then s.takeExternal .none s.pc
  else if s.pins.intHigh then { s with standby := false }
  else s

/-- What follows a completed meaning: after a prefix byte nothing (60_exceptions.md R692); a POLL that waits takes no
interrupt (47_break_cpu_control.md R617; D15; log entry 25); a repeat loop that goes on has its own boundary; else the
instruction has ended. -/
def State.finish (s : State) (i : Instr) : State :=
  if isPrefix i then s
  else
    match s.inProgress with
    | none => s.boundary
    | some .poll => s
    | some _ => s.loopBoundary

end Sys2Proof.Machine
end

