-- ==== Sys2Proof/Machine/Operands.lean ====
section
/-! DEFINITION. Memory operands (30_encoding.md R105, 20_memory.md R64) and the operands of the block, bit-field, BCD and
stack-frame instructions. -/

namespace Sys2Proof.Machine

/-- The base and index registers of a `mem` code, added (Table 12-5, 30_encoding.md R105). -/
def State.baseSum (s : State) : Base → Word
  | .bwIx => s.bw + s.ix
  | .bwIy => s.bw + s.iy
  | .bpIx => s.bp + s.ix
  | .bpIy => s.bp + s.iy
  | .ix => s.ix
  | .iy => s.iy
  | .bp => s.bp
  | .bw => s.bw

/-- Whether a `mem` code uses BP, so that SS is the default segment (20_memory.md R64). -/
def usesBp : Base → Bool
  | .bwIx => false
  | .bwIy => false
  | .bpIx => true
  | .bpIy => true
  | .ix => false
  | .iy => false
  | .bp => true
  | .bw => false

/-- The effective address, modulo 2^16 (30_encoding.md R105; D5; log entry 46). -/
def State.ea (s : State) : MemOp → Word
  | .direct a => a
  | .based b => s.baseSum b
  | .disp8 b d => s.baseSum b + d.signExtend 16
  | .disp16 b d => s.baseSum b + d

/-- The default segment register of a memory operand (20_memory.md R64). -/
def defaultSeg : MemOp → SReg
  | .direct _ => .ds0
  | .based b => if usesBp b then .ss else .ds0
  | .disp8 b _ => if usesBp b then .ss else .ds0
  | .disp16 b _ => if usesBp b then .ss else .ds0

/-- The segment register an overridable access uses: the override in force, or else the default (20_memory.md R64,
47_break_cpu_control.md R626). -/
def State.overridable (s : State) (default : SReg) : SReg := s.prefixes.seg.getD default

/-- The register of `DSEG` where the default is DS0: `dmem`, the translation table, the source at IX
(20_memory.md R64). -/
def State.dataSreg (s : State) : SReg := s.overridable .ds0

/-- The register of `DSEG` of a memory operand (20_memory.md R64). -/
def State.memSreg (s : State) (m : MemOp) : SReg := s.overridable (defaultSeg m)

/-- `DSEG` where the default is DS0. -/
def State.dataSeg (s : State) : Word := s.readSreg s.dataSreg

/-- `DSEG` of a memory operand. -/
def State.memSeg (s : State) (m : MemOp) : Word := s.readSreg (s.memSreg m)

/-- The value of a memory operand, `MemReadS(DSEG, EA, N)`. -/
def State.loadMem (s : State) (w : Width) (m : MemOp) : Val w := s.load w (s.memSeg m) (s.ea m)

/-- The state after a memory operand was read: the read is on the bus (20_memory.md R82). -/
def State.afterMem (s : State) (w : Width) (m : MemOp) : State := s.afterLoad w (s.memSreg m) (s.ea m)

/-- Writes a memory operand, `MemWriteS(DSEG, EA, N, v)`. -/
def State.storeMem (s : State) (w : Width) (m : MemOp) (v : Val w) : State := s.store w (s.memSreg m) (s.ea m) v

/-- The two words of a `mem32` operand: the word at the lower address, then the word two bytes on (20_memory.md R67,
R71). -/
def State.loadPtr (s : State) (m : MemOp) : Word × Word :=
  (s.loadWord (s.memSeg m) (s.ea m) 0, s.loadWord (s.memSeg m) (s.ea m) 2)

/-- The state after a `mem32` operand was read: two word reads, the lower first (20_memory.md R74). -/
def State.afterPtr (s : State) (m : MemOp) : State :=
  s.recordCycles (s.wordReadCycles (s.memSreg m) (s.ea m) 0 ++ s.wordReadCycles (s.memSreg m) (s.ea m) 2)

/-- Reads a register or memory operand. -/
def State.readOperand (s : State) (w : Width) : Operand → Val w
  | .reg r => s.readReg w r
  | .mem m => s.loadMem w m

/-- The state after an operand was read: a memory operand's read is on the bus. -/
def State.afterOperand (s : State) (w : Width) : Operand → State
  | .reg _ => s
  | .mem m => s.afterMem w m

/-- Writes a register or memory operand. -/
def State.writeOperand (s : State) (w : Width) (o : Operand) (v : Val w) : State :=
  match o with
  | .reg r => s.writeReg w r v
  | .mem m => s.storeMem w m v

/-- An index register after one element: `step` is +N or -N by DIR (41_block_bitfield_io.md R200, R205). -/
def State.stepIndex (s : State) (w : Width) (x : Word) : Word :=
  if s.psw.dir then x - BitVec.ofNat 16 w.bytes else x + BitVec.ofNat 16 w.bytes

/-- IX past one element (41_block_bitfield_io.md R205). -/
def State.advanceIx (s : State) (w : Width) : State := { s with ix := s.stepIndex w s.ix }

/-- IY past one element (41_block_bitfield_io.md R205). -/
def State.advanceIy (s : State) (w : Width) : State := { s with iy := s.stepIndex w s.iy }

/-- The source element, at DSEG:IX (41_block_bitfield_io.md R205). -/
def State.sourceElement (s : State) (w : Width) : Val w := s.load w s.dataSeg s.ix

/-- The state after the source element was read. -/
def State.afterSource (s : State) (w : Width) : State := s.afterLoad w s.dataSreg s.ix

/-- The destination element, at DS1:IY whatever the prefixes (41_block_bitfield_io.md R205). -/
def State.destElement (s : State) (w : Width) : Val w := s.load w s.ds1 s.iy

/-- The state after the destination element was read. -/
def State.afterDest (s : State) (w : Width) : State := s.afterLoad w .ds1 s.iy

/-- Writes the destination element, at DS1:IY (41_block_bitfield_io.md R205). -/
def State.storeDest (s : State) (w : Width) (v : Val w) : State := s.store w .ds1 s.iy v

/-- The low four bits of a register operand of INS or EXT. Its upper four bits must be 0; where they are not, the
nibble is drawn (41_block_bitfield_io.md R220; log entry 9). -/
def State.fieldOperand (s : State) (slot : Nat) (v : Byte) : BitVec 4 :=
  if v.extractLsb' 4 4 = 0 then v.extractLsb' 0 4 else (Config.freeByte s.draws slot).extractLsb' 0 4

/-- The mask of a bit field of `lenCode + 1` bits at the bit offset `o` (41_block_bitfield_io.md R220). -/
def fieldMask (o lenCode : BitVec 4) : BitVec 32 :=
  BitVec.ofNat 32 (2 ^ (lenCode.toNat + 1) - 1) <<< o.toNat

/-- The bit offset of the next field (41_block_bitfield_io.md R220). -/
def nextOffset (o lenCode : BitVec 4) : Byte := BitVec.ofNat 8 ((o.toNat + lenCode.toNat + 1) % 16)

/-- Whether the next field starts in the next word (41_block_bitfield_io.md R220). -/
def passesWord (o lenCode : BitVec 4) : Bool := decide (16 ≤ o.toNat + lenCode.toNat + 1)

/-- Whether a field reaches into the next word (41_block_bitfield_io.md R220). -/
def crossesWord (o lenCode : BitVec 4) : Bool := decide (16 < o.toNat + lenCode.toNat + 1)

/-- The words that hold a bit field, the word at `seg:off` in the low half; the next word is read only if the field
reaches into it (41_block_bitfield_io.md R220). -/
def State.fieldWords (s : State) (seg off : Word) (o lenCode : BitVec 4) : BitVec 32 :=
  (if crossesWord o lenCode then s.load .word seg (off + 2) else 0) ++ s.load .word seg off

/-- The state after those words were read: one word read, two if the field reaches into the next word
(41_block_bitfield_io.md R220). -/
def State.afterFieldWords (s : State) (g : SReg) (off : Word) (o lenCode : BitVec 4) : State :=
  s.recordCycles
    (s.readCycles .word g off ++ if crossesWord o lenCode then s.readCycles .word g (off + 2) else [])

/-- Writes back the words that hold a bit field, with two or four transfers in all (41_block_bitfield_io.md R220). The
rule leaves open whether the bytes outside the field are rewritten with their old values: DESIGN CHOICE, they are, in
whole word writes, which only a device can see (log entry 49). -/
def State.storeFieldWords (s : State) (g : SReg) (off : Word) (o lenCode : BitVec 4) (x : BitVec 32) : State :=
  let t := s.store .word g off (x.extractLsb' 0 16)
  if crossesWord o lenCode then t.store .word g (off + 2) (x.extractLsb' 16 16) else t

end Sys2Proof.Machine
end

