-- ==== Sys2Proof/Machine/Flags.lean ====
section
/-! DEFINITION. The flag computations (10_state.md R36 to R41; 42_add_sub_bcd.md R250; log entry 32) and the drawn flags
(00_scope.md R10, R11; D9; log entry 16). -/

namespace Sys2Proof.Machine

/-- The six status flags. -/
structure Status where
  v : Bool
  s : Bool
  z : Bool
  ac : Bool
  p : Bool
  cy : Bool
deriving DecidableEq, Repr

/-- The status flags of a PSW. -/
def Psw.status (p : Psw) : Status := ⟨p.v, p.s, p.z, p.ac, p.p, p.cy⟩

/-- A PSW with its status flags replaced; the control flags stay. -/
def Psw.withStatus (p : Psw) (f : Status) : Psw :=
  { p with v := f.v, s := f.s, z := f.z, ac := f.ac, p := f.p, cy := f.cy }

/-- Writes the six status flags. -/
def State.setStatus (s : State) (f : Status) : State := { s with psw := s.psw.withStatus f }

/-- A drawn flag: the value of a flag marked `U` in this step (D9). -/
def State.drawnFlag (s : State) (f : Flag) : Bool := Config.freeFlag s.draws f

/-- Six drawn flags. -/
def State.drawnStatus (s : State) : Status :=
  ⟨s.drawnFlag .v, s.drawnFlag .s, s.drawnFlag .z, s.drawnFlag .ac, s.drawnFlag .p, s.drawnFlag .cy⟩

/-- P: the low 8 bits hold an even number of 1 bits (10_state.md R37). -/
def evenParity {n : Nat} (r : BitVec n) : Bool :=
  !(r.getLsbD 0 ^^ r.getLsbD 1 ^^ r.getLsbD 2 ^^ r.getLsbD 3 ^^ r.getLsbD 4 ^^ r.getLsbD 5 ^^ r.getLsbD 6 ^^
    r.getLsbD 7)

/-- `ADDop`: (a + b + c) mod 2^n (42_add_sub_bcd.md R250). -/
def addValue {n : Nat} (a b : BitVec n) (c : Bool) : BitVec n := BitVec.ofNat n (a.toNat + b.toNat + c.toNat)

/-- `SUBop`: (a - b - c) mod 2^n (42_add_sub_bcd.md R250). -/
def subValue {n : Nat} (a b : BitVec n) (c : Bool) : BitVec n :=
  BitVec.ofInt n (Int.ofNat a.toNat - Int.ofNat b.toNat - Int.ofNat c.toNat)

/-- The flags of `ADDop` (42_add_sub_bcd.md R250). -/
def addFlags {n : Nat} (a b : BitVec n) (c : Bool) : Status :=
  let r := addValue a b c
  { v := (a.msb == b.msb) && (r.msb != a.msb)
    s := r.msb
    z := r == 0
    ac := decide (16 ≤ a.toNat % 16 + b.toNat % 16 + c.toNat)
    p := evenParity r
    cy := decide (2 ^ n ≤ a.toNat + b.toNat + c.toNat) }

/-- The flags of `SUBop`: CY and AC are borrows (42_add_sub_bcd.md R250). -/
def subFlags {n : Nat} (a b : BitVec n) (c : Bool) : Status :=
  let r := subValue a b c
  { v := (a.msb != b.msb) && (r.msb != a.msb)
    s := r.msb
    z := r == 0
    ac := decide (a.toNat % 16 < b.toNat % 16 + c.toNat)
    p := evenParity r
    cy := decide (a.toNat < b.toNat + c.toNat) }

/-- `LOGop`: V and CY are cleared, S, Z and P are of the result, AC is drawn (44_compare_logic_bit.md R380). -/
def State.logicFlags {n : Nat} (s : State) (r : BitVec n) : Status :=
  { v := false, s := r.msb, z := r == 0, ac := s.drawnFlag .ac, p := evenParity r, cy := false }

/-- CY and V say that a product does not fit; the other flags are drawn (43_mul_div_adjust_convert.md R321 to R332). -/
def State.productFlags (s : State) (overflow : Bool) : Status :=
  { s.drawnStatus with v := overflow, cy := overflow }

/-- The flags of TEST1: Z is the complement of the bit, V and CY are cleared, the others drawn
(44_compare_logic_bit.md R420). -/
def State.testBitFlags (s : State) (bit : Bool) : Status :=
  { s.drawnStatus with v := false, z := !bit, cy := false }

/-- The flags of CVTBD and CVTDB: S, Z, P of AL, the others drawn (43_mul_div_adjust_convert.md R360, R361; log
entry 43). -/
def State.convertFlags (s : State) (al : Byte) : Status :=
  { s.drawnStatus with s := al.msb, z := al == 0, p := evenParity al }

/-- AH after MOV AH,PSW: S, Z, AC, P, CY at bits 7, 6, 4, 2, 0; bits 5, 3 and 1 are drawn (40_data_transfer.md R165;
log entry 17). -/
def State.pswLowWithDraws (s : State) : Byte :=
  BitVec.ofBool s.psw.s ++ BitVec.ofBool s.psw.z ++ BitVec.ofBool (Config.freeBool s.draws 5) ++
    BitVec.ofBool s.psw.ac ++ BitVec.ofBool (Config.freeBool s.draws 3) ++ BitVec.ofBool s.psw.p ++
    BitVec.ofBool (Config.freeBool s.draws 1) ++ BitVec.ofBool s.psw.cy

/-- MOV PSW,AH: S, Z, AC, P, CY from bits 7, 6, 4, 2, 0 (40_data_transfer.md R166). -/
def State.loadPswLow (s : State) (x : Byte) : State :=
  s.setStatus
    { s.psw.status with
      s := x.getLsbD 7, z := x.getLsbD 6, ac := x.getLsbD 4, p := x.getLsbD 2, cy := x.getLsbD 0 }

/-- NOT1 CY, CLR1 CY, SET1 CY: CY as given, the other five flags drawn (44_compare_logic_bit.md R460 to R462; D30; log
entry 44). -/
def State.carryOp (s : State) (b : Bool) : State := s.setStatus { s.drawnStatus with cy := b }

end Sys2Proof.Machine
end

