-- ==== Sys2Proof/Machine/AddSub.lean ====
section
/-! DEFINITION. Addition, subtraction, increment and decrement (42_add_sub_bcd.md). -/

namespace Sys2Proof.Machine

/-- `o <- ADDop(o, src, c)` and its flags (42_add_sub_bcd.md R250). -/
def State.addWith (s : State) (w : Width) (o : Operand) (src : Val w) (c : Bool) : State :=
  ((s.afterOperand w o).writeOperand w o (addValue (s.readOperand w o) src c)).setStatus (addFlags (s.readOperand w o) src c)

/-- `o <- SUBop(o, src, c)` and its flags (42_add_sub_bcd.md R250). -/
def State.subWith (s : State) (w : Width) (o : Operand) (src : Val w) (c : Bool) : State :=
  ((s.afterOperand w o).writeOperand w o (subValue (s.readOperand w o) src c)).setStatus (subFlags (s.readOperand w o) src c)

/-- ADD. -/
def State.addTo (s : State) (w : Width) (o : Operand) (src : Val w) : State := s.addWith w o src false

/-- ADDC: the incoming CY takes part (42_add_sub_bcd.md R257). -/
def State.addcTo (s : State) (w : Width) (o : Operand) (src : Val w) : State := s.addWith w o src s.psw.cy

/-- SUB. -/
def State.subTo (s : State) (w : Width) (o : Operand) (src : Val w) : State := s.subWith w o src false

/-- SUBC: the incoming CY takes part (42_add_sub_bcd.md R269). -/
def State.subcTo (s : State) (w : Width) (o : Operand) (src : Val w) : State := s.subWith w o src s.psw.cy

/-- INC: as ADD of 1, but CY is not changed (42_add_sub_bcd.md R296). -/
def State.incAt (s : State) (w : Width) (o : Operand) : State :=
  ((s.afterOperand w o).writeOperand w o (addValue (s.readOperand w o) 1 false)).setStatus
    { addFlags (s.readOperand w o) (1 : Val w) false with cy := s.psw.cy }

/-- DEC: as SUB of 1, but CY is not changed (42_add_sub_bcd.md R296). -/
def State.decAt (s : State) (w : Width) (o : Operand) : State :=
  ((s.afterOperand w o).writeOperand w o (subValue (s.readOperand w o) 1 false)).setStatus
    { subFlags (s.readOperand w o) (1 : Val w) false with cy := s.psw.cy }

/-- `ADD reg,reg` (42_add_sub_bcd.md R251). -/
def execAddRegReg (w : Width) (d q : Reg) (s : State) : Host.Outcome State Fault Refusal :=
  .next (s.addTo w (.reg d) (s.readReg w q))

/-- `ADD mem,reg` (42_add_sub_bcd.md R252). -/
def execAddMemReg (w : Width) (m : MemOp) (r : Reg) (s : State) : Host.Outcome State Fault Refusal :=
  .next (s.addTo w (.mem m) (s.readReg w r))

/-- `ADD reg,mem` (42_add_sub_bcd.md R253). -/
def execAddRegMem (w : Width) (r : Reg) (m : MemOp) (s : State) : Host.Outcome State Fault Refusal :=
  .next ((s.afterMem w m).addTo w (.reg r) (s.loadMem w m))

/-- `ADD reg,imm` (42_add_sub_bcd.md R254). -/
def execAddRegImm (f : ImmSize) (r : Reg) (imm : Word) (s : State) : Host.Outcome State Fault Refusal :=
  .next (s.addTo f.width (.reg r) (imm.setWidth _))

/-- `ADD mem,imm` (42_add_sub_bcd.md R255). -/
def execAddMemImm (f : ImmSize) (m : MemOp) (imm : Word) (s : State) : Host.Outcome State Fault Refusal :=
  .next (s.addTo f.width (.mem m) (imm.setWidth _))

/-- `ADD acc,imm` (42_add_sub_bcd.md R256). -/
def execAddAccImm (w : Width) (imm : Word) (s : State) : Host.Outcome State Fault Refusal :=
  .next (s.addTo w (.reg .alAw) (imm.setWidth _))

/-- `ADDC reg,reg` (42_add_sub_bcd.md R257). -/
def execAddcRegReg (w : Width) (d q : Reg) (s : State) : Host.Outcome State Fault Refusal :=
  .next (s.addcTo w (.reg d) (s.readReg w q))

/-- `ADDC mem,reg` (42_add_sub_bcd.md R258). -/
def execAddcMemReg (w : Width) (m : MemOp) (r : Reg) (s : State) : Host.Outcome State Fault Refusal :=
  .next (s.addcTo w (.mem m) (s.readReg w r))

/-- `ADDC reg,mem` (42_add_sub_bcd.md R259). -/
def execAddcRegMem (w : Width) (r : Reg) (m : MemOp) (s : State) : Host.Outcome State Fault Refusal :=
  .next ((s.afterMem w m).addcTo w (.reg r) (s.loadMem w m))

/-- `ADDC reg,imm` (42_add_sub_bcd.md R260). -/
def execAddcRegImm (f : ImmSize) (r : Reg) (imm : Word) (s : State) : Host.Outcome State Fault Refusal :=
  .next (s.addcTo f.width (.reg r) (imm.setWidth _))

/-- `ADDC mem,imm` (42_add_sub_bcd.md R261). -/
def execAddcMemImm (f : ImmSize) (m : MemOp) (imm : Word) (s : State) : Host.Outcome State Fault Refusal :=
  .next (s.addcTo f.width (.mem m) (imm.setWidth _))

/-- `ADDC acc,imm` (42_add_sub_bcd.md R262). -/
def execAddcAccImm (w : Width) (imm : Word) (s : State) : Host.Outcome State Fault Refusal :=
  .next (s.addcTo w (.reg .alAw) (imm.setWidth _))

/-- `SUB reg,reg` (42_add_sub_bcd.md R263). -/
def execSubRegReg (w : Width) (d q : Reg) (s : State) : Host.Outcome State Fault Refusal :=
  .next (s.subTo w (.reg d) (s.readReg w q))

/-- `SUB mem,reg` (42_add_sub_bcd.md R264). -/
def execSubMemReg (w : Width) (m : MemOp) (r : Reg) (s : State) : Host.Outcome State Fault Refusal :=
  .next (s.subTo w (.mem m) (s.readReg w r))

/-- `SUB reg,mem` (42_add_sub_bcd.md R265). -/
def execSubRegMem (w : Width) (r : Reg) (m : MemOp) (s : State) : Host.Outcome State Fault Refusal :=
  .next ((s.afterMem w m).subTo w (.reg r) (s.loadMem w m))

/-- `SUB reg,imm` (42_add_sub_bcd.md R266). -/
def execSubRegImm (f : ImmSize) (r : Reg) (imm : Word) (s : State) : Host.Outcome State Fault Refusal :=
  .next (s.subTo f.width (.reg r) (imm.setWidth _))

/-- `SUB mem,imm` (42_add_sub_bcd.md R267). -/
def execSubMemImm (f : ImmSize) (m : MemOp) (imm : Word) (s : State) : Host.Outcome State Fault Refusal :=
  .next (s.subTo f.width (.mem m) (imm.setWidth _))

/-- `SUB acc,imm` (42_add_sub_bcd.md R268). -/
def execSubAccImm (w : Width) (imm : Word) (s : State) : Host.Outcome State Fault Refusal :=
  .next (s.subTo w (.reg .alAw) (imm.setWidth _))

/-- `SUBC reg,reg` (42_add_sub_bcd.md R269). -/
def execSubcRegReg (w : Width) (d q : Reg) (s : State) : Host.Outcome State Fault Refusal :=
  .next (s.subcTo w (.reg d) (s.readReg w q))

/-- `SUBC mem,reg` (42_add_sub_bcd.md R270). -/
def execSubcMemReg (w : Width) (m : MemOp) (r : Reg) (s : State) : Host.Outcome State Fault Refusal :=
  .next (s.subcTo w (.mem m) (s.readReg w r))

/-- `SUBC reg,mem` (42_add_sub_bcd.md R271). -/
def execSubcRegMem (w : Width) (r : Reg) (m : MemOp) (s : State) : Host.Outcome State Fault Refusal :=
  .next ((s.afterMem w m).subcTo w (.reg r) (s.loadMem w m))

/-- `SUBC reg,imm` (42_add_sub_bcd.md R272). -/
def execSubcRegImm (f : ImmSize) (r : Reg) (imm : Word) (s : State) : Host.Outcome State Fault Refusal :=
  .next (s.subcTo f.width (.reg r) (imm.setWidth _))

/-- `SUBC mem,imm` (42_add_sub_bcd.md R273). -/
def execSubcMemImm (f : ImmSize) (m : MemOp) (imm : Word) (s : State) : Host.Outcome State Fault Refusal :=
  .next (s.subcTo f.width (.mem m) (imm.setWidth _))

/-- `SUBC acc,imm` (42_add_sub_bcd.md R274). -/
def execSubcAccImm (w : Width) (imm : Word) (s : State) : Host.Outcome State Fault Refusal :=
  .next (s.subcTo w (.reg .alAw) (imm.setWidth _))

/-- `INC reg8` (42_add_sub_bcd.md R290). -/
def execIncReg8 (r : Reg) (s : State) : Host.Outcome State Fault Refusal :=
  .next (s.incAt .byte (.reg r))

/-- `INC mem` (42_add_sub_bcd.md R291). -/
def execIncMem (w : Width) (m : MemOp) (s : State) : Host.Outcome State Fault Refusal :=
  .next (s.incAt w (.mem m))

/-- `INC reg16` (42_add_sub_bcd.md R292). -/
def execIncReg16 (r : Reg) (s : State) : Host.Outcome State Fault Refusal :=
  .next (s.incAt .word (.reg r))

/-- `DEC reg8` (42_add_sub_bcd.md R293). -/
def execDecReg8 (r : Reg) (s : State) : Host.Outcome State Fault Refusal :=
  .next (s.decAt .byte (.reg r))

/-- `DEC mem` (42_add_sub_bcd.md R294). -/
def execDecMem (w : Width) (m : MemOp) (s : State) : Host.Outcome State Fault Refusal :=
  .next (s.decAt w (.mem m))

/-- `DEC reg16` (42_add_sub_bcd.md R295). -/
def execDecReg16 (r : Reg) (s : State) : Host.Outcome State Fault Refusal :=
  .next (s.decAt .word (.reg r))

/-- `ADD reg,reg (d = 0 opcode)` (42_add_sub_bcd.md R251, 30_encoding.md R123). -/
def execAddRegRegD0 (w : Width) (d q : Reg) (s : State) : Host.Outcome State Fault Refusal :=
  .next (s.addTo w (.reg d) (s.readReg w q))

/-- `ADDC reg,reg (d = 0 opcode)` (42_add_sub_bcd.md R257, 30_encoding.md R123). -/
def execAddcRegRegD0 (w : Width) (d q : Reg) (s : State) : Host.Outcome State Fault Refusal :=
  .next (s.addcTo w (.reg d) (s.readReg w q))

/-- `SUBC reg,reg (d = 0 opcode)` (42_add_sub_bcd.md R269, 30_encoding.md R123). -/
def execSubcRegRegD0 (w : Width) (d q : Reg) (s : State) : Host.Outcome State Fault Refusal :=
  .next (s.subcTo w (.reg d) (s.readReg w q))

/-- `SUB reg,reg (d = 0 opcode)` (42_add_sub_bcd.md R263, 30_encoding.md R123). -/
def execSubRegRegD0 (w : Width) (d q : Reg) (s : State) : Host.Outcome State Fault Refusal :=
  .next (s.subTo w (.reg d) (s.readReg w q))

/-- `INC reg16 (two-byte form)` (42_add_sub_bcd.md R292, 30_encoding.md R123). -/
def execIncReg16Two (r : Reg) (s : State) : Host.Outcome State Fault Refusal :=
  .next (s.incAt .word (.reg r))

/-- `DEC reg16 (two-byte form)` (42_add_sub_bcd.md R295, 30_encoding.md R123). -/
def execDecReg16Two (r : Reg) (s : State) : Host.Outcome State Fault Refusal :=
  .next (s.decAt .word (.reg r))

end Sys2Proof.Machine
end

