-- ==== Sys2Proof/Machine/Bcd.lean ====
section
/-! DEFINITION. BCD strings and nibble rotates (42_add_sub_bcd.md R280 to R288). -/

namespace Sys2Proof.Machine

/-- The three BCD string operations. -/
inductive BcdOp where
  | add
  | sub
  | cmp
deriving DecidableEq, Repr

/-- Whether a byte holds two decimal digits (42_add_sub_bcd.md R280 (i)). -/
def isDecimal (x : Byte) : Bool := decide (x.toNat / 16 ≤ 9) && decide (x.toNat % 16 ≤ 9)

/-- The value of two decimal digits. -/
def decimalValue (x : Byte) : Nat := x.toNat / 16 * 10 + x.toNat % 16

/-- Two decimal digits of a value below 100. -/
def decimalByte (n : Nat) : Byte := BitVec.ofNat 8 (n / 10 * 16 + n % 10)

/-- One byte of a BCD string operation: the result of two digits modulo 100, and the carry or borrow
(42_add_sub_bcd.md R280 (e)). -/
def bcdByte (op : BcdOp) (d s : Byte) (c : Bool) : Byte × Bool :=
  match op with
  | .add =>
    let t := decimalValue d + decimalValue s + c.toNat
    (decimalByte (t % 100), decide (100 ≤ t))
  | .sub =>
    let t := 100 + decimalValue d - decimalValue s - c.toNat
    (decimalByte (t % 100), decide (t < 100))
  | .cmp =>
    let t := 100 + decimalValue d - decimalValue s - c.toNat
    (decimalByte (t % 100), decide (t < 100))

/-- The byte `k` of the strings: as `bcdByte`, but where a nibble is no decimal digit the result and the carry are drawn
(42_add_sub_bcd.md R280 (i); log entry 13), and so is the upper nibble of the highest byte of a string of odd length
(R280 (g); log entry 14). -/
def State.bcdResult (s : State) (op : BcdOp) (k : Nat) (oddTop : Bool) (c : Bool) : Byte × Bool :=
  let src := s.load .byte s.dataSeg (s.ix + BitVec.ofNat 16 k)
  let dst := (s.afterLoad .byte s.dataSreg (s.ix + BitVec.ofNat 16 k)).load .byte s.ds1 (s.iy + BitVec.ofNat 16 k)
  let r :=
    if isDecimal src && isDecimal dst then bcdByte op dst src c
    else (Config.freeByte s.draws k, Config.freeBool s.draws k)
  if oddTop then ((Config.freeByte s.draws (256 + k)).extractLsb' 4 4 ++ r.1.extractLsb' 0 4, r.2) else r

/-- The state after byte `k` of both strings was read, the source first (42_add_sub_bcd.md R280 (e)). -/
def State.afterBcd (s : State) (k : Nat) : State :=
  (s.afterLoad .byte s.dataSreg (s.ix + BitVec.ofNat 16 k)).afterLoad .byte .ds1 (s.iy + BitVec.ofNat 16 k)

/-- The result byte, stored unless the operation only compares (42_add_sub_bcd.md R280 (e), R283). -/
def State.storeBcd (s : State) (op : BcdOp) (k : Nat) (v : Byte) : State :=
  match op with
  | .add => s.store .byte .ds1 (s.iy + BitVec.ofNat 16 k) v
  | .sub => s.store .byte .ds1 (s.iy + BitVec.ofNat 16 k) v
  | .cmp => s

/-- The bytes from `k` on, `n` of them, with the running carry and whether every result byte so far is 00H
(42_add_sub_bcd.md R280 (e), (f)). -/
def State.bcdLoop (op : BcdOp) (odd : Bool) : Nat → Nat → Bool → Bool → State → State × Bool × Bool
  | 0, _, c, zero, s => (s, c, zero)
  | n + 1, k, c, zero, s =>
    let r := s.bcdResult op k (odd && n == 0) c
    State.bcdLoop op odd n (k + 1) r.2 (zero && r.1 == 0) ((s.afterBcd k).storeBcd op k r.1)

/-- Whether the number of digits in CL is one the spec gives a result for (42_add_sub_bcd.md R280 (c)). -/
def State.bcdLengthStated (s : State) : Bool := decide (1 ≤ (lowByte s.cw).toNat) && decide ((lowByte s.cw).toNat ≤ 254)

/-- The number of digits: CL, or a drawn number where CL is 0 or 255 (42_add_sub_bcd.md R280 (c); log entry 12). -/
def State.bcdDigits (s : State) : Nat :=
  if s.bcdLengthStated then (lowByte s.cw).toNat else (Config.freeByte s.draws 512).toNat

/-- ADD4S, SUB4S, CMP4S (42_add_sub_bcd.md R280): V, S, AC and P are drawn; Z and CY are those of the result when the
number of digits is even and in range, else drawn. IX, IY and CL do not change. -/
def State.bcdString (s : State) (op : BcdOp) : State :=
  let odd := s.bcdDigits % 2 == 1
  let r := State.bcdLoop op odd ((s.bcdDigits + 1) / 2) 0 false true s
  let f := s.drawnStatus
  r.1.setStatus (if odd || !s.bcdLengthStated then f else { f with z := r.2.2, cy := r.2.1 })

/-- ROL4 and ROR4. They change no flag: R285 to R288 say "Flags: none", where 70_reset_and_hazards.md R755 lists them among
the instructions with undefined flags; DESIGN CHOICE, R285 to R288 are followed (log entry 51). -/
inductive NibbleRotate where
  | rol4
  | ror4
deriving DecidableEq, Repr

/-- The operand after the rotate of three nibbles, from the operand and AL (42_add_sub_bcd.md R285, R287). -/
def NibbleRotate.result (k : NibbleRotate) (t al : Byte) : Byte :=
  match k with
  | .rol4 => t.extractLsb' 0 4 ++ al.extractLsb' 0 4
  | .ror4 => al.extractLsb' 0 4 ++ t.extractLsb' 4 4

/-- The nibble that goes to the low half of AL (42_add_sub_bcd.md R285, R287). -/
def NibbleRotate.out (k : NibbleRotate) (t : Byte) : BitVec 4 :=
  match k with
  | .rol4 => t.extractLsb' 4 4
  | .ror4 => t.extractLsb' 0 4

/-- AL after ROL4 or ROR4: its upper half is drawn (42_add_sub_bcd.md R285; log entry 17). -/
def State.nibbleAl (s : State) (x : BitVec 4) : Byte := (Config.freeByte s.draws 0).extractLsb' 4 4 ++ x

/-- ROL4 or ROR4 of a register; on AL itself the result is not described, and AL is drawn
(42_add_sub_bcd.md R285, R287; D28; log entry 11). No flag changes (log entry 51). -/
def State.rotateNibbleReg (s : State) (k : NibbleRotate) (r : Reg) : State :=
  if r = .alAw then s.writeReg8 .alAw (Config.freeByte s.draws 0)
  else
    (s.writeReg8 r (k.result (s.readReg8 r) (s.readReg8 .alAw))).writeReg8 .alAw
      (s.nibbleAl (k.out (s.readReg8 r)))

/-- ROL4 or ROR4 of a byte of memory (42_add_sub_bcd.md R286, R288). -/
def State.rotateNibbleMem (s : State) (k : NibbleRotate) (m : MemOp) : State :=
  ((s.afterMem .byte m).storeMem .byte m (k.result (s.loadMem .byte m) (s.readReg8 .alAw))).writeReg8 .alAw
    (s.nibbleAl (k.out (s.loadMem .byte m)))

/-- `ADD4S [DS1-spec:]dst-string,[Seg-spec:]src-string` (42_add_sub_bcd.md R281). -/
def execAdd4s (s : State) : Host.Outcome State Fault Refusal :=
  .next (s.bcdString .add)

/-- `SUB4S [DS1-spec:]dst-string,[Seg-spec:]src-string` (42_add_sub_bcd.md R282). -/
def execSub4s (s : State) : Host.Outcome State Fault Refusal :=
  .next (s.bcdString .sub)

/-- `CMP4S [DS1-spec:]dst-string,[Seg-spec:]src-string` (42_add_sub_bcd.md R283). -/
def execCmp4s (s : State) : Host.Outcome State Fault Refusal :=
  .next (s.bcdString .cmp)

/-- `ROL4 reg8` (42_add_sub_bcd.md R285). -/
def execRol4Reg8 (r : Reg) (s : State) : Host.Outcome State Fault Refusal :=
  .next (s.rotateNibbleReg .rol4 r)

/-- `ROL4 mem8` (42_add_sub_bcd.md R286). -/
def execRol4Mem8 (m : MemOp) (s : State) : Host.Outcome State Fault Refusal :=
  .next (s.rotateNibbleMem .rol4 m)

/-- `ROR4 reg8` (42_add_sub_bcd.md R287). -/
def execRor4Reg8 (r : Reg) (s : State) : Host.Outcome State Fault Refusal :=
  .next (s.rotateNibbleReg .ror4 r)

/-- `ROR4 mem8` (42_add_sub_bcd.md R288). -/
def execRor4Mem8 (m : MemOp) (s : State) : Host.Outcome State Fault Refusal :=
  .next (s.rotateNibbleMem .ror4 m)

end Sys2Proof.Machine
end

