-- ==== Sys2Proof/Machine/Bit.lean ====
section
/-! DEFINITION. The bit instructions (44_compare_logic_bit.md R420 to R464). -/

namespace Sys2Proof.Machine

/-- The bit number: the low 3 bits of CL or of the immediate byte for a byte, the low 4 for a word
(44_compare_logic_bit.md R420). -/
def bitNumber (w : Width) (n : Byte) : Nat := n.toNat % w.bits

/-- The operand value with only the bit `bitNumber w n` set. -/
def bitMask (w : Width) (n : Byte) : Val w := BitVec.ofNat w.bits (2 ^ bitNumber w n)

/-- TEST1: nothing stored (44_compare_logic_bit.md R421). -/
def State.testBit (s : State) (w : Width) (o : Operand) (n : Byte) : State :=
  (s.afterOperand w o).setStatus (s.testBitFlags ((s.readOperand w o).getLsbD (bitNumber w n)))

/-- NOT1: no flag changes (44_compare_logic_bit.md R429). -/
def State.notBit (s : State) (w : Width) (o : Operand) (n : Byte) : State :=
  (s.afterOperand w o).writeOperand w o (s.readOperand w o ^^^ bitMask w n)

/-- CLR1: no flag changes (44_compare_logic_bit.md R437). -/
def State.clearBit (s : State) (w : Width) (o : Operand) (n : Byte) : State :=
  (s.afterOperand w o).writeOperand w o (s.readOperand w o &&& ~~~bitMask w n)

/-- SET1: no flag changes (44_compare_logic_bit.md R445). -/
def State.setBit (s : State) (w : Width) (o : Operand) (n : Byte) : State :=
  (s.afterOperand w o).writeOperand w o (s.readOperand w o ||| bitMask w n)

/-- `TEST1 reg8,CL` (44_compare_logic_bit.md R421). -/
def execTest1Reg8Cl (r : Reg) (s : State) : Host.Outcome State Fault Refusal :=
  .next (s.testBit .byte (.reg r) (s.readReg .byte .clCw))

/-- `TEST1 mem8,CL` (44_compare_logic_bit.md R422). -/
def execTest1Mem8Cl (m : MemOp) (s : State) : Host.Outcome State Fault Refusal :=
  .next (s.testBit .byte (.mem m) (s.readReg .byte .clCw))

/-- `TEST1 reg16,CL` (44_compare_logic_bit.md R423). -/
def execTest1Reg16Cl (r : Reg) (s : State) : Host.Outcome State Fault Refusal :=
  .next (s.testBit .word (.reg r) (s.readReg .byte .clCw))

/-- `TEST1 mem16,CL` (44_compare_logic_bit.md R424). -/
def execTest1Mem16Cl (m : MemOp) (s : State) : Host.Outcome State Fault Refusal :=
  .next (s.testBit .word (.mem m) (s.readReg .byte .clCw))

/-- `TEST1 reg8,imm3` (44_compare_logic_bit.md R425). -/
def execTest1Reg8Imm3 (r : Reg) (imm : Byte) (s : State) : Host.Outcome State Fault Refusal :=
  .next (s.testBit .byte (.reg r) imm)

/-- `TEST1 mem8,imm3` (44_compare_logic_bit.md R426). -/
def execTest1Mem8Imm3 (m : MemOp) (imm : Byte) (s : State) : Host.Outcome State Fault Refusal :=
  .next (s.testBit .byte (.mem m) imm)

/-- `TEST1 reg16,imm4` (44_compare_logic_bit.md R427). -/
def execTest1Reg16Imm4 (r : Reg) (imm : Byte) (s : State) : Host.Outcome State Fault Refusal :=
  .next (s.testBit .word (.reg r) imm)

/-- `TEST1 mem16,imm4` (44_compare_logic_bit.md R428). -/
def execTest1Mem16Imm4 (m : MemOp) (imm : Byte) (s : State) : Host.Outcome State Fault Refusal :=
  .next (s.testBit .word (.mem m) imm)

/-- `NOT1 reg8,CL` (44_compare_logic_bit.md R429). -/
def execNot1Reg8Cl (r : Reg) (s : State) : Host.Outcome State Fault Refusal :=
  .next (s.notBit .byte (.reg r) (s.readReg .byte .clCw))

/-- `NOT1 mem8,CL` (44_compare_logic_bit.md R430). -/
def execNot1Mem8Cl (m : MemOp) (s : State) : Host.Outcome State Fault Refusal :=
  .next (s.notBit .byte (.mem m) (s.readReg .byte .clCw))

/-- `NOT1 reg16,CL` (44_compare_logic_bit.md R431). -/
def execNot1Reg16Cl (r : Reg) (s : State) : Host.Outcome State Fault Refusal :=
  .next (s.notBit .word (.reg r) (s.readReg .byte .clCw))

/-- `NOT1 mem16,CL` (44_compare_logic_bit.md R432). -/
def execNot1Mem16Cl (m : MemOp) (s : State) : Host.Outcome State Fault Refusal :=
  .next (s.notBit .word (.mem m) (s.readReg .byte .clCw))

/-- `NOT1 reg8,imm3` (44_compare_logic_bit.md R433). -/
def execNot1Reg8Imm3 (r : Reg) (imm : Byte) (s : State) : Host.Outcome State Fault Refusal :=
  .next (s.notBit .byte (.reg r) imm)

/-- `NOT1 mem8,imm3` (44_compare_logic_bit.md R434). -/
def execNot1Mem8Imm3 (m : MemOp) (imm : Byte) (s : State) : Host.Outcome State Fault Refusal :=
  .next (s.notBit .byte (.mem m) imm)

/-- `NOT1 reg16,imm4` (44_compare_logic_bit.md R435). -/
def execNot1Reg16Imm4 (r : Reg) (imm : Byte) (s : State) : Host.Outcome State Fault Refusal :=
  .next (s.notBit .word (.reg r) imm)

/-- `NOT1 mem16,imm4` (44_compare_logic_bit.md R436). -/
def execNot1Mem16Imm4 (m : MemOp) (imm : Byte) (s : State) : Host.Outcome State Fault Refusal :=
  .next (s.notBit .word (.mem m) imm)

/-- `CLR1 reg8,CL` (44_compare_logic_bit.md R437). -/
def execClr1Reg8Cl (r : Reg) (s : State) : Host.Outcome State Fault Refusal :=
  .next (s.clearBit .byte (.reg r) (s.readReg .byte .clCw))

/-- `CLR1 mem8,CL` (44_compare_logic_bit.md R438). -/
def execClr1Mem8Cl (m : MemOp) (s : State) : Host.Outcome State Fault Refusal :=
  .next (s.clearBit .byte (.mem m) (s.readReg .byte .clCw))

/-- `CLR1 reg16,CL` (44_compare_logic_bit.md R439). -/
def execClr1Reg16Cl (r : Reg) (s : State) : Host.Outcome State Fault Refusal :=
  .next (s.clearBit .word (.reg r) (s.readReg .byte .clCw))

/-- `CLR1 mem16,CL` (44_compare_logic_bit.md R440). -/
def execClr1Mem16Cl (m : MemOp) (s : State) : Host.Outcome State Fault Refusal :=
  .next (s.clearBit .word (.mem m) (s.readReg .byte .clCw))

/-- `CLR1 reg8,imm3` (44_compare_logic_bit.md R441). -/
def execClr1Reg8Imm3 (r : Reg) (imm : Byte) (s : State) : Host.Outcome State Fault Refusal :=
  .next (s.clearBit .byte (.reg r) imm)

/-- `CLR1 mem8,imm3` (44_compare_logic_bit.md R442). -/
def execClr1Mem8Imm3 (m : MemOp) (imm : Byte) (s : State) : Host.Outcome State Fault Refusal :=
  .next (s.clearBit .byte (.mem m) imm)

/-- `CLR1 reg16,imm4` (44_compare_logic_bit.md R443). -/
def execClr1Reg16Imm4 (r : Reg) (imm : Byte) (s : State) : Host.Outcome State Fault Refusal :=
  .next (s.clearBit .word (.reg r) imm)

/-- `CLR1 mem16,imm4` (44_compare_logic_bit.md R444). -/
def execClr1Mem16Imm4 (m : MemOp) (imm : Byte) (s : State) : Host.Outcome State Fault Refusal :=
  .next (s.clearBit .word (.mem m) imm)

/-- `SET1 reg8,CL` (44_compare_logic_bit.md R445). -/
def execSet1Reg8Cl (r : Reg) (s : State) : Host.Outcome State Fault Refusal :=
  .next (s.setBit .byte (.reg r) (s.readReg .byte .clCw))

/-- `SET1 mem8,CL` (44_compare_logic_bit.md R446). -/
def execSet1Mem8Cl (m : MemOp) (s : State) : Host.Outcome State Fault Refusal :=
  .next (s.setBit .byte (.mem m) (s.readReg .byte .clCw))

/-- `SET1 reg16,CL` (44_compare_logic_bit.md R447). -/
def execSet1Reg16Cl (r : Reg) (s : State) : Host.Outcome State Fault Refusal :=
  .next (s.setBit .word (.reg r) (s.readReg .byte .clCw))

/-- `SET1 mem16,CL` (44_compare_logic_bit.md R448). -/
def execSet1Mem16Cl (m : MemOp) (s : State) : Host.Outcome State Fault Refusal :=
  .next (s.setBit .word (.mem m) (s.readReg .byte .clCw))

/-- `SET1 reg8,imm3` (44_compare_logic_bit.md R449). -/
def execSet1Reg8Imm3 (r : Reg) (imm : Byte) (s : State) : Host.Outcome State Fault Refusal :=
  .next (s.setBit .byte (.reg r) imm)

/-- `SET1 mem8,imm3` (44_compare_logic_bit.md R450). -/
def execSet1Mem8Imm3 (m : MemOp) (imm : Byte) (s : State) : Host.Outcome State Fault Refusal :=
  .next (s.setBit .byte (.mem m) imm)

/-- `SET1 reg16,imm4` (44_compare_logic_bit.md R451). -/
def execSet1Reg16Imm4 (r : Reg) (imm : Byte) (s : State) : Host.Outcome State Fault Refusal :=
  .next (s.setBit .word (.reg r) imm)

/-- `SET1 mem16,imm4` (44_compare_logic_bit.md R452). -/
def execSet1Mem16Imm4 (m : MemOp) (imm : Byte) (s : State) : Host.Outcome State Fault Refusal :=
  .next (s.setBit .word (.mem m) imm)

/-- `NOT1 CY` (44_compare_logic_bit.md R460). -/
def execNot1Cy (s : State) : Host.Outcome State Fault Refusal :=
  .next (s.carryOp (!s.psw.cy))

/-- `CLR1 CY` (44_compare_logic_bit.md R461). -/
def execClr1Cy (s : State) : Host.Outcome State Fault Refusal :=
  .next (s.carryOp false)

/-- `SET1 CY` (44_compare_logic_bit.md R462). -/
def execSet1Cy (s : State) : Host.Outcome State Fault Refusal :=
  .next (s.carryOp true)

/-- `CLR1 DIR` (44_compare_logic_bit.md R463). -/
def execClr1Dir (s : State) : Host.Outcome State Fault Refusal :=
  .next (s.setDir false)

/-- `SET1 DIR` (44_compare_logic_bit.md R464). -/
def execSet1Dir (s : State) : Host.Outcome State Fault Refusal :=
  .next (s.setDir true)

end Sys2Proof.Machine
end

