-- ==== Sys2Proof/Machine/BitField.lean ====
section
/-! DEFINITION. The bit-field instructions INS and EXT (41_block_bitfield_io.md R220 to R226). -/

namespace Sys2Proof.Machine

/-- INS: the low bits of AW go to the field at DS1:IY; then the pointer names the next field
(41_block_bitfield_io.md R221). -/
def State.insertField (s : State) (d : Reg) (o lenCode : BitVec 4) : State :=
  let old := s.fieldWords s.ds1 s.iy o lenCode
  let mask := fieldMask o lenCode
  let new := (old &&& ~~~mask) ||| ((s.aw.setWidth 32 <<< o.toNat) &&& mask)
  let t := ((s.afterFieldWords .ds1 s.iy o lenCode).storeFieldWords .ds1 s.iy o lenCode new).writeReg8 d
    (nextOffset o lenCode)
  ({ t with iy := if passesWord o lenCode then s.iy + 2 else s.iy }).setStatus s.drawnStatus

/-- EXT: AW becomes the field at DSEG:IX, zero-extended; then the pointer names the next field
(41_block_bitfield_io.md R223). Where the offset register is a half of AW the two writes have no stated order (D28; log
entry 10). The override applies to the source (20_memory.md R64; log entry 18). -/
def State.extractField (s : State) (d : Reg) (o lenCode : BitVec 4) : State :=
  let field := ((s.fieldWords s.dataSeg s.ix o lenCode &&& fieldMask o lenCode) >>> o.toNat).setWidth 16
  let u := s.afterFieldWords s.dataSreg s.ix o lenCode
  let resultFirst := (u.writeReg16 .alAw field).writeReg8 d (nextOffset o lenCode)
  let offsetFirst := (u.writeReg8 d (nextOffset o lenCode)).writeReg16 .alAw field
  let t :=
    if d = .alAw ∨ d = .ahSp then (if Config.extWritesOffsetLast then resultFirst else offsetFirst) else resultFirst
  ({ t with ix := if passesWord o lenCode then s.ix + 2 else s.ix }).setStatus s.drawnStatus

/-- `INS reg8,reg8'` (41_block_bitfield_io.md R221). -/
def execInsReg8Reg8 (d q : Reg) (s : State) : Host.Outcome State Fault Refusal :=
  .next (s.insertField d (s.fieldOperand 0 (s.readReg .byte d)) (s.fieldOperand 1 (s.readReg .byte q)))

/-- `INS reg8,imm4` (41_block_bitfield_io.md R222); of the immediate byte the low four bits count (30_encoding.md R108, R124;
log entry 9). -/
def execInsReg8Imm4 (d : Reg) (imm : Byte) (s : State) : Host.Outcome State Fault Refusal :=
  .next (s.insertField d (s.fieldOperand 0 (s.readReg .byte d)) (imm.setWidth 4))

/-- `EXT reg8,reg8'` (41_block_bitfield_io.md R223). -/
def execExtReg8Reg8 (d q : Reg) (s : State) : Host.Outcome State Fault Refusal :=
  .next (s.extractField d (s.fieldOperand 0 (s.readReg .byte d)) (s.fieldOperand 1 (s.readReg .byte q)))

/-- `EXT reg8,imm4` (41_block_bitfield_io.md R224); of the immediate byte the low four bits count (30_encoding.md R108, R124;
log entry 9). -/
def execExtReg8Imm4 (d : Reg) (imm : Byte) (s : State) : Host.Outcome State Fault Refusal :=
  .next (s.extractField d (s.fieldOperand 0 (s.readReg .byte d)) (imm.setWidth 4))

end Sys2Proof.Machine
end

