-- ==== Sys2Proof/Machine/Repeat.lean ====
section
/-! DEFINITION. The repeat loop (41_block_bitfield_io.md R202): one element at a time (log entry 23). -/

namespace Sys2Proof.Machine

/-- Whether a block instruction compares: a repeat prefix then also tests a flag (41_block_bitfield_io.md R202). -/
inductive BlockKind where
  | moves
  | compares
deriving DecidableEq, Repr

/-- `exit_test(P, B)`, on the flags that the element just processed left (41_block_bitfield_io.md R201 to R206). -/
def exitTest (p : Repeat) (k : BlockKind) (psw : Psw) : Bool :=
  match p, k with
  | .repc, .compares => !psw.cy
  | .repnc, .compares => psw.cy
  | .rep, .compares => !psw.z
  | .repne, .compares => psw.z
  | .repc, .moves => false
  | .repnc, .moves => false
  | .rep, .moves => false
  | .repne, .moves => false

/-- One pass of the repeat loop around one element of the block instruction `i`, or just the element when no repeat
prefix is in force (41_block_bitfield_io.md R202, R205). With a prefix: nothing when CW is 0; else the element, CW - 1,
the exit test; while the loop goes on, `i` stays in progress and the next step makes the next pass, after the point
where an interrupt may be accepted. -/
def State.repeatElement (s : State) (i : Instr) (k : BlockKind) (element : State → State) : State :=
  match s.prefixes.rep with
  | none => element s
  | some p =>
    if s.cw = 0 then s
    else
      let t := element s
      let u := { t with cw := t.cw - 1 }
      if exitTest p k u.psw then u else { u with inProgress := some i }

end Sys2Proof.Machine
end

