-- ==== Sys2Proof/Machine/Block.lean ====
section
/-! DEFINITION. The primitive block instructions (41_block_bitfield_io.md R205 to R214). -/

namespace Sys2Proof.Machine

/-- One element of MOVBK (41_block_bitfield_io.md R210). -/
def State.moveElement (w : Width) (s : State) : State :=
  (((s.afterSource w).storeDest w (s.sourceElement w)).advanceIx w).advanceIy w

/-- One element of CMPBK: the source is the minuend (41_block_bitfield_io.md R211). -/
def State.compareElement (w : Width) (s : State) : State :=
  let t := s.afterSource w
  (((t.afterDest w).setStatus (subFlags (s.sourceElement w) (t.destElement w) false)).advanceIx w).advanceIy w

/-- One element of CMPM: the accumulator is the minuend (41_block_bitfield_io.md R212). -/
def State.scanElement (w : Width) (s : State) : State :=
  ((s.afterDest w).setStatus (subFlags (s.readReg w .alAw) (s.destElement w) false)).advanceIy w

/-- One element of LDM (41_block_bitfield_io.md R213). -/
def State.loadElement (w : Width) (s : State) : State :=
  ((s.afterSource w).writeReg w .alAw (s.sourceElement w)).advanceIx w

/-- One element of STM (41_block_bitfield_io.md R214). -/
def State.storeElement (w : Width) (s : State) : State :=
  (s.storeDest w (s.readReg w .alAw)).advanceIy w

/-- `MOVBK [DS1-spec:]dst-block,[Seg-spec:]src-block` (41_block_bitfield_io.md R210). -/
def execMovbk (w : Width) (s : State) : Host.Outcome State Fault Refusal :=
  .next (s.repeatElement (.movbk w) .moves (State.moveElement w))

/-- `CMPBK [Seg-spec:]src-block,[DS1-spec:]dst-block` (41_block_bitfield_io.md R211). -/
def execCmpbk (w : Width) (s : State) : Host.Outcome State Fault Refusal :=
  .next (s.repeatElement (.cmpbk w) .compares (State.compareElement w))

/-- `CMPM [DS1-spec:]dst-block` (41_block_bitfield_io.md R212). -/
def execCmpm (w : Width) (s : State) : Host.Outcome State Fault Refusal :=
  .next (s.repeatElement (.cmpm w) .compares (State.scanElement w))

/-- `LDM [Seg-spec:]src-block` (41_block_bitfield_io.md R213). -/
def execLdm (w : Width) (s : State) : Host.Outcome State Fault Refusal :=
  .next (s.repeatElement (.ldm w) .moves (State.loadElement w))

/-- `STM [DS1-spec:]dst-block` (41_block_bitfield_io.md R214). -/
def execStm (w : Width) (s : State) : Host.Outcome State Fault Refusal :=
  .next (s.repeatElement (.stm w) .moves (State.storeElement w))

end Sys2Proof.Machine
end

