-- ==== Sys2Proof/Machine/Branch.lean ====
section
/-! DEFINITION. Conditional branches (46_control_transfer.md R568 to R589). -/

namespace Sys2Proof.Machine

/-- A short branch: PC + the sign-extended displacement if the condition holds (46_control_transfer.md R568). -/
def State.branchIf (s : State) (cond : Bool) (disp : Byte) : State :=
  if cond then s.writePc (s.pc + disp.signExtend 16) else s

/-- CW - 1, then a short branch if CW is not 0 and the condition holds (46_control_transfer.md R586 to R588). -/
def State.countAndBranch (s : State) (cond : Bool) (disp : Byte) : State :=
  { s with cw := s.cw - 1 }.branchIf (s.cw - 1 != 0 && cond) disp

/-- `BR short-label` (46_control_transfer.md R561). -/
def execBrShort (disp : Byte) (s : State) : Host.Outcome State Fault Refusal :=
  .next (s.branchIf true disp)

/-- `BV short-label` (46_control_transfer.md R570). -/
def execBv (disp : Byte) (s : State) : Host.Outcome State Fault Refusal :=
  .next (s.branchIf s.psw.v disp)

/-- `BNV short-label` (46_control_transfer.md R571). -/
def execBnv (disp : Byte) (s : State) : Host.Outcome State Fault Refusal :=
  .next (s.branchIf (!s.psw.v) disp)

/-- `BC short-label` (46_control_transfer.md R572). -/
def execBc (disp : Byte) (s : State) : Host.Outcome State Fault Refusal :=
  .next (s.branchIf s.psw.cy disp)

/-- `BNC short-label` (46_control_transfer.md R573). -/
def execBnc (disp : Byte) (s : State) : Host.Outcome State Fault Refusal :=
  .next (s.branchIf (!s.psw.cy) disp)

/-- `BE short-label` (46_control_transfer.md R574). -/
def execBe (disp : Byte) (s : State) : Host.Outcome State Fault Refusal :=
  .next (s.branchIf s.psw.z disp)

/-- `BNE short-label` (46_control_transfer.md R575). -/
def execBne (disp : Byte) (s : State) : Host.Outcome State Fault Refusal :=
  .next (s.branchIf (!s.psw.z) disp)

/-- `BNH short-label` (46_control_transfer.md R576). -/
def execBnh (disp : Byte) (s : State) : Host.Outcome State Fault Refusal :=
  .next (s.branchIf (s.psw.cy || s.psw.z) disp)

/-- `BH short-label` (46_control_transfer.md R577). -/
def execBh (disp : Byte) (s : State) : Host.Outcome State Fault Refusal :=
  .next (s.branchIf (!(s.psw.cy || s.psw.z)) disp)

/-- `BPE short-label` (46_control_transfer.md R578). -/
def execBpe (disp : Byte) (s : State) : Host.Outcome State Fault Refusal :=
  .next (s.branchIf s.psw.p disp)

/-- `BPO short-label` (46_control_transfer.md R579). -/
def execBpo (disp : Byte) (s : State) : Host.Outcome State Fault Refusal :=
  .next (s.branchIf (!s.psw.p) disp)

/-- `BN short-label` (46_control_transfer.md R580). -/
def execBn (disp : Byte) (s : State) : Host.Outcome State Fault Refusal :=
  .next (s.branchIf s.psw.s disp)

/-- `BP short-label` (46_control_transfer.md R581). -/
def execBp (disp : Byte) (s : State) : Host.Outcome State Fault Refusal :=
  .next (s.branchIf (!s.psw.s) disp)

/-- `BLT short-label` (46_control_transfer.md R582). -/
def execBlt (disp : Byte) (s : State) : Host.Outcome State Fault Refusal :=
  .next (s.branchIf (s.psw.s ^^ s.psw.v) disp)

/-- `BGE short-label` (46_control_transfer.md R583). -/
def execBge (disp : Byte) (s : State) : Host.Outcome State Fault Refusal :=
  .next (s.branchIf (!(s.psw.s ^^ s.psw.v)) disp)

/-- `BLE short-label` (46_control_transfer.md R584). -/
def execBle (disp : Byte) (s : State) : Host.Outcome State Fault Refusal :=
  .next (s.branchIf ((s.psw.s ^^ s.psw.v) || s.psw.z) disp)

/-- `BGT short-label` (46_control_transfer.md R585). -/
def execBgt (disp : Byte) (s : State) : Host.Outcome State Fault Refusal :=
  .next (s.branchIf (!((s.psw.s ^^ s.psw.v) || s.psw.z)) disp)

/-- `DBNZNE short-label` (46_control_transfer.md R586). -/
def execDbnzne (disp : Byte) (s : State) : Host.Outcome State Fault Refusal :=
  .next (s.countAndBranch (!s.psw.z) disp)

/-- `DBNZE short-label` (46_control_transfer.md R587). -/
def execDbnze (disp : Byte) (s : State) : Host.Outcome State Fault Refusal :=
  .next (s.countAndBranch s.psw.z disp)

/-- `DBNZ short-label` (46_control_transfer.md R588). -/
def execDbnz (disp : Byte) (s : State) : Host.Outcome State Fault Refusal :=
  .next (s.countAndBranch true disp)

/-- `BCWZ short-label` (46_control_transfer.md R589). -/
def execBcwz (disp : Byte) (s : State) : Host.Outcome State Fault Refusal :=
  .next (s.branchIf (s.cw == 0) disp)

end Sys2Proof.Machine
end

