-- ==== Sys2Proof/Machine/Break.lean ====
section
/-! DEFINITION. The break instructions, RETI and CHKIND (47_break_cpu_control.md R600 to R605). -/

namespace Sys2Proof.Machine

/-- CHKIND, its bounds read: vector 5 if the index is below the first bound or above the second, as signed numbers
(47_break_cpu_control.md R605; D26; log entry 34). -/
def State.checkIndex (s : State) (index : Word) (bounds : Word × Word) : State :=
  if index.slt bounds.1 || bounds.2.slt index then s.enterInterrupt 5 s.pc else s

/-- `BRK 3` (47_break_cpu_control.md R601). -/
def execBrk3 (s : State) : Host.Outcome State Fault Refusal :=
  .next (s.enterInterrupt 3 s.pc)

/-- `BRK imm8` (47_break_cpu_control.md R602). -/
def execBrkImm8 (imm : Byte) (s : State) : Host.Outcome State Fault Refusal :=
  .next (s.enterInterrupt imm s.pc)

/-- `BRKV` (47_break_cpu_control.md R603). -/
def execBrkv (s : State) : Host.Outcome State Fault Refusal :=
  .next (if s.psw.v then s.enterInterrupt 4 s.pc else s)

/-- `RETI` (47_break_cpu_control.md R604). -/
def execReti (s : State) : Host.Outcome State Fault Refusal :=
  .next s.returnFromInterrupt

/-- `CHKIND reg16,mem32` (47_break_cpu_control.md R605). -/
def execChkind (r : Reg) (m : MemOp) (s : State) : Host.Outcome State Fault Refusal :=
  .next ((s.afterPtr m).checkIndex (s.readReg .word r) (s.loadPtr m))

end Sys2Proof.Machine
end

