-- ==== Sys2Proof/Machine/Control.lean ====
section
/-! DEFINITION. Call, return and unconditional branch (46_control_transfer.md R520 to R529, R560 to R565). -/

namespace Sys2Proof.Machine

/-- The target of a call through a register; for SP the spec leaves open whether it is read before the push
(46_control_transfer.md R522; D7; log entry 8). -/
def State.callTarget (s : State) (r : Reg) : Word :=
  if r = .ahSp then (if Config.callSpReadsOld then s.sp else s.sp - 2) else s.readReg16 r

/-- Whether one of the first `bytes` bytes of a memory operand is among the `bytes` bytes that a call pushes
(46_control_transfer.md R523, R525). -/
def State.pushOverlaps (s : State) (m : MemOp) (bytes : Nat) : Bool :=
  (List.range bytes).any fun j => (List.range bytes).any fun k =>
    byteAddr (s.memSeg m) (s.ea m) j == byteAddr s.ss (s.sp - BitVec.ofNat 16 (2 * (k / 2 + 1))) (k % 2)

/-- Whether a call through memory reads its pointer before the push. It does; where the push overwrites the pointer, the
spec leaves the order open (46_control_transfer.md R523; D7; log entry 8). -/
def State.readsPointerFirst (s : State) (m : MemOp) (bytes : Nat) : Bool :=
  !s.pushOverlaps m bytes || Config.callReadsPointerFirst

/-- A call through memory in the same segment (46_control_transfer.md R523; D7; log entry 8). -/
def State.callThrough (s : State) (m : MemOp) : State :=
  if s.readsPointerFirst m 2 then ((s.afterMem .word m).push16 s.pc).writePc (s.loadMem .word m)
  else ((s.push16 s.pc).afterMem .word m).writePc ((s.push16 s.pc).loadMem .word m)

/-- A call through memory to another segment (46_control_transfer.md R525; D7; log entry 8). -/
def State.callFarThrough (s : State) (m : MemOp) : State :=
  let t := (s.push16 s.ps).push16 s.pc
  if s.readsPointerFirst m 4 then (((s.afterPtr m).push16 s.ps).push16 s.pc).farTransfer (s.loadPtr m)
  else (t.afterPtr m).farTransfer (t.loadPtr m)

/-- A near return that skips `n` more bytes of the stack (46_control_transfer.md R526, R527). -/
def State.returnNear (s : State) (n : Word) : State :=
  let t := s.popWords 1
  { t with sp := t.sp + n }.writePc (s.stackWord 0)

/-- A far return that skips `n` more bytes of the stack (46_control_transfer.md R528, R529). -/
def State.returnFar (s : State) (n : Word) : State :=
  let t := s.popWords 2
  { t with sp := t.sp + n }.farTransfer (s.stackWord 0, s.stackWord 1)

/-- `CALL near-proc` (46_control_transfer.md R521). -/
def execCallNear (disp : Word) (s : State) : Host.Outcome State Fault Refusal :=
  .next ((s.push16 s.pc).writePc (s.pc + disp))

/-- `CALL regptr16` (46_control_transfer.md R522). -/
def execCallRegptr16 (r : Reg) (s : State) : Host.Outcome State Fault Refusal :=
  .next ((s.push16 s.pc).writePc (s.callTarget r))

/-- `CALL memptr16` (46_control_transfer.md R523). -/
def execCallMemptr16 (m : MemOp) (s : State) : Host.Outcome State Fault Refusal :=
  .next (s.callThrough m)

/-- `CALL far-proc` (46_control_transfer.md R524). -/
def execCallFar (off seg : Word) (s : State) : Host.Outcome State Fault Refusal :=
  .next (((s.push16 s.ps).push16 s.pc).farTransfer (off, seg))

/-- `CALL memptr32` (46_control_transfer.md R525). -/
def execCallMemptr32 (m : MemOp) (s : State) : Host.Outcome State Fault Refusal :=
  .next (s.callFarThrough m)

/-- `RET (near)` (46_control_transfer.md R526). -/
def execRetNear (s : State) : Host.Outcome State Fault Refusal :=
  .next (s.returnNear 0)

/-- `RET pop-value (near)` (46_control_transfer.md R527). -/
def execRetNearPop (n : Word) (s : State) : Host.Outcome State Fault Refusal :=
  .next (s.returnNear n)

/-- `RET (far)` (46_control_transfer.md R528). -/
def execRetFar (s : State) : Host.Outcome State Fault Refusal :=
  .next (s.returnFar 0)

/-- `RET pop-value (far)` (46_control_transfer.md R529). -/
def execRetFarPop (n : Word) (s : State) : Host.Outcome State Fault Refusal :=
  .next (s.returnFar n)

/-- `BR near-label` (46_control_transfer.md R560). -/
def execBrNear (disp : Word) (s : State) : Host.Outcome State Fault Refusal :=
  .next (s.writePc (s.pc + disp))

/-- `BR regptr16` (46_control_transfer.md R562). -/
def execBrRegptr16 (r : Reg) (s : State) : Host.Outcome State Fault Refusal :=
  .next (s.writePc (s.readReg .word r))

/-- `BR memptr16` (46_control_transfer.md R563). -/
def execBrMemptr16 (m : MemOp) (s : State) : Host.Outcome State Fault Refusal :=
  .next ((s.afterMem .word m).writePc (s.loadMem .word m))

/-- `BR far-label` (46_control_transfer.md R564). -/
def execBrFar (off seg : Word) (s : State) : Host.Outcome State Fault Refusal :=
  .next (s.farTransfer (off, seg))

/-- `BR memptr32` (46_control_transfer.md R565). -/
def execBrMemptr32 (m : MemOp) (s : State) : Host.Outcome State Fault Refusal :=
  .next ((s.afterPtr m).farTransfer (s.loadPtr m))

end Sys2Proof.Machine
end

