-- ==== Sys2Proof/Machine/Convert.lean ====
section
/-! DEFINITION. BCD adjust and data conversion (43_mul_div_adjust_convert.md R350 to R363). -/

namespace Sys2Proof.Machine

/-- Whether the low digit of AL needs adjusting (43_mul_div_adjust_convert.md R350, R351). -/
def State.lowDigitAdjust (s : State) : Bool := decide (9 < (s.readReg8 .alAw).toNat % 16) || s.psw.ac

/-- ADJBA (+6, +1) and ADJBS (-6, -1) (43_mul_div_adjust_convert.md R350, R352; log entry 35). -/
def State.adjustUnpacked (s : State) (lowStep highStep : Byte) : State :=
  let al := s.readReg8 .alAw
  let ah := s.readReg8 .ahSp
  let t := s.lowDigitAdjust
  let al' := (if t then al + lowStep else al) &&& 0x0F
  let ah' := if t then ah + highStep else ah
  { s with aw := ah' ++ al' }.setStatus { s.drawnStatus with ac := t, cy := t }

/-- ADJ4A (43_mul_div_adjust_convert.md R351; D34; log entry 35). V is drawn (90_conflicts.md C25). -/
def State.adjustPackedAdd (s : State) : State :=
  let al := s.readReg8 .alAw
  let low := s.lowDigitAdjust
  let al1 := if low then al + 6 else al
  let cy1 := s.psw.cy || (low && decide (256 ≤ al.toNat + 6))
  let high := decide (0x9F < al1.toNat) || cy1
  let al2 := if high then al1 + 0x60 else al1
  (s.writeReg8 .alAw al2).setStatus
    { v := s.drawnFlag .v, s := al2.msb, z := al2 == 0, ac := low, p := evenParity al2, cy := high }

/-- ADJ4S (43_mul_div_adjust_convert.md R353; D34; log entry 35). V is drawn. -/
def State.adjustPackedSub (s : State) : State :=
  let al := s.readReg8 .alAw
  let low := s.lowDigitAdjust
  let al1 := if low then al - 6 else al
  let cy1 := s.psw.cy || (low && decide (al.toNat < 6))
  let high := decide (0x9F < al1.toNat) || cy1
  let al2 := if high then al1 - 0x60 else al1
  (s.writeReg8 .alAw al2).setStatus
    { v := s.drawnFlag .v, s := al2.msb, z := al2 == 0, ac := low, p := evenParity al2, cy := high }

/-- CVTBD: AH <- AL / 10, AL <- AL mod 10 (43_mul_div_adjust_convert.md R360). -/
def State.binaryToDecimal (s : State) : State :=
  let t := (s.readReg8 .alAw).toNat
  let al := BitVec.ofNat 8 (t % 10)
  { s with aw := BitVec.ofNat 8 (t / 10) ++ al }.setStatus (s.convertFlags al)

/-- CVTDB: AL <- AH * 10 + AL, AH <- 0 (43_mul_div_adjust_convert.md R361). -/
def State.decimalToBinary (s : State) : State :=
  let al := BitVec.ofNat 8 ((s.readReg8 .ahSp).toNat * 10 + (s.readReg8 .alAw).toNat)
  { s with aw := (0 : Byte) ++ al }.setStatus (s.convertFlags al)

/-- `ADJBA` (43_mul_div_adjust_convert.md R350). -/
def execAdjba (s : State) : Host.Outcome State Fault Refusal :=
  .next (s.adjustUnpacked 6 1)

/-- `ADJ4A` (43_mul_div_adjust_convert.md R351). -/
def execAdj4a (s : State) : Host.Outcome State Fault Refusal :=
  .next s.adjustPackedAdd

/-- `ADJBS` (43_mul_div_adjust_convert.md R352). -/
def execAdjbs (s : State) : Host.Outcome State Fault Refusal :=
  .next (s.adjustUnpacked (-6) (-1))

/-- `ADJ4S` (43_mul_div_adjust_convert.md R353). -/
def execAdj4s (s : State) : Host.Outcome State Fault Refusal :=
  .next s.adjustPackedSub

/-- `CVTBD` (43_mul_div_adjust_convert.md R360). -/
def execCvtbd (s : State) : Host.Outcome State Fault Refusal :=
  .next s.binaryToDecimal

/-- `CVTDB` (43_mul_div_adjust_convert.md R361). -/
def execCvtdb (s : State) : Host.Outcome State Fault Refusal :=
  .next s.decimalToBinary

/-- `CVTBW` (43_mul_div_adjust_convert.md R362). -/
def execCvtbw (s : State) : Host.Outcome State Fault Refusal :=
  .next (s.writeReg .word .alAw ((s.readReg .byte .alAw).signExtend 16))

/-- `CVTWL` (43_mul_div_adjust_convert.md R363). -/
def execCvtwl (s : State) : Host.Outcome State Fault Refusal :=
  .next (s.writeReg .word .dlDw (if s.aw.msb then 0xFFFF else 0))

end Sys2Proof.Machine
end

