-- ==== Sys2Proof/Machine/CpuControl.lean ====
section
/-! DEFINITION. CPU control instructions (47_break_cpu_control.md R616 to R625). -/

namespace Sys2Proof.Machine

/-- `HALT` (47_break_cpu_control.md R616); the halt cycle is on the bus, and a BUSLOCK prefix before it is kept for the
BUSLOCK output in standby (60_exceptions.md R699). -/
def execHalt (s : State) : Host.Outcome State Fault Refusal :=
  .next { s.recordCycles [s.busCycle .halt none none []] with standby := true, haltLocked := s.prefixes.buslock }

/-- `POLL` (47_break_cpu_control.md R617). -/
def execPoll (s : State) : Host.Outcome State Fault Refusal :=
  .next (if s.pins.pollLow then s else { s with inProgress := some .poll })

/-- `DI` (47_break_cpu_control.md R618). -/
def execDi (s : State) : Host.Outcome State Fault Refusal :=
  .next (s.setIe false)

/-- `EI` (47_break_cpu_control.md R619). -/
def execEi (s : State) : Host.Outcome State Fault Refusal :=
  .next ((s.setIe true).openWindow .ei)

/-- `FPO1 fp-op` (47_break_cpu_control.md R622). -/
def execFpo1 (x y z : BitVec 3) (s : State) : Host.Outcome State Fault Refusal :=
  .next (s.recordBus (.fpo1 x y (some z)))

/-- `FPO1 fp-op,mem` (47_break_cpu_control.md R621). -/
def execFpo1Mem (x y : BitVec 3) (m : MemOp) (s : State) : Host.Outcome State Fault Refusal :=
  .next ((s.recordBus (.fpo1 x y none)).afterMem .word m)

/-- `FPO2 fp-op` (47_break_cpu_control.md R623). -/
def execFpo2 (x : BitVec 1) (y z : BitVec 3) (s : State) : Host.Outcome State Fault Refusal :=
  .next (s.recordBus (.fpo2 x y (some z)))

/-- `FPO2 fp-op,mem` (47_break_cpu_control.md R625). -/
def execFpo2Mem (x : BitVec 1) (y : BitVec 3) (m : MemOp) (s : State) : Host.Outcome State Fault Refusal :=
  .next ((s.recordBus (.fpo2 x y none)).afterMem .word m)

/-- `NOP` (47_break_cpu_control.md R624). -/
def execNop (s : State) : Host.Outcome State Fault Refusal :=
  .next s

end Sys2Proof.Machine
end

