-- ==== Sys2Proof/Machine/DataTransfer.lean ====
section
/-! DEFINITION. The data transfer instructions (40_data_transfer.md). -/

namespace Sys2Proof.Machine

/-- `MOV reg,reg` (40_data_transfer.md R151). -/
def execMovRegReg (w : Width) (d q : Reg) (s : State) : Host.Outcome State Fault Refusal :=
  .next (s.writeReg w d (s.readReg w q))

/-- `MOV mem,reg` (40_data_transfer.md R152). -/
def execMovMemReg (w : Width) (m : MemOp) (r : Reg) (s : State) : Host.Outcome State Fault Refusal :=
  .next (s.storeMem w m (s.readReg w r))

/-- `MOV reg,mem` (40_data_transfer.md R153). -/
def execMovRegMem (w : Width) (r : Reg) (m : MemOp) (s : State) : Host.Outcome State Fault Refusal :=
  .next ((s.afterMem w m).writeReg w r (s.loadMem w m))

/-- `MOV mem,imm` (40_data_transfer.md R154). -/
def execMovMemImm (w : Width) (m : MemOp) (imm : Word) (s : State) : Host.Outcome State Fault Refusal :=
  .next (s.storeMem w m (imm.setWidth _))

/-- `MOV reg,imm` (40_data_transfer.md R155). -/
def execMovRegImm (w : Width) (r : Reg) (imm : Word) (s : State) : Host.Outcome State Fault Refusal :=
  .next (s.writeReg w r (imm.setWidth _))

/-- `MOV acc,dmem` (40_data_transfer.md R156). -/
def execMovAccDmem (w : Width) (addr : Word) (s : State) : Host.Outcome State Fault Refusal :=
  .next ((s.afterLoad w s.dataSreg addr).writeReg w .alAw (s.load w s.dataSeg addr))

/-- `MOV dmem,acc` (40_data_transfer.md R157). -/
def execMovDmemAcc (w : Width) (addr : Word) (s : State) : Host.Outcome State Fault Refusal :=
  .next (s.store w s.dataSreg addr (s.readReg w .alAw))

/-- `MOV sreg,reg16` (40_data_transfer.md R158). -/
def execMovSregReg16 (g : SReg) (r : Reg) (s : State) : Host.Outcome State Fault Refusal :=
  .next ((s.writeSreg g (s.readReg .word r)).openWindow .sreg)

/-- `MOV sreg,mem16` (40_data_transfer.md R159). -/
def execMovSregMem16 (g : SReg) (m : MemOp) (s : State) : Host.Outcome State Fault Refusal :=
  .next (((s.afterMem .word m).writeSreg g (s.loadMem .word m)).openWindow .sreg)

/-- `MOV reg16,sreg` (40_data_transfer.md R161). -/
def execMovReg16Sreg (r : Reg) (g : SReg) (s : State) : Host.Outcome State Fault Refusal :=
  .next ((s.writeReg .word r (s.readSreg g)).openWindow .sreg)

/-- `MOV mem16,sreg` (40_data_transfer.md R162). -/
def execMovMem16Sreg (m : MemOp) (g : SReg) (s : State) : Host.Outcome State Fault Refusal :=
  .next ((s.storeMem .word m (s.readSreg g)).openWindow .sreg)

/-- `MOV DS0,reg16,mem32` (40_data_transfer.md R163). -/
def execMovDs0Reg16Mem32 (r : Reg) (m : MemOp) (s : State) : Host.Outcome State Fault Refusal :=
  .next (((s.afterPtr m).writeReg .word r (s.loadPtr m).1).writeSreg .ds0 (s.loadPtr m).2)

/-- `MOV DS1,reg16,mem32` (40_data_transfer.md R164). -/
def execMovDs1Reg16Mem32 (r : Reg) (m : MemOp) (s : State) : Host.Outcome State Fault Refusal :=
  .next (((s.afterPtr m).writeReg .word r (s.loadPtr m).1).writeSreg .ds1 (s.loadPtr m).2)

/-- `MOV AH,PSW` (40_data_transfer.md R165). -/
def execMovAhPsw (s : State) : Host.Outcome State Fault Refusal :=
  .next (s.writeReg .byte .ahSp (s.pswLowWithDraws))

/-- `MOV PSW,AH` (40_data_transfer.md R166). -/
def execMovPswAh (s : State) : Host.Outcome State Fault Refusal :=
  .next (s.loadPswLow (s.readReg .byte .ahSp))

/-- `LDEA reg16,mem16` (40_data_transfer.md R167). -/
def execLdeaReg16Mem16 (r : Reg) (m : MemOp) (s : State) : Host.Outcome State Fault Refusal :=
  .next (s.writeReg .word r (s.ea m))

/-- `TRANS src-table` (40_data_transfer.md R168). -/
def execTrans (s : State) : Host.Outcome State Fault Refusal :=
  .next ((s.afterLoad .byte s.dataSreg (s.bw + (s.readReg .byte .alAw).setWidth 16)).writeReg .byte .alAw
    (s.load .byte s.dataSeg (s.bw + (s.readReg .byte .alAw).setWidth 16)))

/-- `XCH reg,reg` (40_data_transfer.md R169). -/
def execXchRegReg (w : Width) (d q : Reg) (s : State) : Host.Outcome State Fault Refusal :=
  .next ((s.writeReg w d (s.readReg w q)).writeReg w q (s.readReg w d))

/-- `XCH mem,reg` (40_data_transfer.md R170). -/
def execXchMemReg (w : Width) (m : MemOp) (r : Reg) (s : State) : Host.Outcome State Fault Refusal :=
  .next (((s.afterMem w m).storeMem w m (s.readReg w r)).writeReg w r (s.loadMem w m))

/-- `XCH AW,reg16` (40_data_transfer.md R171). -/
def execXchAwReg16 (r : Reg) (s : State) : Host.Outcome State Fault Refusal :=
  .next ((s.writeReg .word .alAw (s.readReg .word r)).writeReg .word r (s.readReg .word .alAw))

/-- `MOV reg,reg (d = 0 opcode)` (40_data_transfer.md R151, 30_encoding.md R123). -/
def execMovRegRegD0 (w : Width) (d q : Reg) (s : State) : Host.Outcome State Fault Refusal :=
  .next (s.writeReg w d (s.readReg w q))

/-- `MOV reg,imm (C6H/C7H form)` (40_data_transfer.md R155, 30_encoding.md R123). -/
def execMovRegImmC6 (w : Width) (r : Reg) (imm : Word) (s : State) : Host.Outcome State Fault Refusal :=
  .next (s.writeReg w r (imm.setWidth _))

end Sys2Proof.Machine
end

