-- ==== Sys2Proof/Machine/Emulation.lean ====
section
/-! DEFINITION. The mode-switch instructions BRKEM, RETEM and CALLN (48_emulation_mode.md R660 to R662), and what the
machine is to a μPD8080AF program: its registers, flags and addresses (R651 to R654). -/

namespace Sys2Proof.Machine

/-- `BRKEM imm8` (48_emulation_mode.md R660). -/
def execBrkem (imm : Byte) (s : State) : Host.Outcome State Fault Refusal :=
  s.breakForEmulation imm

/-- `RETEM` (48_emulation_mode.md R661). -/
def execRetem (s : State) : Host.Outcome State Fault Refusal :=
  .next s.returnFromEmulation

/-- `CALLN imm8` (48_emulation_mode.md R662). -/
def execCalln (imm : Byte) (s : State) : Host.Outcome State Fault Refusal :=
  .next (s.callNative imm)

/-- The registers of the μPD8080AF: the accumulator and the six general-purpose registers (48_emulation_mode.md R651). -/
inductive Reg8080 where
  | a
  | b
  | c
  | d
  | e
  | h
  | l
deriving DecidableEq, Repr

/-- The byte register that serves as a register of the μPD8080AF: AL as A, the bytes of CW, DW and BW as the six others
(48_emulation_mode.md R651). Which of the six is which byte is PRESUMED: the figure is lost (log entry 50). -/
def Reg8080.native : Reg8080 → Reg
  | .a => .alAw
  | .b => .chBp
  | .c => .clCw
  | .d => .dhIx
  | .e => .dlDw
  | .h => .bhIy
  | .l => .blBw

/-- A register of the μPD8080AF; a mode change keeps it where it is (48_emulation_mode.md R651). -/
def State.readReg8080 (s : State) (r : Reg8080) : Byte := s.readReg8 r.native

/-- Writes a register of the μPD8080AF (48_emulation_mode.md R651). -/
def State.writeReg8080 (s : State) (r : Reg8080) (v : Byte) : State := s.writeReg8 r.native v

/-- The stack pointer of the μPD8080AF is BP; its program counter is PC (48_emulation_mode.md R651). -/
def State.sp8080 (s : State) : Word := s.bp

/-- Writes the stack pointer of the μPD8080AF (48_emulation_mode.md R651). -/
def State.setSp8080 (s : State) (v : Word) : State := { s with bp := v }

/-- The flags of the μPD8080AF: the low byte of the PSW (48_emulation_mode.md R653). -/
def Psw.flags8080 (p : Psw) : Byte := lowByte p.image

/-- The physical address of an instruction byte of a μPD8080AF program (48_emulation_mode.md R654). -/
def State.codeAddress8080 (s : State) (x : Word) : Nat := phys s.ps x

/-- The physical address of a memory or stack operand of a μPD8080AF program (48_emulation_mode.md R654). -/
def State.dataAddress8080 (s : State) (x : Word) : Nat := phys s.ds0 x

end Sys2Proof.Machine
end

