-- ==== Sys2Proof/Machine/Io.lean ====
section
/-! DEFINITION. The input and output instructions (41_block_bitfield_io.md R230 to R237). -/

namespace Sys2Proof.Machine

/-- IN: the accumulator takes what the port answers (41_block_bitfield_io.md R230, R231). -/
def State.input (s : State) (w : Width) (port : Word) : State :=
  (s.afterIoRead w port).writeReg w .alAw (s.ioRead w port)

/-- One element of INM: from the port DW to DS1:IY (41_block_bitfield_io.md R234). -/
def State.inputElement (w : Width) (s : State) : State :=
  ((s.afterIoRead w s.dw).storeDest w (s.ioRead w s.dw)).advanceIy w

/-- One element of OUTM: from DSEG:IX to the port DW (41_block_bitfield_io.md R235). -/
def State.outputElement (w : Width) (s : State) : State :=
  ((s.afterSource w).ioWrite w s.dw (s.sourceElement w)).advanceIx w

/-- `IN acc,imm8` (41_block_bitfield_io.md R230). -/
def execInAccImm8 (w : Width) (imm : Byte) (s : State) : Host.Outcome State Fault Refusal :=
  .next (s.input w (imm.setWidth 16))

/-- `IN acc,DW` (41_block_bitfield_io.md R231). -/
def execInAccDw (w : Width) (s : State) : Host.Outcome State Fault Refusal :=
  .next (s.input w s.dw)

/-- `OUT imm8,acc` (41_block_bitfield_io.md R232). -/
def execOutImm8Acc (w : Width) (imm : Byte) (s : State) : Host.Outcome State Fault Refusal :=
  .next (s.ioWrite w (imm.setWidth 16) (s.readReg w .alAw))

/-- `OUT DW,acc` (41_block_bitfield_io.md R233). -/
def execOutDwAcc (w : Width) (s : State) : Host.Outcome State Fault Refusal :=
  .next (s.ioWrite w s.dw (s.readReg w .alAw))

/-- `INM [DS1-spec:]dst-block,DW` (41_block_bitfield_io.md R234). -/
def execInm (w : Width) (s : State) : Host.Outcome State Fault Refusal :=
  .next (s.repeatElement (.inm w) .moves (State.inputElement w))

/-- `OUTM DW,[Seg-spec:]src-block` (41_block_bitfield_io.md R235). -/
def execOutm (w : Width) (s : State) : Host.Outcome State Fault Refusal :=
  .next (s.repeatElement (.outm w) .moves (State.outputElement w))

end Sys2Proof.Machine
end

