-- ==== Sys2Proof/Machine/Logic.lean ====
section
/-! DEFINITION. Compare, complement and logical instructions (44_compare_logic_bit.md R380 to R413). -/

namespace Sys2Proof.Machine

/-- CMP: the flags of `SUBop`, nothing stored (44_compare_logic_bit.md R381). -/
def State.compareWith (s : State) (w : Width) (o : Operand) (src : Val w) : State :=
  (s.afterOperand w o).setStatus (subFlags (s.readOperand w o) src false)

/-- NOT: no flag changes (44_compare_logic_bit.md R387). -/
def State.notAt (s : State) (w : Width) (o : Operand) : State := (s.afterOperand w o).writeOperand w o (~~~s.readOperand w o)

/-- NEG: `SUBop(0, o, 0)` (44_compare_logic_bit.md R389). -/
def State.negAt (s : State) (w : Width) (o : Operand) : State :=
  ((s.afterOperand w o).writeOperand w o (subValue 0 (s.readOperand w o) false)).setStatus
    (subFlags (0 : Val w) (s.readOperand w o) false)

/-- TEST: `LOGop` of the AND, nothing stored (44_compare_logic_bit.md R391). -/
def State.testWith (s : State) (w : Width) (o : Operand) (src : Val w) : State :=
  (s.afterOperand w o).setStatus (s.logicFlags (s.readOperand w o &&& src))

/-- A logical operation's result `r`, stored with the flags of `LOGop` (44_compare_logic_bit.md R380). -/
def State.logicTo (s : State) (w : Width) (o : Operand) (r : Val w) : State :=
  ((s.afterOperand w o).writeOperand w o r).setStatus (s.logicFlags r)

/-- AND (44_compare_logic_bit.md R396). -/
def State.andTo (s : State) (w : Width) (o : Operand) (src : Val w) : State :=
  s.logicTo w o (s.readOperand w o &&& src)

/-- OR (44_compare_logic_bit.md R402). -/
def State.orTo (s : State) (w : Width) (o : Operand) (src : Val w) : State :=
  s.logicTo w o (s.readOperand w o ||| src)

/-- XOR (44_compare_logic_bit.md R408). -/
def State.xorTo (s : State) (w : Width) (o : Operand) (src : Val w) : State :=
  s.logicTo w o (s.readOperand w o ^^^ src)

/-- `CMP reg,reg` (44_compare_logic_bit.md R381). -/
def execCmpRegReg (w : Width) (d q : Reg) (s : State) : Host.Outcome State Fault Refusal :=
  .next (s.compareWith w (.reg d) (s.readReg w q))

/-- `CMP mem,reg` (44_compare_logic_bit.md R382). -/
def execCmpMemReg (w : Width) (m : MemOp) (r : Reg) (s : State) : Host.Outcome State Fault Refusal :=
  .next (s.compareWith w (.mem m) (s.readReg w r))

/-- `CMP reg,mem` (44_compare_logic_bit.md R383). -/
def execCmpRegMem (w : Width) (r : Reg) (m : MemOp) (s : State) : Host.Outcome State Fault Refusal :=
  .next ((s.afterMem w m).compareWith w (.reg r) (s.loadMem w m))

/-- `CMP reg,imm` (44_compare_logic_bit.md R384). -/
def execCmpRegImm (f : ImmSize) (r : Reg) (imm : Word) (s : State) : Host.Outcome State Fault Refusal :=
  .next (s.compareWith f.width (.reg r) (imm.setWidth _))

/-- `CMP mem,imm` (44_compare_logic_bit.md R385). -/
def execCmpMemImm (f : ImmSize) (m : MemOp) (imm : Word) (s : State) : Host.Outcome State Fault Refusal :=
  .next (s.compareWith f.width (.mem m) (imm.setWidth _))

/-- `CMP acc,imm` (44_compare_logic_bit.md R386). -/
def execCmpAccImm (w : Width) (imm : Word) (s : State) : Host.Outcome State Fault Refusal :=
  .next (s.compareWith w (.reg .alAw) (imm.setWidth _))

/-- `NOT reg` (44_compare_logic_bit.md R387). -/
def execNotReg (w : Width) (r : Reg) (s : State) : Host.Outcome State Fault Refusal :=
  .next (s.notAt w (.reg r))

/-- `NOT mem` (44_compare_logic_bit.md R388). -/
def execNotMem (w : Width) (m : MemOp) (s : State) : Host.Outcome State Fault Refusal :=
  .next (s.notAt w (.mem m))

/-- `NEG reg` (44_compare_logic_bit.md R389). -/
def execNegReg (w : Width) (r : Reg) (s : State) : Host.Outcome State Fault Refusal :=
  .next (s.negAt w (.reg r))

/-- `NEG mem` (44_compare_logic_bit.md R390). -/
def execNegMem (w : Width) (m : MemOp) (s : State) : Host.Outcome State Fault Refusal :=
  .next (s.negAt w (.mem m))

/-- `TEST reg,reg` (44_compare_logic_bit.md R391). -/
def execTestRegReg (w : Width) (d q : Reg) (s : State) : Host.Outcome State Fault Refusal :=
  .next (s.testWith w (.reg d) (s.readReg w q))

/-- `TEST mem,reg` (44_compare_logic_bit.md R392). -/
def execTestMemReg (w : Width) (m : MemOp) (r : Reg) (s : State) : Host.Outcome State Fault Refusal :=
  .next (s.testWith w (.mem m) (s.readReg w r))

/-- `TEST reg,imm` (44_compare_logic_bit.md R393). -/
def execTestRegImm (w : Width) (r : Reg) (imm : Word) (s : State) : Host.Outcome State Fault Refusal :=
  .next (s.testWith w (.reg r) (imm.setWidth _))

/-- `TEST mem,imm` (44_compare_logic_bit.md R394). -/
def execTestMemImm (w : Width) (m : MemOp) (imm : Word) (s : State) : Host.Outcome State Fault Refusal :=
  .next (s.testWith w (.mem m) (imm.setWidth _))

/-- `TEST acc,imm` (44_compare_logic_bit.md R395). -/
def execTestAccImm (w : Width) (imm : Word) (s : State) : Host.Outcome State Fault Refusal :=
  .next (s.testWith w (.reg .alAw) (imm.setWidth _))

/-- `AND reg,reg` (44_compare_logic_bit.md R396). -/
def execAndRegReg (w : Width) (d q : Reg) (s : State) : Host.Outcome State Fault Refusal :=
  .next (s.andTo w (.reg d) (s.readReg w q))

/-- `AND mem,reg` (44_compare_logic_bit.md R397). -/
def execAndMemReg (w : Width) (m : MemOp) (r : Reg) (s : State) : Host.Outcome State Fault Refusal :=
  .next (s.andTo w (.mem m) (s.readReg w r))

/-- `AND reg,mem` (44_compare_logic_bit.md R398). -/
def execAndRegMem (w : Width) (r : Reg) (m : MemOp) (s : State) : Host.Outcome State Fault Refusal :=
  .next ((s.afterMem w m).andTo w (.reg r) (s.loadMem w m))

/-- `AND reg,imm` (44_compare_logic_bit.md R399). -/
def execAndRegImm (w : Width) (r : Reg) (imm : Word) (s : State) : Host.Outcome State Fault Refusal :=
  .next (s.andTo w (.reg r) (imm.setWidth _))

/-- `AND mem,imm` (44_compare_logic_bit.md R400). -/
def execAndMemImm (w : Width) (m : MemOp) (imm : Word) (s : State) : Host.Outcome State Fault Refusal :=
  .next (s.andTo w (.mem m) (imm.setWidth _))

/-- `AND acc,imm` (44_compare_logic_bit.md R401). -/
def execAndAccImm (w : Width) (imm : Word) (s : State) : Host.Outcome State Fault Refusal :=
  .next (s.andTo w (.reg .alAw) (imm.setWidth _))

/-- `OR reg,reg` (44_compare_logic_bit.md R402). -/
def execOrRegReg (w : Width) (d q : Reg) (s : State) : Host.Outcome State Fault Refusal :=
  .next (s.orTo w (.reg d) (s.readReg w q))

/-- `OR mem,reg` (44_compare_logic_bit.md R403). -/
def execOrMemReg (w : Width) (m : MemOp) (r : Reg) (s : State) : Host.Outcome State Fault Refusal :=
  .next (s.orTo w (.mem m) (s.readReg w r))

/-- `OR reg,mem` (44_compare_logic_bit.md R404). -/
def execOrRegMem (w : Width) (r : Reg) (m : MemOp) (s : State) : Host.Outcome State Fault Refusal :=
  .next ((s.afterMem w m).orTo w (.reg r) (s.loadMem w m))

/-- `OR reg,imm` (44_compare_logic_bit.md R405). -/
def execOrRegImm (w : Width) (r : Reg) (imm : Word) (s : State) : Host.Outcome State Fault Refusal :=
  .next (s.orTo w (.reg r) (imm.setWidth _))

/-- `OR mem,imm` (44_compare_logic_bit.md R406). -/
def execOrMemImm (w : Width) (m : MemOp) (imm : Word) (s : State) : Host.Outcome State Fault Refusal :=
  .next (s.orTo w (.mem m) (imm.setWidth _))

/-- `OR acc,imm` (44_compare_logic_bit.md R407). -/
def execOrAccImm (w : Width) (imm : Word) (s : State) : Host.Outcome State Fault Refusal :=
  .next (s.orTo w (.reg .alAw) (imm.setWidth _))

/-- `XOR reg,reg` (44_compare_logic_bit.md R408). -/
def execXorRegReg (w : Width) (d q : Reg) (s : State) : Host.Outcome State Fault Refusal :=
  .next (s.xorTo w (.reg d) (s.readReg w q))

/-- `XOR mem,reg` (44_compare_logic_bit.md R409). -/
def execXorMemReg (w : Width) (m : MemOp) (r : Reg) (s : State) : Host.Outcome State Fault Refusal :=
  .next (s.xorTo w (.mem m) (s.readReg w r))

/-- `XOR reg,mem` (44_compare_logic_bit.md R410). -/
def execXorRegMem (w : Width) (r : Reg) (m : MemOp) (s : State) : Host.Outcome State Fault Refusal :=
  .next ((s.afterMem w m).xorTo w (.reg r) (s.loadMem w m))

/-- `XOR reg,imm` (44_compare_logic_bit.md R411). -/
def execXorRegImm (w : Width) (r : Reg) (imm : Word) (s : State) : Host.Outcome State Fault Refusal :=
  .next (s.xorTo w (.reg r) (imm.setWidth _))

/-- `XOR mem,imm` (44_compare_logic_bit.md R412). -/
def execXorMemImm (w : Width) (m : MemOp) (imm : Word) (s : State) : Host.Outcome State Fault Refusal :=
  .next (s.xorTo w (.mem m) (imm.setWidth _))

/-- `XOR acc,imm` (44_compare_logic_bit.md R413). -/
def execXorAccImm (w : Width) (imm : Word) (s : State) : Host.Outcome State Fault Refusal :=
  .next (s.xorTo w (.reg .alAw) (imm.setWidth _))

/-- `OR reg,reg (d = 0 opcode)` (44_compare_logic_bit.md R402, 30_encoding.md R123). -/
def execOrRegRegD0 (w : Width) (d q : Reg) (s : State) : Host.Outcome State Fault Refusal :=
  .next (s.orTo w (.reg d) (s.readReg w q))

/-- `AND reg,reg (d = 0 opcode)` (44_compare_logic_bit.md R396, 30_encoding.md R123). -/
def execAndRegRegD0 (w : Width) (d q : Reg) (s : State) : Host.Outcome State Fault Refusal :=
  .next (s.andTo w (.reg d) (s.readReg w q))

/-- `XOR reg,reg (d = 0 opcode)` (44_compare_logic_bit.md R408, 30_encoding.md R123). -/
def execXorRegRegD0 (w : Width) (d q : Reg) (s : State) : Host.Outcome State Fault Refusal :=
  .next (s.xorTo w (.reg d) (s.readReg w q))

/-- `CMP reg,reg (d = 0 opcode)` (44_compare_logic_bit.md R381, 30_encoding.md R123). -/
def execCmpRegRegD0 (w : Width) (d q : Reg) (s : State) : Host.Outcome State Fault Refusal :=
  .next (s.compareWith w (.reg d) (s.readReg w q))

end Sys2Proof.Machine
end

