-- ==== Sys2Proof/Machine/MulDiv.lean ====
section
/-! DEFINITION. Multiplication and division (43_mul_div_adjust_convert.md R320 to R343). -/

namespace Sys2Proof.Machine

/-- MULU: AW <- AL * v, or DW,AW <- AW * v; CY and V say that the upper half is not 0
(43_mul_div_adjust_convert.md R321, R323). -/
def State.mulUnsigned (s : State) (w : Width) (v : Val w) : State :=
  match w with
  | .byte =>
    let p := (s.readReg8 .alAw).toNat * v.toNat
    { s with aw := BitVec.ofNat 16 p }.setStatus (s.productFlags (decide (0xFF < p)))
  | .word =>
    let p := s.aw.toNat * v.toNat
    { s with aw := BitVec.ofNat 16 p, dw := BitVec.ofNat 16 (p / 2 ^ 16) }.setStatus
      (s.productFlags (decide (0xFFFF < p)))

/-- MUL: the signed product; CY and V say that the upper half is not the sign extension of the lower
(43_mul_div_adjust_convert.md R325, R327). -/
def State.mulSigned (s : State) (w : Width) (v : Val w) : State :=
  match w with
  | .byte =>
    let p := (s.readReg8 .alAw).toInt * v.toInt
    { s with aw := BitVec.ofInt 16 p }.setStatus (s.productFlags (decide (p < -128) || decide (127 < p)))
  | .word =>
    let p := s.aw.toInt * v.toInt
    { s with aw := BitVec.ofInt 16 p, dw := BitVec.ofInt 16 (p / 2 ^ 16) }.setStatus
      (s.productFlags (decide (p < -32768) || decide (32767 < p)))

/-- MUL with an immediate: the low 16 bits of the signed product (43_mul_div_adjust_convert.md R329). -/
def State.mulImm (s : State) (d : Reg) (a b : Word) : State :=
  let p := a.toInt * b.toInt
  (s.writeReg16 d (BitVec.ofInt 16 p)).setStatus (s.productFlags (decide (p < -32768) || decide (32767 < p)))

/-- The registers a division writes: AL and AH, or AW and DW (43_mul_div_adjust_convert.md R335, R337). -/
def State.setQuotient (s : State) (w : Width) (q r : Val w) : State :=
  match w with
  | .byte => { s with aw := r ++ q }
  | .word => { s with aw := q, dw := r }

/-- A divide error: quotient and remainder are drawn, all six flags are drawn, then vector 0 is entered with the offset
of the next instruction (43_mul_div_adjust_convert.md R343; D10; log entry 15). -/
def State.divideError (s : State) (w : Width) : State :=
  let q : Val w := (Config.freeWord s.draws 0).setWidth w.bits
  let r : Val w := (Config.freeWord s.draws 1).setWidth w.bits
  ((s.setQuotient w q r).setStatus s.drawnStatus).enterInterrupt 0 s.pc

/-- The dividend: AW, or DW,AW (43_mul_div_adjust_convert.md R335, R337). -/
def State.dividend (s : State) (w : Width) : BitVec (2 * w.bits) :=
  match w with
  | .byte => s.aw
  | .word => s.dw ++ s.aw

/-- DIVU (43_mul_div_adjust_convert.md R335, R337). -/
def State.divUnsigned (s : State) (w : Width) (v : Val w) : State :=
  let t := (s.dividend w).toNat
  let d := v.toNat
  if d = 0 ∨ 2 ^ w.bits ≤ t / d then s.divideError w
  else (s.setQuotient w (BitVec.ofNat _ (t / d)) (BitVec.ofNat _ (t % d))).setStatus s.drawnStatus

/-- The greatest quotient of DIV: 127 or 32767; the least is its negative (43_mul_div_adjust_convert.md R339, R341). -/
def maxQuotient : Width → Int
  | .byte => 127
  | .word => 32767

/-- DIV: the quotient is rounded toward zero, the remainder has the sign of the dividend
(43_mul_div_adjust_convert.md R320, R339, R341). -/
def State.divSigned (s : State) (w : Width) (v : Val w) : State :=
  let t := (s.dividend w).toInt
  let d := v.toInt
  if d = 0 ∨ maxQuotient w < t.tdiv d ∨ t.tdiv d < -maxQuotient w then s.divideError w
  else (s.setQuotient w (BitVec.ofInt _ (t.tdiv d)) (BitVec.ofInt _ (t.tmod d))).setStatus s.drawnStatus

/-- `MULU reg8` (43_mul_div_adjust_convert.md R321). -/
def execMuluReg8 (r : Reg) (s : State) : Host.Outcome State Fault Refusal :=
  .next (s.mulUnsigned .byte (s.readReg .byte r))

/-- `MULU mem8` (43_mul_div_adjust_convert.md R322). -/
def execMuluMem8 (m : MemOp) (s : State) : Host.Outcome State Fault Refusal :=
  .next ((s.afterMem .byte m).mulUnsigned .byte (s.loadMem .byte m))

/-- `MULU reg16` (43_mul_div_adjust_convert.md R323). -/
def execMuluReg16 (r : Reg) (s : State) : Host.Outcome State Fault Refusal :=
  .next (s.mulUnsigned .word (s.readReg .word r))

/-- `MULU mem16` (43_mul_div_adjust_convert.md R324). -/
def execMuluMem16 (m : MemOp) (s : State) : Host.Outcome State Fault Refusal :=
  .next ((s.afterMem .word m).mulUnsigned .word (s.loadMem .word m))

/-- `MUL reg8` (43_mul_div_adjust_convert.md R325). -/
def execMulReg8 (r : Reg) (s : State) : Host.Outcome State Fault Refusal :=
  .next (s.mulSigned .byte (s.readReg .byte r))

/-- `MUL mem8` (43_mul_div_adjust_convert.md R326). -/
def execMulMem8 (m : MemOp) (s : State) : Host.Outcome State Fault Refusal :=
  .next ((s.afterMem .byte m).mulSigned .byte (s.loadMem .byte m))

/-- `MUL reg16` (43_mul_div_adjust_convert.md R327). -/
def execMulReg16 (r : Reg) (s : State) : Host.Outcome State Fault Refusal :=
  .next (s.mulSigned .word (s.readReg .word r))

/-- `MUL mem16` (43_mul_div_adjust_convert.md R328). -/
def execMulMem16 (m : MemOp) (s : State) : Host.Outcome State Fault Refusal :=
  .next ((s.afterMem .word m).mulSigned .word (s.loadMem .word m))

/-- `MUL reg16,reg16',imm8` (43_mul_div_adjust_convert.md R329). -/
def execMulReg16Reg16Imm8 (d q : Reg) (imm : Byte) (s : State) : Host.Outcome State Fault Refusal :=
  .next (s.mulImm d (s.readReg .word q) (imm.signExtend 16))

/-- `MUL reg16,mem16,imm8` (43_mul_div_adjust_convert.md R330). -/
def execMulReg16Mem16Imm8 (d : Reg) (m : MemOp) (imm : Byte) (s : State) : Host.Outcome State Fault Refusal :=
  .next ((s.afterMem .word m).mulImm d (s.loadMem .word m) (imm.signExtend 16))

/-- `MUL reg16,reg16',imm16` (43_mul_div_adjust_convert.md R331). -/
def execMulReg16Reg16Imm16 (d q : Reg) (imm : Word) (s : State) : Host.Outcome State Fault Refusal :=
  .next (s.mulImm d (s.readReg .word q) imm)

/-- `MUL reg16,mem16,imm16` (43_mul_div_adjust_convert.md R332). -/
def execMulReg16Mem16Imm16 (d : Reg) (m : MemOp) (imm : Word) (s : State) : Host.Outcome State Fault Refusal :=
  .next ((s.afterMem .word m).mulImm d (s.loadMem .word m) imm)

/-- `DIVU reg8` (43_mul_div_adjust_convert.md R335). -/
def execDivuReg8 (r : Reg) (s : State) : Host.Outcome State Fault Refusal :=
  .next (s.divUnsigned .byte (s.readReg .byte r))

/-- `DIVU mem8` (43_mul_div_adjust_convert.md R336). -/
def execDivuMem8 (m : MemOp) (s : State) : Host.Outcome State Fault Refusal :=
  .next ((s.afterMem .byte m).divUnsigned .byte (s.loadMem .byte m))

/-- `DIVU reg16` (43_mul_div_adjust_convert.md R337). -/
def execDivuReg16 (r : Reg) (s : State) : Host.Outcome State Fault Refusal :=
  .next (s.divUnsigned .word (s.readReg .word r))

/-- `DIVU mem16` (43_mul_div_adjust_convert.md R338). -/
def execDivuMem16 (m : MemOp) (s : State) : Host.Outcome State Fault Refusal :=
  .next ((s.afterMem .word m).divUnsigned .word (s.loadMem .word m))

/-- `DIV reg8` (43_mul_div_adjust_convert.md R339). -/
def execDivReg8 (r : Reg) (s : State) : Host.Outcome State Fault Refusal :=
  .next (s.divSigned .byte (s.readReg .byte r))

/-- `DIV mem8` (43_mul_div_adjust_convert.md R340). -/
def execDivMem8 (m : MemOp) (s : State) : Host.Outcome State Fault Refusal :=
  .next ((s.afterMem .byte m).divSigned .byte (s.loadMem .byte m))

/-- `DIV reg16` (43_mul_div_adjust_convert.md R341). -/
def execDivReg16 (r : Reg) (s : State) : Host.Outcome State Fault Refusal :=
  .next (s.divSigned .word (s.readReg .word r))

/-- `DIV mem16` (43_mul_div_adjust_convert.md R342). -/
def execDivMem16 (m : MemOp) (s : State) : Host.Outcome State Fault Refusal :=
  .next ((s.afterMem .word m).divSigned .word (s.loadMem .word m))

end Sys2Proof.Machine
end

