-- ==== Sys2Proof/Machine/Prefix.lean ====
section
/-! DEFINITION. The prefix bytes (30_encoding.md R102). Each is one step that only changes the prefix state; `step` clears it after
the instruction that follows (10_state.md R49; log entry 22). -/

namespace Sys2Proof.Machine

/-- A repeat prefix; a second one is refused (41_block_bitfield_io.md R202; D19). -/
def State.repeatPrefix (s : State) (k : Repeat) : Host.Outcome State Fault Refusal :=
  if s.prefixes.rep.isSome then .refused .repPrefixMisuse
  else .next { s with prefixes := { s.prefixes with rep := some k, count := s.prefixes.count + 1 } }

/-- A segment override prefix; a second one is refused (47_break_cpu_control.md R626; D19). -/
def State.overridePrefix (s : State) (g : SReg) : Host.Outcome State Fault Refusal :=
  if s.prefixes.seg.isSome then .refused .prefixMisuse
  else .next { s with prefixes := { s.prefixes with seg := some g, count := s.prefixes.count + 1 } }

/-- The BUSLOCK prefix; a second one is refused (47_break_cpu_control.md R620, 60_exceptions.md R695; D19). -/
def State.buslockPrefix (s : State) : Host.Outcome State Fault Refusal :=
  if s.prefixes.buslock then .refused .prefixMisuse
  else .next { s with prefixes := { s.prefixes with buslock := true, count := s.prefixes.count + 1 } }

/-- `REPC` (41_block_bitfield_io.md R201). -/
def execRepc (s : State) : Host.Outcome State Fault Refusal :=
  s.repeatPrefix .repc

/-- `REPNC` (41_block_bitfield_io.md R203). -/
def execRepnc (s : State) : Host.Outcome State Fault Refusal :=
  s.repeatPrefix .repnc

/-- `REP` (41_block_bitfield_io.md R204). -/
def execRep (s : State) : Host.Outcome State Fault Refusal :=
  s.repeatPrefix .rep

/-- `REPNE` (41_block_bitfield_io.md R206). -/
def execRepne (s : State) : Host.Outcome State Fault Refusal :=
  s.repeatPrefix .repne

/-- `BUSLOCK` (47_break_cpu_control.md R620). -/
def execBuslock (s : State) : Host.Outcome State Fault Refusal :=
  s.buslockPrefix

/-- `DS1:` (47_break_cpu_control.md R626). -/
def execDs1Prefix (s : State) : Host.Outcome State Fault Refusal :=
  s.overridePrefix .ds1

/-- `PS:` (47_break_cpu_control.md R626). -/
def execPsPrefix (s : State) : Host.Outcome State Fault Refusal :=
  s.overridePrefix .ps

/-- `SS:` (47_break_cpu_control.md R626). -/
def execSsPrefix (s : State) : Host.Outcome State Fault Refusal :=
  s.overridePrefix .ss

/-- `DS0:` (47_break_cpu_control.md R626). -/
def execDs0Prefix (s : State) : Host.Outcome State Fault Refusal :=
  s.overridePrefix .ds0

end Sys2Proof.Machine
end

