-- ==== Sys2Proof/Machine/Shift.lean ====
section
/-! DEFINITION. Shifts and rotates (45_shift_rotate.md). -/

namespace Sys2Proof.Machine

/-- The seven operations of the shift and rotate group (45_shift_rotate.md R470). -/
inductive ShiftOp where
  | rol
  | ror
  | rolc
  | rorc
  | shl
  | shr
  | shra
deriving DecidableEq, Repr

/-- Whether the operation is a rotate: S, Z, AC and P then do not change (45_shift_rotate.md R470). -/
def ShiftOp.rotates : ShiftOp → Bool
  | .rol => true
  | .ror => true
  | .rolc => true
  | .rorc => true
  | .shl => false
  | .shr => false
  | .shra => false

/-- A value with only its most significant bit given. -/
def topBit {n : Nat} (b : Bool) : BitVec n := if b then BitVec.ofNat n (2 ^ (n - 1)) else 0

/-- A value with only its least significant bit given. -/
def bottomBit {n : Nat} (b : Bool) : BitVec n := BitVec.ofNat n b.toNat

/-- One step on a value and CY (45_shift_rotate.md R470). -/
def ShiftOp.step {n : Nat} (op : ShiftOp) (x : BitVec n) (cy : Bool) : BitVec n × Bool :=
  match op with
  | .shl => (x <<< 1, x.msb)
  | .shr => (x >>> 1, x.getLsbD 0)
  | .shra => (x >>> 1 ||| topBit x.msb, x.getLsbD 0)
  | .rol => (x <<< 1 ||| bottomBit x.msb, x.msb)
  | .ror => (x >>> 1 ||| topBit (x.getLsbD 0), x.getLsbD 0)
  | .rolc => (x <<< 1 ||| bottomBit cy, x.msb)
  | .rorc => (x >>> 1 ||| topBit cy, x.getLsbD 0)

/-- `count` steps: the count is not masked (45_shift_rotate.md R470; D31; log entry 36). -/
def ShiftOp.steps {n : Nat} (op : ShiftOp) : Nat → BitVec n × Bool → BitVec n × Bool
  | 0, x => x
  | k + 1, x => ShiftOp.steps op k (op.step x.1 x.2)

/-- V of a by-1 form, from the result and the new CY (45_shift_rotate.md R471, R477, R483, R489, R495, R501, R507). -/
def ShiftOp.overflow {n : Nat} (op : ShiftOp) (r : BitVec n) (cy : Bool) : Bool :=
  match op with
  | .shl => r.msb != cy
  | .rol => r.msb != cy
  | .rolc => r.msb != cy
  | .shr => r.msb != r.getLsbD (n - 2)
  | .ror => r.msb != r.getLsbD (n - 2)
  | .rorc => r.msb != r.getLsbD (n - 2)
  | .shra => false

/-- The flags of a shift or rotate that made at least one step, with V given: a rotate writes V and CY, a shift also S,
Z and P of the result, and AC is drawn (45_shift_rotate.md R470). -/
def State.shiftFlags {n : Nat} (s : State) (op : ShiftOp) (r : BitVec n) (cy v : Bool) : Status :=
  if op.rotates then { s.psw.status with v := v, cy := cy }
  else { v := v, s := r.msb, z := r == 0, ac := s.drawnFlag .ac, p := evenParity r, cy := cy }

/-- The by-1 forms (45_shift_rotate.md R470). -/
def State.shiftOnce (s : State) (op : ShiftOp) (w : Width) (o : Operand) : State :=
  let r := op.step (s.readOperand w o) s.psw.cy
  ((s.afterOperand w o).writeOperand w o r.1).setStatus (s.shiftFlags op r.1 r.2 (op.overflow r.1 r.2))

/-- The flags of a CL or imm8 form: V is drawn; with count 0, CY keeps its value, a rotate leaves S, Z, AC and P, and a
shift draws them (45_shift_rotate.md R470; D31; log entry 36). -/
def State.shiftByFlags {n : Nat} (s : State) (op : ShiftOp) (count : Nat) (r : BitVec n) (cy : Bool) : Status :=
  if count = 0 then
    if op.rotates then { s.psw.status with v := s.drawnFlag .v } else { s.drawnStatus with cy := s.psw.cy }
  else s.shiftFlags op r cy (s.drawnFlag .v)

/-- The CL and imm8 forms: the operand is read once and written once, whatever the count (45_shift_rotate.md R470). -/
def State.shiftBy (s : State) (op : ShiftOp) (w : Width) (o : Operand) (count : Byte) : State :=
  let r := op.steps count.toNat (s.readOperand w o, s.psw.cy)
  ((s.afterOperand w o).writeOperand w o r.1).setStatus (s.shiftByFlags op count.toNat r.1 r.2)

/-- `SHL reg,1` (45_shift_rotate.md R471). -/
def execShlReg1 (w : Width) (r : Reg) (s : State) : Host.Outcome State Fault Refusal :=
  .next (s.shiftOnce .shl w (.reg r))

/-- `SHL mem,1` (45_shift_rotate.md R472). -/
def execShlMem1 (w : Width) (m : MemOp) (s : State) : Host.Outcome State Fault Refusal :=
  .next (s.shiftOnce .shl w (.mem m))

/-- `SHL reg,CL` (45_shift_rotate.md R473). -/
def execShlRegCl (w : Width) (r : Reg) (s : State) : Host.Outcome State Fault Refusal :=
  .next (s.shiftBy .shl w (.reg r) (s.readReg .byte .clCw))

/-- `SHL mem,CL` (45_shift_rotate.md R474). -/
def execShlMemCl (w : Width) (m : MemOp) (s : State) : Host.Outcome State Fault Refusal :=
  .next (s.shiftBy .shl w (.mem m) (s.readReg .byte .clCw))

/-- `SHL reg,imm8` (45_shift_rotate.md R475). -/
def execShlRegImm8 (w : Width) (r : Reg) (imm : Byte) (s : State) : Host.Outcome State Fault Refusal :=
  .next (s.shiftBy .shl w (.reg r) imm)

/-- `SHL mem,imm8` (45_shift_rotate.md R476). -/
def execShlMemImm8 (w : Width) (m : MemOp) (imm : Byte) (s : State) : Host.Outcome State Fault Refusal :=
  .next (s.shiftBy .shl w (.mem m) imm)

/-- `SHR reg,1` (45_shift_rotate.md R477). -/
def execShrReg1 (w : Width) (r : Reg) (s : State) : Host.Outcome State Fault Refusal :=
  .next (s.shiftOnce .shr w (.reg r))

/-- `SHR mem,1` (45_shift_rotate.md R478). -/
def execShrMem1 (w : Width) (m : MemOp) (s : State) : Host.Outcome State Fault Refusal :=
  .next (s.shiftOnce .shr w (.mem m))

/-- `SHR reg,CL` (45_shift_rotate.md R479). -/
def execShrRegCl (w : Width) (r : Reg) (s : State) : Host.Outcome State Fault Refusal :=
  .next (s.shiftBy .shr w (.reg r) (s.readReg .byte .clCw))

/-- `SHR mem,CL` (45_shift_rotate.md R480). -/
def execShrMemCl (w : Width) (m : MemOp) (s : State) : Host.Outcome State Fault Refusal :=
  .next (s.shiftBy .shr w (.mem m) (s.readReg .byte .clCw))

/-- `SHR reg,imm8` (45_shift_rotate.md R481). -/
def execShrRegImm8 (w : Width) (r : Reg) (imm : Byte) (s : State) : Host.Outcome State Fault Refusal :=
  .next (s.shiftBy .shr w (.reg r) imm)

/-- `SHR mem,imm8` (45_shift_rotate.md R482). -/
def execShrMemImm8 (w : Width) (m : MemOp) (imm : Byte) (s : State) : Host.Outcome State Fault Refusal :=
  .next (s.shiftBy .shr w (.mem m) imm)

/-- `SHRA reg,1` (45_shift_rotate.md R483). -/
def execShraReg1 (w : Width) (r : Reg) (s : State) : Host.Outcome State Fault Refusal :=
  .next (s.shiftOnce .shra w (.reg r))

/-- `SHRA mem,1` (45_shift_rotate.md R484). -/
def execShraMem1 (w : Width) (m : MemOp) (s : State) : Host.Outcome State Fault Refusal :=
  .next (s.shiftOnce .shra w (.mem m))

/-- `SHRA reg,CL` (45_shift_rotate.md R485). -/
def execShraRegCl (w : Width) (r : Reg) (s : State) : Host.Outcome State Fault Refusal :=
  .next (s.shiftBy .shra w (.reg r) (s.readReg .byte .clCw))

/-- `SHRA mem,CL` (45_shift_rotate.md R486). -/
def execShraMemCl (w : Width) (m : MemOp) (s : State) : Host.Outcome State Fault Refusal :=
  .next (s.shiftBy .shra w (.mem m) (s.readReg .byte .clCw))

/-- `SHRA reg,imm8` (45_shift_rotate.md R487). -/
def execShraRegImm8 (w : Width) (r : Reg) (imm : Byte) (s : State) : Host.Outcome State Fault Refusal :=
  .next (s.shiftBy .shra w (.reg r) imm)

/-- `SHRA mem,imm8` (45_shift_rotate.md R488). -/
def execShraMemImm8 (w : Width) (m : MemOp) (imm : Byte) (s : State) : Host.Outcome State Fault Refusal :=
  .next (s.shiftBy .shra w (.mem m) imm)

/-- `ROL reg,1` (45_shift_rotate.md R489). -/
def execRolReg1 (w : Width) (r : Reg) (s : State) : Host.Outcome State Fault Refusal :=
  .next (s.shiftOnce .rol w (.reg r))

/-- `ROL mem,1` (45_shift_rotate.md R490). -/
def execRolMem1 (w : Width) (m : MemOp) (s : State) : Host.Outcome State Fault Refusal :=
  .next (s.shiftOnce .rol w (.mem m))

/-- `ROL reg,CL` (45_shift_rotate.md R491). -/
def execRolRegCl (w : Width) (r : Reg) (s : State) : Host.Outcome State Fault Refusal :=
  .next (s.shiftBy .rol w (.reg r) (s.readReg .byte .clCw))

/-- `ROL mem,CL` (45_shift_rotate.md R492). -/
def execRolMemCl (w : Width) (m : MemOp) (s : State) : Host.Outcome State Fault Refusal :=
  .next (s.shiftBy .rol w (.mem m) (s.readReg .byte .clCw))

/-- `ROL reg,imm8` (45_shift_rotate.md R493). -/
def execRolRegImm8 (w : Width) (r : Reg) (imm : Byte) (s : State) : Host.Outcome State Fault Refusal :=
  .next (s.shiftBy .rol w (.reg r) imm)

/-- `ROL mem,imm8` (45_shift_rotate.md R494). -/
def execRolMemImm8 (w : Width) (m : MemOp) (imm : Byte) (s : State) : Host.Outcome State Fault Refusal :=
  .next (s.shiftBy .rol w (.mem m) imm)

/-- `ROR reg,1` (45_shift_rotate.md R495). -/
def execRorReg1 (w : Width) (r : Reg) (s : State) : Host.Outcome State Fault Refusal :=
  .next (s.shiftOnce .ror w (.reg r))

/-- `ROR mem,1` (45_shift_rotate.md R496). -/
def execRorMem1 (w : Width) (m : MemOp) (s : State) : Host.Outcome State Fault Refusal :=
  .next (s.shiftOnce .ror w (.mem m))

/-- `ROR reg,CL` (45_shift_rotate.md R497). -/
def execRorRegCl (w : Width) (r : Reg) (s : State) : Host.Outcome State Fault Refusal :=
  .next (s.shiftBy .ror w (.reg r) (s.readReg .byte .clCw))

/-- `ROR mem,CL` (45_shift_rotate.md R498). -/
def execRorMemCl (w : Width) (m : MemOp) (s : State) : Host.Outcome State Fault Refusal :=
  .next (s.shiftBy .ror w (.mem m) (s.readReg .byte .clCw))

/-- `ROR reg,imm8` (45_shift_rotate.md R499). -/
def execRorRegImm8 (w : Width) (r : Reg) (imm : Byte) (s : State) : Host.Outcome State Fault Refusal :=
  .next (s.shiftBy .ror w (.reg r) imm)

/-- `ROR mem,imm8` (45_shift_rotate.md R500). -/
def execRorMemImm8 (w : Width) (m : MemOp) (imm : Byte) (s : State) : Host.Outcome State Fault Refusal :=
  .next (s.shiftBy .ror w (.mem m) imm)

/-- `ROLC reg,1` (45_shift_rotate.md R501). -/
def execRolcReg1 (w : Width) (r : Reg) (s : State) : Host.Outcome State Fault Refusal :=
  .next (s.shiftOnce .rolc w (.reg r))

/-- `ROLC mem,1` (45_shift_rotate.md R502). -/
def execRolcMem1 (w : Width) (m : MemOp) (s : State) : Host.Outcome State Fault Refusal :=
  .next (s.shiftOnce .rolc w (.mem m))

/-- `ROLC reg,CL` (45_shift_rotate.md R503). -/
def execRolcRegCl (w : Width) (r : Reg) (s : State) : Host.Outcome State Fault Refusal :=
  .next (s.shiftBy .rolc w (.reg r) (s.readReg .byte .clCw))

/-- `ROLC mem,CL` (45_shift_rotate.md R504). -/
def execRolcMemCl (w : Width) (m : MemOp) (s : State) : Host.Outcome State Fault Refusal :=
  .next (s.shiftBy .rolc w (.mem m) (s.readReg .byte .clCw))

/-- `ROLC reg,imm8` (45_shift_rotate.md R505). -/
def execRolcRegImm8 (w : Width) (r : Reg) (imm : Byte) (s : State) : Host.Outcome State Fault Refusal :=
  .next (s.shiftBy .rolc w (.reg r) imm)

/-- `ROLC mem,imm8` (45_shift_rotate.md R506). -/
def execRolcMemImm8 (w : Width) (m : MemOp) (imm : Byte) (s : State) : Host.Outcome State Fault Refusal :=
  .next (s.shiftBy .rolc w (.mem m) imm)

/-- `RORC reg,1` (45_shift_rotate.md R507). -/
def execRorcReg1 (w : Width) (r : Reg) (s : State) : Host.Outcome State Fault Refusal :=
  .next (s.shiftOnce .rorc w (.reg r))

/-- `RORC mem,1` (45_shift_rotate.md R508). -/
def execRorcMem1 (w : Width) (m : MemOp) (s : State) : Host.Outcome State Fault Refusal :=
  .next (s.shiftOnce .rorc w (.mem m))

/-- `RORC reg,CL` (45_shift_rotate.md R509). -/
def execRorcRegCl (w : Width) (r : Reg) (s : State) : Host.Outcome State Fault Refusal :=
  .next (s.shiftBy .rorc w (.reg r) (s.readReg .byte .clCw))

/-- `RORC mem,CL` (45_shift_rotate.md R510). -/
def execRorcMemCl (w : Width) (m : MemOp) (s : State) : Host.Outcome State Fault Refusal :=
  .next (s.shiftBy .rorc w (.mem m) (s.readReg .byte .clCw))

/-- `RORC reg,imm8` (45_shift_rotate.md R511). -/
def execRorcRegImm8 (w : Width) (r : Reg) (imm : Byte) (s : State) : Host.Outcome State Fault Refusal :=
  .next (s.shiftBy .rorc w (.reg r) imm)

/-- `RORC mem,imm8` (45_shift_rotate.md R512). -/
def execRorcMemImm8 (w : Width) (m : MemOp) (imm : Byte) (s : State) : Host.Outcome State Fault Refusal :=
  .next (s.shiftBy .rorc w (.mem m) imm)

end Sys2Proof.Machine
end

