-- ==== Sys2Proof/Machine/Stack.lean ====
section
/-! DEFINITION. Push, pop and stack frames (46_control_transfer.md R540 to R557). -/

namespace Sys2Proof.Machine

/-- The value PUSH reg16 stores; for SP the spec leaves open whether it is the value before or after the decrement
(46_control_transfer.md R542; D7; log entry 8). -/
def State.pushValue (s : State) (r : Reg) : Word :=
  if r = .ahSp then (if Config.pushSpStoresOld then s.sp else s.sp - 2) else s.readReg16 r

/-- PUSH R: SP is stored as it was before the instruction (46_control_transfer.md R544). -/
def State.pushAll (s : State) : State :=
  (((((((s.push16 s.aw).push16 s.cw).push16 s.dw).push16 s.bw).push16 s.sp).push16 s.bp).push16 s.ix).push16 s.iy

/-- POP reg16; POP SP leaves in SP the popped word or that word plus 2 (46_control_transfer.md R552; D7; log
entry 8). -/
def State.popReg (s : State) (r : Reg) : State :=
  if r = .ahSp then { s.afterStack [0] with sp := if Config.popSpKeepsPopped then s.stackWord 0 else s.stackWord 0 + 2 }
  else (s.popWords 1).writeReg16 r (s.stackWord 0)

/-- POP R: the word where PUSH R stored SP is skipped and not read (46_control_transfer.md R554). -/
def State.popAll (s : State) : State :=
  { (s.afterStack [0, 1, 2, 4, 5, 6, 7]).dropWords 8 with
    iy := s.stackWord 0
    ix := s.stackWord 1
    bp := s.stackWord 2
    bw := s.stackWord 4
    dw := s.stackWord 5
    cw := s.stackWord 6
    aw := s.stackWord 7 }

/-- PREPARE's copies of the enclosing frame pointers: `n` times, BP goes down by 2 and the word at SS:BP is pushed
(46_control_transfer.md R556). -/
def State.copyFrames : Nat → State → State
  | 0, s => s
  | n + 1, s =>
    let t := { s with bp := s.bp - 2 }
    State.copyFrames n ((t.afterLoad .word .ss t.bp).push16 (t.load .word t.ss t.bp))

/-- PREPARE (46_control_transfer.md R556). -/
def State.prepareFrame (s : State) (size : Word) (depth : Nat) : State :=
  let t := s.push16 s.bp
  let u := if depth = 0 then t else (State.copyFrames (depth - 1) t).push16 t.sp
  { u with bp := t.sp, sp := u.sp - size }

/-- DISPOSE: SP <- BP, then BP is popped (46_control_transfer.md R557). -/
def State.disposeFrame (s : State) : State :=
  let t := { s with sp := s.bp }
  { t.popWords 1 with bp := t.stackWord 0 }

/-- `PUSH mem16` (46_control_transfer.md R541). -/
def execPushMem16 (m : MemOp) (s : State) : Host.Outcome State Fault Refusal :=
  .next ((s.afterMem .word m).push16 (s.loadMem .word m))

/-- `PUSH reg16` (46_control_transfer.md R542). -/
def execPushReg16 (r : Reg) (s : State) : Host.Outcome State Fault Refusal :=
  .next (s.push16 (s.pushValue r))

/-- `PUSH sreg` (46_control_transfer.md R543). -/
def execPushSreg (g : SReg) (s : State) : Host.Outcome State Fault Refusal :=
  .next (s.push16 (s.readSreg g))

/-- `PUSH R` (46_control_transfer.md R544). -/
def execPushR (s : State) : Host.Outcome State Fault Refusal :=
  .next s.pushAll

/-- `PUSH imm8` (46_control_transfer.md R545). -/
def execPushImm8 (imm : Byte) (s : State) : Host.Outcome State Fault Refusal :=
  .next (s.push16 (imm.signExtend 16))

/-- `PUSH imm16` (46_control_transfer.md R546). -/
def execPushImm16 (imm : Word) (s : State) : Host.Outcome State Fault Refusal :=
  .next (s.push16 imm)

/-- `PUSH PSW` (46_control_transfer.md R548). -/
def execPushPsw (s : State) : Host.Outcome State Fault Refusal :=
  .next (s.push16 s.psw.image)

/-- `POP mem16` (46_control_transfer.md R551). -/
def execPopMem16 (m : MemOp) (s : State) : Host.Outcome State Fault Refusal :=
  .next ((s.popWords 1).storeMem .word m (s.stackWord 0))

/-- `POP reg16` (46_control_transfer.md R552). -/
def execPopReg16 (r : Reg) (s : State) : Host.Outcome State Fault Refusal :=
  .next (s.popReg r)

/-- `POP sreg` (46_control_transfer.md R553). -/
def execPopSreg (g : SReg) (s : State) : Host.Outcome State Fault Refusal :=
  .next (((s.popWords 1).writeSreg g (s.stackWord 0)).openWindow .sreg)

/-- `POP R` (46_control_transfer.md R554). -/
def execPopR (s : State) : Host.Outcome State Fault Refusal :=
  .next s.popAll

/-- `POP PSW` (46_control_transfer.md R555). -/
def execPopPsw (s : State) : Host.Outcome State Fault Refusal :=
  .next ((s.popWords 1).loadPsw (s.stackWord 0))

/-- `PREPARE imm16,imm8` (46_control_transfer.md R556). -/
def execPrepare (size : Word) (depth : Byte) (s : State) : Host.Outcome State Fault Refusal :=
  .next (s.prepareFrame size depth.toNat)

/-- `DISPOSE` (46_control_transfer.md R557). -/
def execDispose (s : State) : Host.Outcome State Fault Refusal :=
  .next s.disposeFrame

/-- `PUSH reg16 (two-byte form)` (46_control_transfer.md R542, 30_encoding.md R123). -/
def execPushReg16Two (r : Reg) (s : State) : Host.Outcome State Fault Refusal :=
  .next (s.push16 (s.pushValue r))

/-- `POP reg16 (two-byte form)` (46_control_transfer.md R552, 30_encoding.md R123). -/
def execPopReg16Two (r : Reg) (s : State) : Host.Outcome State Fault Refusal :=
  .next (s.popReg r)

end Sys2Proof.Machine
end

