-- ==== Sys2Proof/Machine/Dispatch.lean ====
section
/-! DEFINITION. `exec`: one arm for each instruction, in the order of spec/opcode_table.json. -/

namespace Sys2Proof.Machine

open Sys2Proof

/-- The effect of an instruction on a state whose PC is already past it (10_state.md R29). -/
def exec (i : Instr) (s : State) : Host.Outcome State Fault Refusal :=
  match i with
  | .movRegReg w d q => Sys2Proof.Machine.execMovRegReg w d q s
  | .movMemReg w m r => Sys2Proof.Machine.execMovMemReg w m r s
  | .movRegMem w r m => Sys2Proof.Machine.execMovRegMem w r m s
  | .movMemImm w m imm => Sys2Proof.Machine.execMovMemImm w m imm s
  | .movRegImm w r imm => Sys2Proof.Machine.execMovRegImm w r imm s
  | .movAccDmem w addr => Sys2Proof.Machine.execMovAccDmem w addr s
  | .movDmemAcc w addr => Sys2Proof.Machine.execMovDmemAcc w addr s
  | .movSregReg16 g r => Sys2Proof.Machine.execMovSregReg16 g r s
  | .movSregMem16 g m => Sys2Proof.Machine.execMovSregMem16 g m s
  | .movReg16Sreg r g => Sys2Proof.Machine.execMovReg16Sreg r g s
  | .movMem16Sreg m g => Sys2Proof.Machine.execMovMem16Sreg m g s
  | .movDs0Reg16Mem32 r m => Sys2Proof.Machine.execMovDs0Reg16Mem32 r m s
  | .movDs1Reg16Mem32 r m => Sys2Proof.Machine.execMovDs1Reg16Mem32 r m s
  | .movAhPsw => Sys2Proof.Machine.execMovAhPsw s
  | .movPswAh => Sys2Proof.Machine.execMovPswAh s
  | .ldeaReg16Mem16 r m => Sys2Proof.Machine.execLdeaReg16Mem16 r m s
  | .trans => Sys2Proof.Machine.execTrans s
  | .xchRegReg w d q => Sys2Proof.Machine.execXchRegReg w d q s
  | .xchMemReg w m r => Sys2Proof.Machine.execXchMemReg w m r s
  | .xchAwReg16 r => Sys2Proof.Machine.execXchAwReg16 r s
  | .repc => Sys2Proof.Machine.execRepc s
  | .repnc => Sys2Proof.Machine.execRepnc s
  | .rep => Sys2Proof.Machine.execRep s
  | .repne => Sys2Proof.Machine.execRepne s
  | .movbk w => Sys2Proof.Machine.execMovbk w s
  | .cmpbk w => Sys2Proof.Machine.execCmpbk w s
  | .cmpm w => Sys2Proof.Machine.execCmpm w s
  | .ldm w => Sys2Proof.Machine.execLdm w s
  | .stm w => Sys2Proof.Machine.execStm w s
  | .insReg8Reg8 d q => Sys2Proof.Machine.execInsReg8Reg8 d q s
  | .insReg8Imm4 d imm => Sys2Proof.Machine.execInsReg8Imm4 d imm s
  | .extReg8Reg8 d q => Sys2Proof.Machine.execExtReg8Reg8 d q s
  | .extReg8Imm4 d imm => Sys2Proof.Machine.execExtReg8Imm4 d imm s
  | .inAccImm8 w imm => Sys2Proof.Machine.execInAccImm8 w imm s
  | .inAccDw w => Sys2Proof.Machine.execInAccDw w s
  | .outImm8Acc w imm => Sys2Proof.Machine.execOutImm8Acc w imm s
  | .outDwAcc w => Sys2Proof.Machine.execOutDwAcc w s
  | .inm w => Sys2Proof.Machine.execInm w s
  | .outm w => Sys2Proof.Machine.execOutm w s
  | .addRegReg w d q => Sys2Proof.Machine.execAddRegReg w d q s
  | .addMemReg w m r => Sys2Proof.Machine.execAddMemReg w m r s
  | .addRegMem w r m => Sys2Proof.Machine.execAddRegMem w r m s
  | .addRegImm f r imm => Sys2Proof.Machine.execAddRegImm f r imm s
  | .addMemImm f m imm => Sys2Proof.Machine.execAddMemImm f m imm s
  | .addAccImm w imm => Sys2Proof.Machine.execAddAccImm w imm s
  | .addcRegReg w d q => Sys2Proof.Machine.execAddcRegReg w d q s
  | .addcMemReg w m r => Sys2Proof.Machine.execAddcMemReg w m r s
  | .addcRegMem w r m => Sys2Proof.Machine.execAddcRegMem w r m s
  | .addcRegImm f r imm => Sys2Proof.Machine.execAddcRegImm f r imm s
  | .addcMemImm f m imm => Sys2Proof.Machine.execAddcMemImm f m imm s
  | .addcAccImm w imm => Sys2Proof.Machine.execAddcAccImm w imm s
  | .subRegReg w d q => Sys2Proof.Machine.execSubRegReg w d q s
  | .subMemReg w m r => Sys2Proof.Machine.execSubMemReg w m r s
  | .subRegMem w r m => Sys2Proof.Machine.execSubRegMem w r m s
  | .subRegImm f r imm => Sys2Proof.Machine.execSubRegImm f r imm s
  | .subMemImm f m imm => Sys2Proof.Machine.execSubMemImm f m imm s
  | .subAccImm w imm => Sys2Proof.Machine.execSubAccImm w imm s
  | .subcRegReg w d q => Sys2Proof.Machine.execSubcRegReg w d q s
  | .subcMemReg w m r => Sys2Proof.Machine.execSubcMemReg w m r s
  | .subcRegMem w r m => Sys2Proof.Machine.execSubcRegMem w r m s
  | .subcRegImm f r imm => Sys2Proof.Machine.execSubcRegImm f r imm s
  | .subcMemImm f m imm => Sys2Proof.Machine.execSubcMemImm f m imm s
  | .subcAccImm w imm => Sys2Proof.Machine.execSubcAccImm w imm s
  | .add4s => Sys2Proof.Machine.execAdd4s s
  | .sub4s => Sys2Proof.Machine.execSub4s s
  | .cmp4s => Sys2Proof.Machine.execCmp4s s
  | .rol4Reg8 r => Sys2Proof.Machine.execRol4Reg8 r s
  | .rol4Mem8 m => Sys2Proof.Machine.execRol4Mem8 m s
  | .ror4Reg8 r => Sys2Proof.Machine.execRor4Reg8 r s
  | .ror4Mem8 m => Sys2Proof.Machine.execRor4Mem8 m s
  | .incReg8 r => Sys2Proof.Machine.execIncReg8 r s
  | .incMem w m => Sys2Proof.Machine.execIncMem w m s
  | .incReg16 r => Sys2Proof.Machine.execIncReg16 r s
  | .decReg8 r => Sys2Proof.Machine.execDecReg8 r s
  | .decMem w m => Sys2Proof.Machine.execDecMem w m s
  | .decReg16 r => Sys2Proof.Machine.execDecReg16 r s
  | .muluReg8 r => Sys2Proof.Machine.execMuluReg8 r s
  | .muluMem8 m => Sys2Proof.Machine.execMuluMem8 m s
  | .muluReg16 r => Sys2Proof.Machine.execMuluReg16 r s
  | .muluMem16 m => Sys2Proof.Machine.execMuluMem16 m s
  | .mulReg8 r => Sys2Proof.Machine.execMulReg8 r s
  | .mulMem8 m => Sys2Proof.Machine.execMulMem8 m s
  | .mulReg16 r => Sys2Proof.Machine.execMulReg16 r s
  | .mulMem16 m => Sys2Proof.Machine.execMulMem16 m s
  | .mulReg16Reg16Imm8 d q imm => Sys2Proof.Machine.execMulReg16Reg16Imm8 d q imm s
  | .mulReg16Mem16Imm8 d m imm => Sys2Proof.Machine.execMulReg16Mem16Imm8 d m imm s
  | .mulReg16Reg16Imm16 d q imm => Sys2Proof.Machine.execMulReg16Reg16Imm16 d q imm s
  | .mulReg16Mem16Imm16 d m imm => Sys2Proof.Machine.execMulReg16Mem16Imm16 d m imm s
  | .divuReg8 r => Sys2Proof.Machine.execDivuReg8 r s
  | .divuMem8 m => Sys2Proof.Machine.execDivuMem8 m s
  | .divuReg16 r => Sys2Proof.Machine.execDivuReg16 r s
  | .divuMem16 m => Sys2Proof.Machine.execDivuMem16 m s
  | .divReg8 r => Sys2Proof.Machine.execDivReg8 r s
  | .divMem8 m => Sys2Proof.Machine.execDivMem8 m s
  | .divReg16 r => Sys2Proof.Machine.execDivReg16 r s
  | .divMem16 m => Sys2Proof.Machine.execDivMem16 m s
  | .adjba => Sys2Proof.Machine.execAdjba s
  | .adj4a => Sys2Proof.Machine.execAdj4a s
  | .adjbs => Sys2Proof.Machine.execAdjbs s
  | .adj4s => Sys2Proof.Machine.execAdj4s s
  | .cvtbd => Sys2Proof.Machine.execCvtbd s
  | .cvtdb => Sys2Proof.Machine.execCvtdb s
  | .cvtbw => Sys2Proof.Machine.execCvtbw s
  | .cvtwl => Sys2Proof.Machine.execCvtwl s
  | .cmpRegReg w d q => Sys2Proof.Machine.execCmpRegReg w d q s
  | .cmpMemReg w m r => Sys2Proof.Machine.execCmpMemReg w m r s
  | .cmpRegMem w r m => Sys2Proof.Machine.execCmpRegMem w r m s
  | .cmpRegImm f r imm => Sys2Proof.Machine.execCmpRegImm f r imm s
  | .cmpMemImm f m imm => Sys2Proof.Machine.execCmpMemImm f m imm s
  | .cmpAccImm w imm => Sys2Proof.Machine.execCmpAccImm w imm s
  | .notReg w r => Sys2Proof.Machine.execNotReg w r s
  | .notMem w m => Sys2Proof.Machine.execNotMem w m s
  | .negReg w r => Sys2Proof.Machine.execNegReg w r s
  | .negMem w m => Sys2Proof.Machine.execNegMem w m s
  | .testRegReg w d q => Sys2Proof.Machine.execTestRegReg w d q s
  | .testMemReg w m r => Sys2Proof.Machine.execTestMemReg w m r s
  | .testRegImm w r imm => Sys2Proof.Machine.execTestRegImm w r imm s
  | .testMemImm w m imm => Sys2Proof.Machine.execTestMemImm w m imm s
  | .testAccImm w imm => Sys2Proof.Machine.execTestAccImm w imm s
  | .andRegReg w d q => Sys2Proof.Machine.execAndRegReg w d q s
  | .andMemReg w m r => Sys2Proof.Machine.execAndMemReg w m r s
  | .andRegMem w r m => Sys2Proof.Machine.execAndRegMem w r m s
  | .andRegImm w r imm => Sys2Proof.Machine.execAndRegImm w r imm s
  | .andMemImm w m imm => Sys2Proof.Machine.execAndMemImm w m imm s
  | .andAccImm w imm => Sys2Proof.Machine.execAndAccImm w imm s
  | .orRegReg w d q => Sys2Proof.Machine.execOrRegReg w d q s
  | .orMemReg w m r => Sys2Proof.Machine.execOrMemReg w m r s
  | .orRegMem w r m => Sys2Proof.Machine.execOrRegMem w r m s
  | .orRegImm w r imm => Sys2Proof.Machine.execOrRegImm w r imm s
  | .orMemImm w m imm => Sys2Proof.Machine.execOrMemImm w m imm s
  | .orAccImm w imm => Sys2Proof.Machine.execOrAccImm w imm s
  | .xorRegReg w d q => Sys2Proof.Machine.execXorRegReg w d q s
  | .xorMemReg w m r => Sys2Proof.Machine.execXorMemReg w m r s
  | .xorRegMem w r m => Sys2Proof.Machine.execXorRegMem w r m s
  | .xorRegImm w r imm => Sys2Proof.Machine.execXorRegImm w r imm s
  | .xorMemImm w m imm => Sys2Proof.Machine.execXorMemImm w m imm s
  | .xorAccImm w imm => Sys2Proof.Machine.execXorAccImm w imm s
  | .test1Reg8Cl r => Sys2Proof.Machine.execTest1Reg8Cl r s
  | .test1Mem8Cl m => Sys2Proof.Machine.execTest1Mem8Cl m s
  | .test1Reg16Cl r => Sys2Proof.Machine.execTest1Reg16Cl r s
  | .test1Mem16Cl m => Sys2Proof.Machine.execTest1Mem16Cl m s
  | .test1Reg8Imm3 r imm => Sys2Proof.Machine.execTest1Reg8Imm3 r imm s
  | .test1Mem8Imm3 m imm => Sys2Proof.Machine.execTest1Mem8Imm3 m imm s
  | .test1Reg16Imm4 r imm => Sys2Proof.Machine.execTest1Reg16Imm4 r imm s
  | .test1Mem16Imm4 m imm => Sys2Proof.Machine.execTest1Mem16Imm4 m imm s
  | .not1Reg8Cl r => Sys2Proof.Machine.execNot1Reg8Cl r s
  | .not1Mem8Cl m => Sys2Proof.Machine.execNot1Mem8Cl m s
  | .not1Reg16Cl r => Sys2Proof.Machine.execNot1Reg16Cl r s
  | .not1Mem16Cl m => Sys2Proof.Machine.execNot1Mem16Cl m s
  | .not1Reg8Imm3 r imm => Sys2Proof.Machine.execNot1Reg8Imm3 r imm s
  | .not1Mem8Imm3 m imm => Sys2Proof.Machine.execNot1Mem8Imm3 m imm s
  | .not1Reg16Imm4 r imm => Sys2Proof.Machine.execNot1Reg16Imm4 r imm s
  | .not1Mem16Imm4 m imm => Sys2Proof.Machine.execNot1Mem16Imm4 m imm s
  | .clr1Reg8Cl r => Sys2Proof.Machine.execClr1Reg8Cl r s
  | .clr1Mem8Cl m => Sys2Proof.Machine.execClr1Mem8Cl m s
  | .clr1Reg16Cl r => Sys2Proof.Machine.execClr1Reg16Cl r s
  | .clr1Mem16Cl m => Sys2Proof.Machine.execClr1Mem16Cl m s
  | .clr1Reg8Imm3 r imm => Sys2Proof.Machine.execClr1Reg8Imm3 r imm s
  | .clr1Mem8Imm3 m imm => Sys2Proof.Machine.execClr1Mem8Imm3 m imm s
  | .clr1Reg16Imm4 r imm => Sys2Proof.Machine.execClr1Reg16Imm4 r imm s
  | .clr1Mem16Imm4 m imm => Sys2Proof.Machine.execClr1Mem16Imm4 m imm s
  | .set1Reg8Cl r => Sys2Proof.Machine.execSet1Reg8Cl r s
  | .set1Mem8Cl m => Sys2Proof.Machine.execSet1Mem8Cl m s
  | .set1Reg16Cl r => Sys2Proof.Machine.execSet1Reg16Cl r s
  | .set1Mem16Cl m => Sys2Proof.Machine.execSet1Mem16Cl m s
  | .set1Reg8Imm3 r imm => Sys2Proof.Machine.execSet1Reg8Imm3 r imm s
  | .set1Mem8Imm3 m imm => Sys2Proof.Machine.execSet1Mem8Imm3 m imm s
  | .set1Reg16Imm4 r imm => Sys2Proof.Machine.execSet1Reg16Imm4 r imm s
  | .set1Mem16Imm4 m imm => Sys2Proof.Machine.execSet1Mem16Imm4 m imm s
  | .not1Cy => Sys2Proof.Machine.execNot1Cy s
  | .clr1Cy => Sys2Proof.Machine.execClr1Cy s
  | .set1Cy => Sys2Proof.Machine.execSet1Cy s
  | .clr1Dir => Sys2Proof.Machine.execClr1Dir s
  | .set1Dir => Sys2Proof.Machine.execSet1Dir s
  | .shlReg1 w r => Sys2Proof.Machine.execShlReg1 w r s
  | .shlMem1 w m => Sys2Proof.Machine.execShlMem1 w m s
  | .shlRegCl w r => Sys2Proof.Machine.execShlRegCl w r s
  | .shlMemCl w m => Sys2Proof.Machine.execShlMemCl w m s
  | .shlRegImm8 w r imm => Sys2Proof.Machine.execShlRegImm8 w r imm s
  | .shlMemImm8 w m imm => Sys2Proof.Machine.execShlMemImm8 w m imm s
  | .shrReg1 w r => Sys2Proof.Machine.execShrReg1 w r s
  | .shrMem1 w m => Sys2Proof.Machine.execShrMem1 w m s
  | .shrRegCl w r => Sys2Proof.Machine.execShrRegCl w r s
  | .shrMemCl w m => Sys2Proof.Machine.execShrMemCl w m s
  | .shrRegImm8 w r imm => Sys2Proof.Machine.execShrRegImm8 w r imm s
  | .shrMemImm8 w m imm => Sys2Proof.Machine.execShrMemImm8 w m imm s
  | .shraReg1 w r => Sys2Proof.Machine.execShraReg1 w r s
  | .shraMem1 w m => Sys2Proof.Machine.execShraMem1 w m s
  | .shraRegCl w r => Sys2Proof.Machine.execShraRegCl w r s
  | .shraMemCl w m => Sys2Proof.Machine.execShraMemCl w m s
  | .shraRegImm8 w r imm => Sys2Proof.Machine.execShraRegImm8 w r imm s
  | .shraMemImm8 w m imm => Sys2Proof.Machine.execShraMemImm8 w m imm s
  | .rolReg1 w r => Sys2Proof.Machine.execRolReg1 w r s
  | .rolMem1 w m => Sys2Proof.Machine.execRolMem1 w m s
  | .rolRegCl w r => Sys2Proof.Machine.execRolRegCl w r s
  | .rolMemCl w m => Sys2Proof.Machine.execRolMemCl w m s
  | .rolRegImm8 w r imm => Sys2Proof.Machine.execRolRegImm8 w r imm s
  | .rolMemImm8 w m imm => Sys2Proof.Machine.execRolMemImm8 w m imm s
  | .rorReg1 w r => Sys2Proof.Machine.execRorReg1 w r s
  | .rorMem1 w m => Sys2Proof.Machine.execRorMem1 w m s
  | .rorRegCl w r => Sys2Proof.Machine.execRorRegCl w r s
  | .rorMemCl w m => Sys2Proof.Machine.execRorMemCl w m s
  | .rorRegImm8 w r imm => Sys2Proof.Machine.execRorRegImm8 w r imm s
  | .rorMemImm8 w m imm => Sys2Proof.Machine.execRorMemImm8 w m imm s
  | .rolcReg1 w r => Sys2Proof.Machine.execRolcReg1 w r s
  | .rolcMem1 w m => Sys2Proof.Machine.execRolcMem1 w m s
  | .rolcRegCl w r => Sys2Proof.Machine.execRolcRegCl w r s
  | .rolcMemCl w m => Sys2Proof.Machine.execRolcMemCl w m s
  | .rolcRegImm8 w r imm => Sys2Proof.Machine.execRolcRegImm8 w r imm s
  | .rolcMemImm8 w m imm => Sys2Proof.Machine.execRolcMemImm8 w m imm s
  | .rorcReg1 w r => Sys2Proof.Machine.execRorcReg1 w r s
  | .rorcMem1 w m => Sys2Proof.Machine.execRorcMem1 w m s
  | .rorcRegCl w r => Sys2Proof.Machine.execRorcRegCl w r s
  | .rorcMemCl w m => Sys2Proof.Machine.execRorcMemCl w m s
  | .rorcRegImm8 w r imm => Sys2Proof.Machine.execRorcRegImm8 w r imm s
  | .rorcMemImm8 w m imm => Sys2Proof.Machine.execRorcMemImm8 w m imm s
  | .callNear disp => Sys2Proof.Machine.execCallNear disp s
  | .callRegptr16 r => Sys2Proof.Machine.execCallRegptr16 r s
  | .callMemptr16 m => Sys2Proof.Machine.execCallMemptr16 m s
  | .callFar off seg => Sys2Proof.Machine.execCallFar off seg s
  | .callMemptr32 m => Sys2Proof.Machine.execCallMemptr32 m s
  | .retNear => Sys2Proof.Machine.execRetNear s
  | .retNearPop n => Sys2Proof.Machine.execRetNearPop n s
  | .retFar => Sys2Proof.Machine.execRetFar s
  | .retFarPop n => Sys2Proof.Machine.execRetFarPop n s
  | .pushMem16 m => Sys2Proof.Machine.execPushMem16 m s
  | .pushReg16 r => Sys2Proof.Machine.execPushReg16 r s
  | .pushSreg g => Sys2Proof.Machine.execPushSreg g s
  | .pushR => Sys2Proof.Machine.execPushR s
  | .pushImm8 imm => Sys2Proof.Machine.execPushImm8 imm s
  | .pushImm16 imm => Sys2Proof.Machine.execPushImm16 imm s
  | .pushPsw => Sys2Proof.Machine.execPushPsw s
  | .popMem16 m => Sys2Proof.Machine.execPopMem16 m s
  | .popReg16 r => Sys2Proof.Machine.execPopReg16 r s
  | .popSreg g => Sys2Proof.Machine.execPopSreg g s
  | .popR => Sys2Proof.Machine.execPopR s
  | .popPsw => Sys2Proof.Machine.execPopPsw s
  | .prepare size depth => Sys2Proof.Machine.execPrepare size depth s
  | .dispose => Sys2Proof.Machine.execDispose s
  | .brNear disp => Sys2Proof.Machine.execBrNear disp s
  | .brShort disp => Sys2Proof.Machine.execBrShort disp s
  | .brRegptr16 r => Sys2Proof.Machine.execBrRegptr16 r s
  | .brMemptr16 m => Sys2Proof.Machine.execBrMemptr16 m s
  | .brFar off seg => Sys2Proof.Machine.execBrFar off seg s
  | .brMemptr32 m => Sys2Proof.Machine.execBrMemptr32 m s
  | .bv disp => Sys2Proof.Machine.execBv disp s
  | .bnv disp => Sys2Proof.Machine.execBnv disp s
  | .bc disp => Sys2Proof.Machine.execBc disp s
  | .bnc disp => Sys2Proof.Machine.execBnc disp s
  | .be disp => Sys2Proof.Machine.execBe disp s
  | .bne disp => Sys2Proof.Machine.execBne disp s
  | .bnh disp => Sys2Proof.Machine.execBnh disp s
  | .bh disp => Sys2Proof.Machine.execBh disp s
  | .bpe disp => Sys2Proof.Machine.execBpe disp s
  | .bpo disp => Sys2Proof.Machine.execBpo disp s
  | .bn disp => Sys2Proof.Machine.execBn disp s
  | .bp disp => Sys2Proof.Machine.execBp disp s
  | .blt disp => Sys2Proof.Machine.execBlt disp s
  | .bge disp => Sys2Proof.Machine.execBge disp s
  | .ble disp => Sys2Proof.Machine.execBle disp s
  | .bgt disp => Sys2Proof.Machine.execBgt disp s
  | .dbnzne disp => Sys2Proof.Machine.execDbnzne disp s
  | .dbnze disp => Sys2Proof.Machine.execDbnze disp s
  | .dbnz disp => Sys2Proof.Machine.execDbnz disp s
  | .bcwz disp => Sys2Proof.Machine.execBcwz disp s
  | .brk3 => Sys2Proof.Machine.execBrk3 s
  | .brkImm8 imm => Sys2Proof.Machine.execBrkImm8 imm s
  | .brkv => Sys2Proof.Machine.execBrkv s
  | .reti => Sys2Proof.Machine.execReti s
  | .chkind r m => Sys2Proof.Machine.execChkind r m s
  | .halt => Sys2Proof.Machine.execHalt s
  | .poll => Sys2Proof.Machine.execPoll s
  | .di => Sys2Proof.Machine.execDi s
  | .ei => Sys2Proof.Machine.execEi s
  | .buslock => Sys2Proof.Machine.execBuslock s
  | .fpo1 x y z => Sys2Proof.Machine.execFpo1 x y z s
  | .fpo1Mem x y m => Sys2Proof.Machine.execFpo1Mem x y m s
  | .fpo2 x y z => Sys2Proof.Machine.execFpo2 x y z s
  | .fpo2Mem x y m => Sys2Proof.Machine.execFpo2Mem x y m s
  | .nop => Sys2Proof.Machine.execNop s
  | .ds1Prefix => Sys2Proof.Machine.execDs1Prefix s
  | .psPrefix => Sys2Proof.Machine.execPsPrefix s
  | .ssPrefix => Sys2Proof.Machine.execSsPrefix s
  | .ds0Prefix => Sys2Proof.Machine.execDs0Prefix s
  | .brkem imm => Sys2Proof.Machine.execBrkem imm s
  | .retem => Sys2Proof.Machine.execRetem s
  | .calln imm => Sys2Proof.Machine.execCalln imm s
  | .addRegRegD0 w d q => Sys2Proof.Machine.execAddRegRegD0 w d q s
  | .orRegRegD0 w d q => Sys2Proof.Machine.execOrRegRegD0 w d q s
  | .addcRegRegD0 w d q => Sys2Proof.Machine.execAddcRegRegD0 w d q s
  | .subcRegRegD0 w d q => Sys2Proof.Machine.execSubcRegRegD0 w d q s
  | .andRegRegD0 w d q => Sys2Proof.Machine.execAndRegRegD0 w d q s
  | .subRegRegD0 w d q => Sys2Proof.Machine.execSubRegRegD0 w d q s
  | .xorRegRegD0 w d q => Sys2Proof.Machine.execXorRegRegD0 w d q s
  | .cmpRegRegD0 w d q => Sys2Proof.Machine.execCmpRegRegD0 w d q s
  | .movRegRegD0 w d q => Sys2Proof.Machine.execMovRegRegD0 w d q s
  | .incReg16Two r => Sys2Proof.Machine.execIncReg16Two r s
  | .decReg16Two r => Sys2Proof.Machine.execDecReg16Two r s
  | .pushReg16Two r => Sys2Proof.Machine.execPushReg16Two r s
  | .popReg16Two r => Sys2Proof.Machine.execPopReg16Two r s
  | .movRegImmC6 w r imm => Sys2Proof.Machine.execMovRegImmC6 w r imm s

end Sys2Proof.Machine
end

