-- ==== Sys2Proof/Machine/Step.lean ====
section
/-! DEFINITION. One step of the machine (log entries 22 to 26), and placing one instruction word where the next step
fetches (log entry 30).

The section is noncomputable for the reason given in Sys2Proof/Decode.lean. -/

noncomputable section

namespace Sys2Proof.Machine

/-- The end of a step: what follows the instruction, and the next free values. -/
def finishStep (i : Instr) (o : Host.Outcome State Fault Refusal) : Host.Outcome State Fault Refusal :=
  match o with
  | .next s => .next (s.finish i).nextDraw
  | .fault f => .fault f
  | .refused r => .refused r

/-- Fetches, decodes and executes the instruction at PC (30_encoding.md R109, 10_state.md R29). -/
def fetchStep (s : State) : Host.Outcome State Fault Refusal :=
  match s.fetched with
  | .error e => .refused (refusalOf e)
  | .ok (i, n) =>
    if repeatAllowed s.prefixes.rep i then finishStep i (exec i (s.advance n)) else .refused .repPrefixMisuse

/-- What the machine does in one step if RESET does not come: in standby no instruction runs (60_exceptions.md R699); an
instruction in progress goes on without being fetched again; else the instruction at PC runs. -/
def runStep (s : State) : Host.Outcome State Fault Refusal :=
  if s.standby then .next s.standbyStep.nextDraw
  else
    match s.inProgress with
    | some i => finishStep i (exec i { s with inProgress := none })
    | none => fetchStep s

/-- One step: the pins are sampled; RESET comes before everything and cuts the step short, and while it stays high nothing
happens (70_reset_and_hazards.md R741, R743; log entry 27). -/
def step (s : State) : Host.Outcome State Fault Refusal :=
  if s.resetRequested then .next (s.resetStep (runStep s)) else runStep s.sample

/-- Puts one byte at a physical address so that a fetch reads it: the address becomes RAM if a device answered there. -/
def State.placeByte (s : State) (a : Nat) (v : Byte) : State :=
  { s with
    mem := s.mem.write a v
    platform := if kindAt s.platform a = .device then ⟨a, 1, .ram⟩ :: s.platform else s.platform }

/-- Puts bytes at the offsets of PS from `PC + k` on. -/
def State.placeBytes (s : State) (k : Nat) : List Byte → State
  | [] => s
  | b :: rest => State.placeBytes (s.placeByte (phys s.ps (s.pc + BitVec.ofNat 16 k)) b) (k + 1) rest

/-- Whether the bytes are RETEM or CALLN, which exist in emulation mode only (30_encoding.md R131). -/
def emulationBytes (bs : List Byte) : Bool :=
  match decodeEmulation bs with
  | .ok _ => true
  | .error _ => false

/-- The state with one instruction stored where the next step fetches: the table's bytes, then zeros up to the longest
instruction; nothing prefetched, no prefix, no instruction in progress, not in standby, RESET low, no input to come; the mode in
which the word is an instruction (log entry 30). -/
def State.withFetchWord (s : State) (nbits w : Nat) : State :=
  let bs := bytesOf (nbits / 8) w
  let t := s.placeBytes 0 (bs ++ List.replicate (maxLength - bs.length) 0)
  { t with
    queue := []
    seen := []
    pfp := t.pc
    prefixes := Prefixes.none
    standby := false
    inProgress := none
    inputs := []
    pins := { t.pins with resetHigh := false }
    psw := { t.psw with md := !emulationBytes bs }
    mdwe := t.mdwe || emulationBytes bs }

end Sys2Proof.Machine

end
end

