-- ==== Sys2Proof/Safety.lean ====
section
/-! DEFINITION. The terms of the claims: what an instruction leaves unchanged, what a store leaves in memory, the flags
as the spec defines them, and the invariant of the states between two steps. -/

namespace Sys2Proof.Machine

/-- The instruction completes in a next state, and that state has the property. -/
def Completes (i : Instr) (s : State) (post : State → Prop) : Prop := ∃ t, exec i s = .next t ∧ post t

/-- Everything but the eight general registers, the PSW, memory and the record of the data cycles is unchanged: the segment
registers, PC, the prefetch state and its record, the interrupt, prefix and mode state, the inputs and the free-value
counter. -/
def SameRest (s t : State) : Prop :=
  t =
    { s with
      aw := t.aw
      bw := t.bw
      cw := t.cw
      dw := t.dw
      sp := t.sp
      bp := t.bp
      ix := t.ix
      iy := t.iy
      psw := t.psw
      mem := t.mem
      bus := t.bus }

/-- The eight general registers are unchanged. -/
def SameRegisters (s t : State) : Prop := ∀ r, t.readReg16 r = s.readReg16 r

/-- Every general register but the register `d` of width `w` is unchanged: for a byte register this includes the other
half of its word (10_state.md R21). -/
def SameRegistersBut (w : Width) (d : Reg) (s t : State) : Prop :=
  match w with
  | .byte => (∀ r, r ≠ d → t.readReg8 r = s.readReg8 r) ∧ t.sp = s.sp ∧ t.bp = s.bp ∧ t.ix = s.ix ∧ t.iy = s.iy
  | .word => ∀ r, r ≠ d → t.readReg16 r = s.readReg16 r

/-- Every general register outside the list is unchanged. -/
def SameWordsBut (changed : List Reg) (s t : State) : Prop := ∀ r, r ∉ changed → t.readReg16 r = s.readReg16 r

/-- The four segment registers are unchanged. -/
def SameSegments (s t : State) : Prop := ∀ g, t.readSreg g = s.readSreg g

/-- Every byte of memory reads as before, and nothing is done on the bus (the record of the bus is log entry 28). -/
def SameMemory (s t : State) : Prop := t.mem = s.mem ∧ t.bus = s.bus ∧ ∀ a, t.readByte a = s.readByte a

/-- The control flags MD, DIR, IE and BRK are unchanged. -/
def SameControlFlags (p q : Psw) : Prop := q.md = p.md ∧ q.dir = p.dir ∧ q.ie = p.ie ∧ q.brk = p.brk

/-- The byte that a list of stores, oldest first, leaves at an address, if it stores there. -/
def storedAt : List (Nat × Byte) → Nat → Option Byte
  | [], _ => none
  | (b, v) :: rest, a =>
    match storedAt rest a with
    | some x => some x
    | none => if a = b then some v else none

/-- Memory after the stores of these bytes: outside the stored addresses every byte of RAM and ROM reads as before; a
stored address in RAM reads the stored byte; ROM keeps its bytes (D21). What a read of a device answers is the
environment's, before and after. -/
structure StoresCells (s t : State) (cells : List (Nat × Byte)) : Prop where
  frame : ∀ a, kindAt s.platform a ≠ .device → storedAt cells a = none → t.readByte a = s.readByte a
  stored : ∀ a v, storedAt cells a = some v → kindAt s.platform a = .ram → t.readByte a = v
  kept : ∀ a, kindAt s.platform a = .rom → t.readByte a = s.readByte a

/-- The bytes of a value of width `w` at `seg:off`: the byte, or the low byte and then the high byte. -/
def cellsOf (w : Width) (seg off : Word) (v : Val w) : List (Nat × Byte) :=
  match w with
  | .byte => [(byteAddr seg off 0, v)]
  | .word => [(byteAddr seg off 0, BitVec.extractLsb' 0 8 v), (byteAddr seg off 1, BitVec.extractLsb' 8 8 v)]

/-- A value stored at an offset of the segment that a segment register gives. -/
structure StoreOp where
  w : Width
  segment : SReg
  off : Word
  value : Val w

/-- The bytes of a list of stores, oldest first. -/
def State.cellsOfStores (s : State) (ops : List StoreOp) : List (Nat × Byte) :=
  ops.flatMap fun o => cellsOf o.w (s.readSreg o.segment) o.off o.value

/-- The write cycles of a list of stores, oldest first. -/
def State.cyclesOfStores (s : State) (ops : List StoreOp) : List BusCycle :=
  ops.flatMap fun o => s.writeCycles o.w o.segment o.off o.value

/-- `t` is `s` after the stores: memory holds their bytes and is otherwise as before, and the bus has seen their write
cycles and no other. The record of the bus, its order and what it shows of a cycle are log entries 28 and 39. -/
structure Stores (s t : State) (ops : List StoreOp) : Prop where
  memory : StoresCells s t (s.cellsOfStores ops)
  onBus : t.bus = ((s.cyclesOfStores ops).map BusEvent.cycle).reverse ++ s.bus

/-- The operand holds the value, and no other general register and no other byte of memory has changed. -/
def OperandBecomes (s t : State) (w : Width) (o : Operand) (v : Val w) : Prop :=
  match o with
  | .reg d => t.readReg w d = v ∧ SameRegistersBut w d s t ∧ SameMemory s t
  | .mem m => SameRegisters s t ∧ Stores s t [⟨w, s.memSreg m, s.ea m, v⟩]

/-- The number of 1 bits among the low eight is even (10_state.md R37). -/
def EvenOnes {n : Nat} (r : BitVec n) : Prop := (List.range 8).countP (fun k => r.getLsbD k) % 2 = 0

/-- S, Z and P are those of the result (10_state.md R37, R39, R40). -/
def ResultFlags {n : Nat} (p : Psw) (r : BitVec n) : Prop :=
  (p.s = true ↔ 2 ^ (n - 1) ≤ r.toNat) ∧ (p.z = true ↔ r.toNat = 0) ∧ (p.p = true ↔ EvenOnes r)

/-- An integer is outside the signed range of `n` bits (10_state.md R41). -/
def Overflows (n : Nat) (x : Int) : Prop := x < -(2 ^ (n - 1)) ∨ 2 ^ (n - 1) ≤ x

/-- CY, AC and V of `a + b + c` (10_state.md R36, R38, R41). -/
def SumCarries {n : Nat} (p : Psw) (a b : BitVec n) (c : Bool) : Prop :=
  (p.cy = true ↔ 2 ^ n ≤ a.toNat + b.toNat + c.toNat) ∧
  (p.ac = true ↔ 16 ≤ a.toNat % 16 + b.toNat % 16 + c.toNat) ∧
  (p.v = true ↔ Overflows n (a.toInt + b.toInt + (c.toNat : Int)))

/-- CY, AC and V of `a - b - c` (10_state.md R36, R38, R41). -/
def DifferenceBorrows {n : Nat} (p : Psw) (a b : BitVec n) (c : Bool) : Prop :=
  (p.cy = true ↔ a.toNat < b.toNat + c.toNat) ∧
  (p.ac = true ↔ a.toNat % 16 < b.toNat % 16 + c.toNat) ∧
  (p.v = true ↔ Overflows n (a.toInt - b.toInt - (c.toNat : Int)))

/-- `o <- o + src + c` with the flags of the sum; nothing else changes. The operands are those of `s`; `u` is `s` after they
were read, as in all these statements: it differs from `s` in the read cycles on the bus only. -/
def AddsInto (i : Instr) (s u : State) (w : Width) (o : Operand) (src : Val w) (c : Bool) : Prop :=
  Completes i s fun t =>
    OperandBecomes u t w o (BitVec.ofNat _ ((s.readOperand w o).toNat + src.toNat + c.toNat)) ∧
    SumCarries t.psw (s.readOperand w o) src c ∧
    ResultFlags t.psw (BitVec.ofNat w.bits ((s.readOperand w o).toNat + src.toNat + c.toNat)) ∧
    SameControlFlags s.psw t.psw ∧ SameRest s t

/-- `o <- o - src - c` with the flags of the difference; nothing else changes. -/
def SubtractsFrom (i : Instr) (s u : State) (w : Width) (o : Operand) (src : Val w) (c : Bool) : Prop :=
  Completes i s fun t =>
    OperandBecomes u t w o (s.readOperand w o - src - BitVec.ofNat w.bits c.toNat) ∧
    DifferenceBorrows t.psw (s.readOperand w o) src c ∧
    ResultFlags t.psw (s.readOperand w o - src - BitVec.ofNat w.bits c.toNat) ∧
    SameControlFlags s.psw t.psw ∧ SameRest s t

/-- The flags of `a - b`; no register and no byte of memory changes. -/
def Compares (i : Instr) (s u : State) (w : Width) (a b : Val w) : Prop :=
  Completes i s fun t =>
    DifferenceBorrows t.psw a b false ∧ ResultFlags t.psw (a - b) ∧
    SameControlFlags s.psw t.psw ∧ SameRegisters s t ∧ SameMemory u t ∧ SameRest s t

/-- V and CY are cleared, S, Z and P are those of the result; AC is a free value (44_compare_logic_bit.md R380). -/
def LogicFlags {n : Nat} (s t : State) (r : BitVec n) : Prop :=
  t.psw.v = false ∧ t.psw.cy = false ∧ t.psw.ac = Config.freeFlag s.draws .ac ∧ ResultFlags t.psw r ∧
  SameControlFlags s.psw t.psw

/-- The operand becomes `r`, with the flags of a logical operation; nothing else changes. -/
def LogicInto (i : Instr) (s u : State) (w : Width) (o : Operand) (r : Val w) : Prop :=
  Completes i s fun t => OperandBecomes u t w o r ∧ LogicFlags s t r ∧ SameRest s t

/-- The operand becomes `r`; no flag and nothing else changes. -/
def MovesInto (i : Instr) (s u : State) (w : Width) (o : Operand) (r : Val w) : Prop :=
  Completes i s fun t => OperandBecomes u t w o r ∧ t.psw = s.psw ∧ SameRest s t

/-- The state with PC and the prefetch pointer at `x` and the queue cleared, as QS1 and QS0 say (10_state.md R31, R56);
nothing read before is within the prefetcher's reach. -/
def State.transferredTo (s : State) (x : Word) : State :=
  { s with pc := x, pfp := x, queue := [], seen := [], fetchLog := .queue .flushed :: s.fetchLog }

/-- With a target, control goes to it and nothing else changes; without, everything is as before (10_state.md R31). -/
def BranchesTo (i : Instr) (s : State) (target : Option Word) : Prop :=
  match target with
  | some x => exec i s = .next (s.transferredTo x)
  | none => exec i s = .next s

/-- The stores of pushed words, the first one first: each word lies two bytes below the one before it in the stack segment
(46_control_transfer.md R540). -/
def stackStores (sp : Word) : List Word → List StoreOp
  | [] => []
  | v :: rest => ⟨.word, .ss, sp - 2, v⟩ :: stackStores (sp - 2) rest

/-- An entry through a vector: PSW, PS and the return offset are pushed; the PSW and the write enable of MD take the given
values; then PC and PS are read from the vector, as memory reads after the pushes, and control goes there. -/
def EntersWith (s t : State) (vector : Byte) (ret : Word) (psw : Psw) (mdwe : Bool) : Prop :=
  ∃ u : State,
    let word (a : Nat) : Word := u.readByte (a + 1) ++ u.readByte a
    Stores s u (stackStores s.sp [s.psw.image, s.ps, ret]) ∧
    u = { s with sp := s.sp - 6, psw := psw, mdwe := mdwe, mem := u.mem, bus := u.bus } ∧
    t = { u.recordCycles (u.vectorCycles (4 * vector.toNat)) with
      ps := word (4 * vector.toNat + 2) }.transferredTo (word (4 * vector.toNat))

/-- The interrupt entry (60_exceptions.md R684): IE and BRK are cleared and MD is set. -/
def Enters (s t : State) (vector : Byte) (ret : Word) : Prop :=
  EntersWith s t vector ret { s.psw with ie := false, brk := false, md := true } s.mdwe

/-- The `k`-th instruction byte from PC on is `b`, whatever the prefetcher does: it is in the queue as `b`; or it is not in
the queue, and memory holds it there as `b` and has not held another byte there within the prefetcher's reach. -/
def State.InstructionByteIs (s : State) (k : Nat) (b : Byte) : Prop :=
  let address := phys s.ps (s.pc + BitVec.ofNat 16 k)
  match s.queue[k]? with
  | some q => q = b
  | none =>
    kindAt s.platform address ≠ .device ∧ s.readByte address = b ∧ ∀ old, s.seen[k]? = some old → old = b

/-- The number of prefixes in force. -/
def Prefixes.kinds (p : Prefixes) : Nat := p.seg.isSome.toNat + p.rep.isSome.toNat + p.buslock.toNat

/-- The block instructions, which a repeat prefix repeats (41_block_bitfield_io.md R202). -/
def isBlock : Instr → Bool
  | .movbk _ => true
  | .cmpbk _ => true
  | .cmpm _ => true
  | .ldm _ => true
  | .stm _ => true
  | .inm _ => true
  | .outm _ => true
  | _ => false

/-- What RESET leaves in the registers, the flags and the hidden state for which the spec gives a value
(10_state.md R50; 70_reset_and_hazards.md R741; D8, D20; log entry 2). -/
structure State.AtReset (s : State) : Prop where
  segments : s.ps = 0xFFFF ∧ s.ss = 0 ∧ s.ds0 = 0 ∧ s.ds1 = 0
  counters : s.pc = 0 ∧ s.pfp = 0
  control : s.psw.md = true ∧ s.psw.dir = false ∧ s.psw.ie = false ∧ s.psw.brk = false
  queue : s.queue = [] ∧ s.seen = []
  interrupts : s.nmiLatch = false ∧ s.window = .none ∧ s.stepArmed = false ∧ s.stepPending = false
  running : s.prefixes = Prefixes.none ∧ s.standby = false ∧ s.mdwe = false ∧ s.inProgress = none

/-- What holds of every state between two steps. -/
structure State.Inv (s : State) : Prop where
  /-- Memory is in its canonical form. -/
  memory : s.mem.wf = true
  /-- The prefetch pointer is PC plus the bytes in the queue (10_state.md R31, R32). -/
  prefetch : s.pfp = s.pc + BitVec.ofNat 16 s.queue.length
  /-- The queue holds at most `QUEUE_BYTES` bytes (10_state.md R32, R49). -/
  queue : s.queue.length ≤ s.chip.queueBytes
  /-- No byte beyond the reach of the prefetcher is remembered. -/
  seen : s.seen.length ≤ s.chip.fetchWindow
  /-- The count of prefix bytes is the number of prefixes in force, at most one of each type. -/
  prefixes : s.prefixes.count = s.prefixes.kinds
  /-- An interrupt-inhibit window lasts for one boundary only. -/
  window : s.window = .none
  /-- A single step is armed only inside an instruction: after a prefix byte, or while it is in progress. -/
  armed : s.stepArmed = true → s.prefixes.count ≠ 0 ∨ s.inProgress ≠ none
  /-- What is in progress is a waiting POLL or a block instruction under a repeat prefix. -/
  progress : ∀ i, s.inProgress = some i → i = .poll ∨ (isBlock i = true ∧ s.prefixes.rep ≠ none)
  /-- In standby no instruction is in progress and no prefix is in force. -/
  standby : s.standby = true → s.inProgress = none ∧ s.prefixes = Prefixes.none ∧ s.stepArmed = false
  /-- While RESET is high the processor does nothing: the machine is as RESET left it (70_reset_and_hazards.md R743). -/
  held : s.pins.resetHigh = true → s.AtReset

end Sys2Proof.Machine
end

