-- ==== Sys2Proof/Certificates/Slice0/Obligations.lean ====
section
/-! DEFINITION. The statements for the provers. Each says what an instruction or the machine does, and names in its
docstring the rules it formalises or the log entry of the choice it rests on. Throughout, what the bus records of an access,
and in which order, is log entry 28, and whether a cycle is locked log entry 39; free values are log entry 16. -/

open Sys2Proof Sys2Proof.Machine

/-- What reset leaves (10_state.md R50; 70_reset_and_hazards.md R741, R743). `State.reset` has the values the spec gives;
its other registers and flags hold the model's choice 0 (log entry 1), about which nothing is said here. RESET becoming
high while the machine runs, whatever it is doing, leaves the values of R50, the queue empty, the hidden state cleared
(D8, D20; log entries 2 and 27) and every other register and flag a free value, not the one that the cut step drew. Of the
step that RESET cuts short the first bus cycles have happened, none, some or all of them: memory holds what those of them
that write have written, and is otherwise as before; an NMI edge or a level of the sample with RESET takes no part in that
step, which the model counts from the state before the sample (log entry 27). While RESET stays high the processor does
nothing: only the levels, the inputs still to come and the free-value counter change, and an NMI edge is lost. -/
def Obligations.ResetLeavesTheStatedValues : Prop :=
  State.reset.AtReset ∧
  (∀ (s : State) (i : Input) (rest : List Input),
     s.inputs = i :: rest → i.pins.resetHigh = true → s.pins.resetHigh = false →
     ∃ t, step s = .next t ∧ t.AtReset ∧
       t.psw.status = { s with draws := s.draws + 1 }.drawnStatus ∧
       [t.aw, t.bw, t.cw, t.dw, t.sp, t.bp, t.ix, t.iy] = (List.range 8).map (Config.freeWord (s.draws + 1)) ∧
       t.inputs = rest ∧ t.pins = i.pins ∧ t.platform = s.platform ∧ t.chip = s.chip ∧ t.wiring = s.wiring ∧
       t.draws = s.draws + 2 ∧
       (∀ u, runStep s = .next u → ∃ n,
         let made := (newEvents s.bus u.bus).take n
         t.mem = (made.foldl State.replay s).mem ∧ t.bus = made.reverse ++ s.bus) ∧
       ((∀ u, runStep s ≠ .next u) → t.mem = s.mem ∧ t.bus = s.bus)) ∧
  (∀ s : State, s.pins.resetHigh = true → s.resetRequested = true →
     step s = .next { s with
       inputs := s.sample.inputs
       pins := s.sample.pins
       nmiLatch := false
       draws := s.draws + 1 })

/-- The state after reset satisfies the invariant of the states between two steps. The invariant is the model's own
(Safety.lean; log entries 3, 6, 22, 23, 26 and 27). -/
def Obligations.ResetSatisfiesInvariant : Prop := State.reset.Inv

/-- Every step, from any state with the invariant, whatever the instruction, the pins and the free values, leads to a
state with the invariant. The invariant is the model's own (Safety.lean; log entries 3, 6, 22, 23, 26 and 27). -/
def Obligations.EveryStepKeepsInvariant : Prop := ∀ s t : State, s.Inv → step s = .next t → t.Inv

/-- Decoding the encoding of a well-formed instruction gives the instruction and its length, whatever follows it: in
emulation mode for RETEM and CALLN, in native mode for all others (30_encoding.md R109, R131). Some of the opcode bits are
general knowledge, and the fourteen unlisted mod = 11 forms the spec's inference (log entries 33 and 37). -/
def Obligations.DecodingAnEncodingGivesTheInstruction : Prop :=
  ∀ (i : Instr) (rest : List Byte), i.wellFormed = true →
    ((i = .retem ∨ ∃ v, i = .calln v) → decodeEmulation (encode i ++ rest) = .ok (i, (encode i).length)) ∧
    (i ≠ .retem → (∀ v, i ≠ .calln v) → decode (encode i ++ rest) = .ok (i, (encode i).length))

/-- Every instruction the decoder answers is well-formed, one to six bytes long, and its encoding is exactly the bytes it
was read from: no bit of the bytes read is dropped (30_encoding.md R101, R109). Bytes beyond the list read as zero. Some
of the opcode bits are general knowledge, and the fourteen unlisted mod = 11 forms the spec's inference (log entries 33
and 37). -/
def Obligations.EncodingADecodedInstructionGivesItsBytes : Prop :=
  ∀ (bs : List Byte) (i : Instr) (n : Nat), decode bs = .ok (i, n) →
    i.wellFormed = true ∧ 1 ≤ n ∧ n ≤ 6 ∧ encode i = (List.range n).map fun k => bs.getD k 0

/-- The byte sequences that are no instruction, each refusal exactly where the spec puts it: the first opcode bytes that
are not listed, and the second ones after 0FH (30_encoding.md R117, R130); `mod = 11` where the operand must be memory:
CHKIND, LDEA, the pointer loads, and the far CALL and BR of the group FFH (R120); `MOV PS,...`: 8EH with `sreg = 01`
(40_data_transfer.md R160); and the unlisted values of a sub-opcode field or of fixed bits (30_encoding.md R119, R121,
R122; 44_compare_logic_bit.md R380). That the hardware's unstated behaviour here is a refusal is the spec's decision,
taken over by the model (D2, D18, D23, D27; log entry 31). -/
def Obligations.RefusedEncodingsAreTheListedOnes : Prop :=
  (∀ bs : List Byte, decode bs = .error .undefinedOpcode ↔
     bs.getD 0 0 ∈ [0x63, 0xD6, 0xF1] ∨
       (bs.getD 0 0 = 0x0F ∧
         bs.getD 1 0 ∉
           [0x10, 0x11, 0x12, 0x13, 0x14, 0x15, 0x16, 0x17, 0x18, 0x19, 0x1A, 0x1B, 0x1C, 0x1D, 0x1E, 0x1F,
             0x20, 0x22, 0x26, 0x28, 0x2A, 0x31, 0x33, 0x39, 0x3B, 0xFF])) ∧
  (∀ bs : List Byte,
     (decode bs = .error .registerWhereMemoryRequired ↔
       (bs.getD 1 0).extractLsb' 6 2 = 3 ∧
         (bs.getD 0 0 ∈ [0x62, 0x8D, 0xC4, 0xC5] ∨
           (bs.getD 0 0 = 0xFF ∧ (bs.getD 1 0).extractLsb' 3 3 ∈ [3, 5]))) ∧
     (decode bs = .error .movToPS ↔ bs.getD 0 0 = 0x8E ∧ (bs.getD 1 0).extractLsb' 3 3 = 1)) ∧
  (∀ bs : List Byte, decode bs = .error .undefinedSubOpcode ↔
    let first : Byte := bs.getD 0 0
    let second : Byte := bs.getD 1 0
    let third : Byte := bs.getD 2 0
    let field (b : Byte) : BitVec 3 := b.extractLsb' 3 3
    let mode (b : Byte) : BitVec 2 := b.extractLsb' 6 2
    (first ∈ [0x82, 0x83] ∧ field second ∈ [1, 4, 6]) ∨
    (first ∈ [0xC0, 0xC1, 0xD0, 0xD1, 0xD2, 0xD3] ∧ field second = 6) ∨
    (first ∈ [0xF6, 0xF7] ∧ field second = 1) ∨ (first = 0xFE ∧ field second ∉ [0, 1]) ∨
    (first = 0xFF ∧ field second = 7) ∨ (first ∈ [0x8F, 0xC6, 0xC7] ∧ field second ≠ 0) ∨
    (first ∈ [0x8C, 0x8E] ∧ 4 ≤ (field second).toNat) ∨ (first ∈ [0xD4, 0xD5] ∧ second ≠ 0x0A) ∨
    (first = 0x0F ∧
      ((second ∈ [0x10, 0x11, 0x12, 0x13, 0x14, 0x15, 0x16, 0x17, 0x18, 0x19, 0x1A, 0x1B, 0x1C, 0x1D, 0x1E, 0x1F,
            0x28, 0x2A] ∧ field third ≠ 0) ∨
        (second ∈ [0x31, 0x33] ∧ mode third ≠ 3) ∨
        (second ∈ [0x39, 0x3B] ∧ ¬ (mode third = 3 ∧ field third = 0)))))

/-- Words written out bit by bit from the encoding lines of the spec decode to the instructions they stand for: the
examples of 40_data_transfer.md R167 (8D 9C 00 01) and R169 (87 CB), 41_block_bitfield_io.md R222 (0F 39 C1 0C) and R223
(0F 33 D1), 42_add_sub_bcd.md R286 (0F 28 04), 43_mul_div_adjust_convert.md R330 (6B 0E 00 03 07), 46_control_transfer.md
R527 (C2 08 00) and 48_emulation_mode.md R662 (ED ED 40), and a sign-extended immediate, 83 C6 FE, from the encoding of
42_add_sub_bcd.md R254 and R275. The encodings of R169, R222 and R662 are general knowledge (log entry 33). -/
def Obligations.WrittenOutWordsDecode : Prop :=
  decode [0x8D, 0x9C, 0x00, 0x01] = .ok (.ldeaReg16Mem16 .blBw (.disp16 .ix 0x0100), 4) ∧
  decode [0x87, 0xCB] = .ok (.xchRegReg .word .clCw .blBw, 2) ∧
  decode [0x0F, 0x39, 0xC1, 0x0C] = .ok (.insReg8Imm4 .clCw 12, 4) ∧
  decode [0x0F, 0x33, 0xD1] = .ok (.extReg8Reg8 .clCw .dlDw, 3) ∧
  decode [0x0F, 0x28, 0x04] = .ok (.rol4Mem8 (.based .ix), 3) ∧
  decode [0x6B, 0x0E, 0x00, 0x03, 0x07] = .ok (.mulReg16Mem16Imm8 .clCw (.direct 0x0300) 7, 5) ∧
  decode [0x83, 0xC6, 0xFE] = .ok (.addRegImm .wordS .dhIx 0xFFFE, 3) ∧
  decode [0xC2, 0x08, 0x00] = .ok (.retNearPop 8, 3) ∧
  decodeEmulation [0xED, 0xED, 0x40] = .ok (.calln 0x40, 3)

/-- A step runs the instruction at PC, or goes on with the one in progress. With no RESET and not in standby, the step
samples the pins. With nothing in progress it decodes the bytes at PC (native or emulation mode by MD), refuses what is no
instruction or what the repeat prefix in force may not precede, and otherwise answers `exec` of the instruction on the
state whose PC is past it. With an instruction in progress, a repeat loop that goes on or a POLL that waits, it fetches
nothing and answers `exec` of that instruction on the sampled state, nothing then being in progress: the next pass. Either
way the end of the step follows: the boundary after a completed instruction, nothing after a prefix byte or while POLL
waits, the loop's own boundary while a repeat goes on; and the next free values. What one step is, is the model's choice
and not in the rules: a prefix byte is a step of its own (log entry 22); a repeat loop makes one pass a step and is held
in `inProgress` (log entry 23); the pins are sampled once, at the start of a step (log entry 24); so POLL samples its pin
once a step (log entry 25); and each step has its own free values (log entry 16). -/
def Obligations.StepRunsTheInstructionAtPc : Prop :=
  ∀ s : State, s.resetRequested = false → s.sample.standby = false →
    let runs (i : Instr) (u : State) : Prop :=
      (∀ t, exec i u = .next t →
        step s = .next
          (if isPrefix i then t.nextDraw
           else
            match t.inProgress with
            | none => t.boundary.nextDraw
            | some j => if j = .poll then t.nextDraw else t.loopBoundary.nextDraw)) ∧
      (∀ r, exec i u = .refused r → step s = .refused r)
    (s.sample.inProgress = none →
      (∀ e, s.sample.fetched = .error e → step s = .refused (refusalOf e)) ∧
      (∀ i n, s.sample.fetched = .ok (i, n) →
        (repeatAllowed s.sample.prefixes.rep i = false → step s = .refused .repPrefixMisuse) ∧
        (repeatAllowed s.sample.prefixes.rep i = true → runs i (s.sample.advance n)))) ∧
    (∀ i, s.sample.inProgress = some i → runs i { s.sample with inProgress := none })

/-- Encoded at PC, a well-formed instruction of the mode is the one the next step runs: if its bytes are those from PS:PC
on, each one in the queue, or else in memory with nothing stale within the prefetcher's reach, the step answers `exec` of
it on the state whose PC is past its bytes (10_state.md R28, R29, R30; 30_encoding.md R109), and then ends as
`State.finish` says. Past the instruction means: PC moved, the step armed by BRK, and the prefetcher's state, with the
prefetch pointer behind the queue and the queue within `QUEUE_BYTES`; nothing else changes. A prefetch (R32) happens only
if the queue has an empty byte (μPD70108) or an empty word (μPD70116); it reads a byte, or on the μPD70116 a word unless
the prefetch pointer is odd, with one program fetch cycle; its bytes join the queue and the prefetch pointer moves past
them. When a prefetch happens and which of two bytes a stored one executes as is open (log entry 6); offsets wrap (D5; log
entry 46). The cycle shows PS3, PS2 and BUSLOCK (10_state.md R56, 20_memory.md R75, 47_break_cpu_control.md R620): that
they are those of before the instruction executes, and that it is locked exactly while the prefix is in force, is the
model's choice (log entries 28 and 39). -/
def Obligations.StepRunsTheEncodedInstruction : Prop :=
  (∀ (s : State) (i : Instr) (t : State), i.wellFormed = true →
    (s.psw.md = false ↔ i = .retem ∨ ∃ v, i = .calln v) →
    s.resetRequested = false → s.standby = false → s.inProgress = none →
    s.pfp = s.pc + BitVec.ofNat 16 s.queue.length → s.queue.length ≤ s.chip.queueBytes →
    (∀ k b, (encode i)[k]? = some b → s.InstructionByteIs k b) →
    repeatAllowed s.prefixes.rep i = true →
    let u := s.sample.advance (encode i).length
    exec i u = .next t →
    step s = .next (t.finish i).nextDraw ∧
    u = { s.sample with
      pc := s.pc + BitVec.ofNat 16 (encode i).length
      stepArmed := s.psw.brk
      queue := u.queue
      pfp := u.pc + BitVec.ofNat 16 u.queue.length
      seen := u.seen
      fetchLog := u.fetchLog } ∧
    u.queue.length ≤ s.chip.queueBytes) ∧
  (∀ s : State,
    let room : Prop := s.queue.length + (if s.chip = .uPD70116 then 2 else 1) ≤ s.chip.queueBytes
    let n : Nat := if s.chip = .uPD70116 ∧ s.pfp.toNat % 2 = 0 then 2 else 1
    let data := (List.range n).map s.prefetchedByte
    Chip.uPD70108.queueBytes = 4 ∧ Chip.uPD70116.queueBytes = 6 ∧
    (¬ room → s.prefetch = s) ∧
    (room → s.prefetch = { s with
      queue := s.queue ++ data
      pfp := s.pfp + BitVec.ofNat 16 n
      fetchLog :=
        .cycle ⟨.fetch, !s.psw.md, s.psw.ie, s.prefixes.buslock, some .ps, some (phys s.ps s.pfp), data⟩ :: s.fetchLog }))

/-- The eight general registers as words and as halves (10_state.md R21, 30_encoding.md R106): a register written reads
back; writing a byte register changes those eight bits only and no other register; writing a word register changes no
other word register; nothing else in the state changes, and no register is hardwired. -/
def Obligations.RegistersHoldWhatIsWritten : Prop :=
  ∀ (s : State) (w : Width) (r : Reg) (v : Val w),
    (s.writeReg w r v).readReg w r = v ∧ SameRegistersBut w r s (s.writeReg w r v) ∧
    SameMemory s (s.writeReg w r v) ∧ (s.writeReg w r v).psw = s.psw ∧ SameRest s (s.writeReg w r v) ∧
    s.aw = s.readReg8 .ahSp ++ s.readReg8 .alAw ∧ s.bw = s.readReg8 .bhIy ++ s.readReg8 .blBw ∧
    s.cw = s.readReg8 .chBp ++ s.readReg8 .clCw ∧ s.dw = s.readReg8 .dhIx ++ s.readReg8 .dlDw

/-- Effective addresses and segments of memory operands (30_encoding.md R105; 20_memory.md R64): the sums of Table 12-5
modulo 2^16, SS where BP takes part and DS0 elsewhere, and a segment override in place of either. That the sums wrap is D5
(log entry 46). -/
def Obligations.EffectiveAddressesAndSegments : Prop :=
  ∀ (s : State) (d : Byte) (a : Word) (b : Base),
    s.ea (.direct a) = a ∧
    s.ea (.based .bwIx) = s.bw + s.ix ∧ s.ea (.based .bwIy) = s.bw + s.iy ∧ s.ea (.based .bpIx) = s.bp + s.ix ∧
    s.ea (.based .bpIy) = s.bp + s.iy ∧ s.ea (.based .ix) = s.ix ∧ s.ea (.based .iy) = s.iy ∧
    s.ea (.based .bp) = s.bp ∧ s.ea (.based .bw) = s.bw ∧
    s.ea (.disp8 b d) = s.ea (.based b) + BitVec.ofInt 16 d.toInt ∧ s.ea (.disp16 b a) = s.ea (.based b) + a ∧
    s.memSeg (.direct a) = s.readSreg (s.prefixes.seg.getD .ds0) ∧
    s.memSeg (.based b) = s.readSreg (s.prefixes.seg.getD (if b ∈ [.bpIx, .bpIy, .bp] then .ss else .ds0)) ∧
    s.memSeg (.disp8 b d) = s.memSeg (.based b) ∧ s.memSeg (.disp16 b a) = s.memSeg (.based b) ∧
    s.dataSeg = s.readSreg (s.prefixes.seg.getD .ds0)

/-- Words in memory are little-endian (20_memory.md R60, R62, R66): away from offset FFFFH the low byte of a word is at
`phys(seg, off)` and the high byte at the next offset; at offset FFFFH the high byte is at offset 0000H of the segment or
at the next physical address, which of the two being left open (R71; D6; log entry 7). A store leaves those bytes and
changes nothing else (D21), and a word stored in RAM reads back. The bus cycles of an access (R72): one for a byte; one
for a word at an even address of the μPD70116; else two, the low byte first; each shows the complement of MD on PS3, IE on
PS2 and the segment register on PS1 and PS0 (10_state.md R43, R45, R56), is locked while a BUSLOCK prefix is in force
(20_memory.md R75), and shows A0 and, on the μPD70116, UBE as in the table of R72. The codes of the bus cycle types, of
the segment registers and of the queue actions are those of R56; BS2-BS0, QS1, QS0 and BUSLOCK are in a large-scale
system, the select pin, BUFR/W and LBS0 in a small-scale one, LBS0 on the μPD70108 and UBE on the μPD70116 only, and the
select pin is high for I/O on the μPD70108 and low for I/O on the μPD70116 (00_scope.md R6, R8; log entry 52). Addresses
wrap by D5 (log entry 46); the record of the cycles is the model's (log entry 28). Which cycles are locked is log entry
39. -/
def Obligations.WordsInMemoryAreLittleEndian : Prop :=
  (∀ (s : State) (seg off : Word),
     s.load .byte seg off = s.readByte (phys seg off) ∧
     (off ≠ 0xFFFF → s.load .word seg off = s.readByte (phys seg (off + 1)) ++ s.readByte (phys seg off)) ∧
     (off = 0xFFFF →
       s.load .word seg off = s.readByte (phys seg 0) ++ s.readByte (phys seg off) ∨
       s.load .word seg off = s.readByte ((phys seg off + 1) % 2 ^ 20) ++ s.readByte (phys seg off))) ∧
  (∀ (s : State) (w : Width) (g : SReg) (off : Word) (v : Val w),
     let address (k : Nat) : Nat := byteAddr (s.readSreg g) off k
     Stores s (s.store w g off v) [⟨w, g, off, v⟩] ∧
     s.store w g off v = { s with mem := (s.store w g off v).mem, bus := (s.store w g off v).bus } ∧
     (kindAt s.platform (address 0) = .ram → kindAt s.platform (address 1) = .ram →
       (s.store w g off v).load w (s.readSreg g) off = v)) ∧
  (∀ (s : State) (w : Width) (g : SReg) (off : Word) (v : Val w) (kind : CycleKind),
     let address (k : Nat) : Nat := byteAddr (s.readSreg g) off k
     let cycle (k : Nat) (data : List Byte) : BusCycle :=
       ⟨kind, !s.psw.md, s.psw.ie, s.prefixes.buslock, some g, some (address k), data⟩
     let cycles := s.cyclesOf kind (some g) address w v
     s.readCycles w g off = s.cyclesOf .memRead (some g) address w (s.load w (s.readSreg g) off) ∧
     s.writeCycles w g off v = s.cyclesOf .memWrite (some g) address w v ∧
     (w = .byte → cycles = [cycle 0 [v.setWidth 8]]) ∧
     (w = .word → s.chip = .uPD70116 → address 0 % 2 = 0 →
       cycles = [cycle 0 [v.extractLsb' 0 8, v.extractLsb' 8 8]]) ∧
     (w = .word → s.chip = .uPD70108 ∨ address 0 % 2 = 1 →
       cycles = [cycle 0 [v.extractLsb' 0 8], cycle 1 [v.extractLsb' 8 8]]) ∧
     (kind ≠ .interruptAck → ∀ c ∈ cycles,
       c.a0 = c.address.map (fun a => decide (a % 2 = 1)) ∧
       c.ube .uPD70108 = none ∧ c.ube .uPD70116 ≠ none ∧
       (c.ube .uPD70116 = some false ↔ c.data.length = 2 ∨ ∃ a, c.address = some a ∧ a % 2 = 1))) ∧
  ([CycleKind.interruptAck, .ioRead, .ioWrite, .halt, .fetch, .memRead, .memWrite, .passive].map CycleKind.busStatus =
     [0, 1, 2, 3, 4, 5, 6, 7] ∧
   [CycleKind.fetch, .memRead, .memWrite, .passive, .interruptAck, .ioRead, .ioWrite, .halt].map
     CycleKind.smallScaleStatus = [0, 1, 2, 3, 4, 5, 6, 7] ∧
   [SReg.ds1, .ss, .ps, .ds0].map segmentStatus = [0, 1, 2, 3] ∧
   [QueueAction.nothing, .firstByte, .flushed, .subsequentByte].map QueueAction.status = [0, 1, 2, 3]) ∧
  (∀ (c : BusCycle) (chip : Chip) (a : QueueAction),
     c.pins chip .largeScale = ⟨some c.kind.busStatus, none, none, none, c.ube chip, c.a0,
       BitVec.ofBool c.ps3 ++ BitVec.ofBool c.ps2, c.segment.map segmentStatus, some !c.locked⟩ ∧
     (let small := c.pins chip .smallScale
      small.busStatus = none ∧ small.bufferWrite = some (c.kind.smallScaleStatus.getLsbD 1) ∧
      (small.lbs0 = if chip = .uPD70108 then some (c.kind.smallScaleStatus.getLsbD 0) else none) ∧
      small = { c.pins chip .largeScale with
        busStatus := none, select := small.select, bufferWrite := small.bufferWrite, lbs0 := small.lbs0, buslock := none } ∧
      (c.kind = .ioRead ∨ c.kind = .ioWrite → small.select = some (decide (chip = .uPD70108))) ∧
      (c.kind = .fetch ∨ c.kind = .memRead ∨ c.kind = .memWrite →
        small.select = some (decide (chip = .uPD70116)))) ∧
     a.pins .largeScale = some a.status ∧ a.pins .smallScale = none)

/-- The moves into a general register, LDEA, TRANS, the two sign extensions, and the moves into memory, low byte first:
the value, and that no flag, no other register and no other byte of memory changes (40_data_transfer.md R151 to R157,
R167, R168; 43_mul_div_adjust_convert.md R362, R363; 30_encoding.md R123). The register forms `movRegRegD0` and
`movRegImmC6` are unlisted mod = 11 forms (R123, D33; log entry 37). -/
def Obligations.MovesComplete : Prop :=
  (∀ (s : State) (w : Width) (d q : Reg) (m : MemOp) (imm addr : Word),
     MovesInto (.movRegReg w d q) s s w (.reg d) (s.readReg w q) ∧
     MovesInto (.movRegRegD0 w d q) s s w (.reg d) (s.readReg w q) ∧
     MovesInto (.movRegMem w d m) s (s.afterMem w m) w (.reg d) (s.load w (s.memSeg m) (s.ea m)) ∧
     MovesInto (.movRegImm w d imm) s s w (.reg d) (imm.setWidth _) ∧
     MovesInto (.movRegImmC6 w d imm) s s w (.reg d) (imm.setWidth _) ∧
     MovesInto (.movAccDmem w addr) s (s.afterLoad w s.dataSreg addr) w (.reg .alAw) (s.load w s.dataSeg addr) ∧
     MovesInto (.ldeaReg16Mem16 d m) s s .word (.reg d) (s.ea m) ∧
     (let entry : Word := s.bw + BitVec.ofNat 16 (s.readReg8 .alAw).toNat
      MovesInto .trans s (s.afterLoad .byte s.dataSreg entry) .byte (.reg .alAw) (s.load .byte s.dataSeg entry)) ∧
     MovesInto .cvtbw s s .word (.reg .alAw) (BitVec.ofInt 16 (s.readReg8 .alAw).toInt) ∧
     MovesInto .cvtwl s s .word (.reg .dlDw) (if s.aw.toNat < 0x8000 then 0 else 0xFFFF)) ∧
  (∀ (s : State) (w : Width) (m : MemOp) (r : Reg) (imm addr : Word),
     MovesInto (.movMemReg w m r) s s w (.mem m) (s.readReg w r) ∧
     MovesInto (.movMemImm w m imm) s s w (.mem m) (imm.setWidth _) ∧
     Completes (.movDmemAcc w addr) s fun t =>
       Stores s t [⟨w, s.dataSreg, addr, s.readReg w .alAw⟩] ∧ SameRegisters s t ∧ t.psw = s.psw ∧ SameRest s t)

/-- The moves to and from a segment register: the value; only the destination changes; and each opens the window in which
no interrupt is taken before the next instruction (40_data_transfer.md R158, R159, R161, R162; 60_exceptions.md R692). The
term of the model with PS as destination runs too; no encoding decodes to it (R160). The pointer loads: the low word of
`mem32` goes to the register and the high word to DS0 or DS1, both read with the segment in force before; nothing else
changes (R163, R164; 20_memory.md R67). That it is refused when decoded is log entry 31. -/
def Obligations.SegmentMovesAndPointerLoadsComplete : Prop :=
  (∀ (s : State) (g : SReg) (r : Reg) (m : MemOp),
     (Completes (.movSregReg16 g r) s fun t =>
       t.readSreg g = s.readReg16 r ∧ (∀ h, h ≠ g → t.readSreg h = s.readSreg h) ∧ SameMemory s t ∧
       t = { s with ps := t.ps, ss := t.ss, ds0 := t.ds0, ds1 := t.ds1, window := .sreg }) ∧
     (Completes (.movSregMem16 g m) s fun t =>
       let u := s.afterMem .word m
       t.readSreg g = s.load .word (s.memSeg m) (s.ea m) ∧ (∀ h, h ≠ g → t.readSreg h = s.readSreg h) ∧
       SameMemory u t ∧ t = { u with ps := t.ps, ss := t.ss, ds0 := t.ds0, ds1 := t.ds1, window := .sreg }) ∧
     (Completes (.movReg16Sreg r g) s fun t =>
       OperandBecomes s t .word (.reg r) (s.readSreg g) ∧ t.psw = s.psw ∧ SameRest { s with window := .sreg } t) ∧
     (Completes (.movMem16Sreg m g) s fun t =>
       OperandBecomes s t .word (.mem m) (s.readSreg g) ∧ t.psw = s.psw ∧ SameRest { s with window := .sreg } t)) ∧
  (∀ (s : State) (r : Reg) (m : MemOp),
     (Completes (.movDs0Reg16Mem32 r m) s fun t =>
       OperandBecomes (s.afterPtr m) t .word (.reg r)
         (s.readByte (byteAddr (s.memSeg m) (s.ea m) 1) ++ s.readByte (byteAddr (s.memSeg m) (s.ea m) 0)) ∧
       t.ds0 = s.readByte (byteAddr (s.memSeg m) (s.ea m) 3) ++ s.readByte (byteAddr (s.memSeg m) (s.ea m) 2) ∧
       t.psw = s.psw ∧ SameRest { s with ds0 := t.ds0 } t) ∧
     (Completes (.movDs1Reg16Mem32 r m) s fun t =>
       OperandBecomes (s.afterPtr m) t .word (.reg r)
         (s.readByte (byteAddr (s.memSeg m) (s.ea m) 1) ++ s.readByte (byteAddr (s.memSeg m) (s.ea m) 0)) ∧
       t.ds1 = s.readByte (byteAddr (s.memSeg m) (s.ea m) 3) ++ s.readByte (byteAddr (s.memSeg m) (s.ea m) 2) ∧
       t.psw = s.psw ∧ SameRest { s with ds1 := t.ds1 } t))

/-- MOV AH,PSW and MOV PSW,AH (40_data_transfer.md R165, R166): S, Z, AC, P and CY at bits 7, 6, 4, 2 and 0 of AH. Bits 5,
3 and 1 of AH are free values after the first (log entry 17) and are ignored by the second; nothing else changes. -/
def Obligations.FlagBytesMoveThroughAh : Prop :=
  ∀ s : State,
    (Completes .movAhPsw s fun t =>
      (t.readReg8 .ahSp).getLsbD 7 = s.psw.s ∧ (t.readReg8 .ahSp).getLsbD 6 = s.psw.z ∧
      (t.readReg8 .ahSp).getLsbD 4 = s.psw.ac ∧ (t.readReg8 .ahSp).getLsbD 2 = s.psw.p ∧
      (t.readReg8 .ahSp).getLsbD 0 = s.psw.cy ∧ SameRegistersBut .byte .ahSp s t ∧ SameMemory s t ∧
      t.psw = s.psw ∧ SameRest s t) ∧
    (Completes .movPswAh s fun t =>
      t = { s with psw := { s.psw with
              s := (s.readReg8 .ahSp).getLsbD 7
              z := (s.readReg8 .ahSp).getLsbD 6
              ac := (s.readReg8 .ahSp).getLsbD 4
              p := (s.readReg8 .ahSp).getLsbD 2
              cy := (s.readReg8 .ahSp).getLsbD 0 } })

/-- The exchanges (40_data_transfer.md R169, R170, R171): each operand takes the other's value, also where they are the
two halves of one word or the same register; the memory operand is read before it is written; nothing else changes. -/
def Obligations.ExchangesComplete : Prop :=
  ∀ (s : State) (w : Width) (d q : Reg) (m : MemOp),
    (Completes (.xchRegReg w d q) s fun t =>
      t.readReg w d = s.readReg w q ∧ t.readReg w q = s.readReg w d ∧
      (∀ r, r ≠ d → r ≠ q → t.readReg w r = s.readReg w r) ∧
      (w = .byte → t.sp = s.sp ∧ t.bp = s.bp ∧ t.ix = s.ix ∧ t.iy = s.iy) ∧
      SameMemory s t ∧ t.psw = s.psw ∧ SameRest s t) ∧
    (Completes (.xchMemReg w m d) s fun t =>
      t.readReg w d = s.load w (s.memSeg m) (s.ea m) ∧ SameRegistersBut w d s t ∧
      Stores (s.afterMem w m) t [⟨w, s.memSreg m, s.ea m, s.readReg w d⟩] ∧ t.psw = s.psw ∧ SameRest s t) ∧
    (Completes (.xchAwReg16 d) s fun t =>
      t.aw = s.readReg16 d ∧ t.readReg16 d = s.aw ∧ SameWordsBut [.alAw, d] s t ∧
      SameMemory s t ∧ t.psw = s.psw ∧ SameRest s t)

/-- The prefix bytes (41_block_bitfield_io.md R201, R203, R204, R206; 47_break_cpu_control.md R620, R626): each only puts
itself in force; a second one of its type stops with the refusal that names it (60_exceptions.md R695; log entry 22).
While BUSLOCK is in force, and only then, the pin BUSLOCK of a large-scale system is active, in every cycle the
instruction makes; a small-scale system has no such pin (R620, 20_memory.md R75). -/
def Obligations.PrefixesTakeForce : Prop :=
  ∀ s : State,
    (∀ p ∈ [(Instr.repc, Repeat.repc), (.repnc, .repnc), (.rep, .rep), (.repne, .repne)],
      (s.prefixes.rep = none →
        exec p.1 s = .next { s with
          prefixes := { s.prefixes with rep := some p.2, count := s.prefixes.count + 1 } }) ∧
      (s.prefixes.rep ≠ none → exec p.1 s = .refused .repPrefixMisuse)) ∧
    (∀ p ∈ [(Instr.ds1Prefix, SReg.ds1), (.psPrefix, .ps), (.ssPrefix, .ss), (.ds0Prefix, .ds0)],
      (s.prefixes.seg = none →
        exec p.1 s = .next { s with
          prefixes := { s.prefixes with seg := some p.2, count := s.prefixes.count + 1 } }) ∧
      (s.prefixes.seg ≠ none → exec p.1 s = .refused .prefixMisuse)) ∧
    (s.prefixes.buslock = false →
      exec .buslock s = .next { s with
        prefixes := { s.prefixes with buslock := true, count := s.prefixes.count + 1 } }) ∧
    (s.prefixes.buslock = true → exec .buslock s = .refused .prefixMisuse) ∧
    (s.wiring = .smallScale → s.buslockPin = none) ∧
    (s.wiring = .largeScale → s.buslockPin = some !s.prefixes.buslock) ∧
    (∀ (kind : CycleKind) (g : Option SReg) (a : Option Nat) (data : List Byte),
      ((s.busCycle kind g a data).pins s.chip s.wiring).buslock = s.buslockPin)

/-- One element of the block instructions without a repeat prefix (41_block_bitfield_io.md R205, R210 to R214, R234,
R235): the destination at DS1:IY whatever the override, the source in the segment in force at IX; IX and IY move by the
element's size, up or down by DIR; MOVBK, LDM, STM, INM and OUTM change no flag; CW is neither read nor changed. The value
INM reads is the device's (log entry 29). The flags of CMPBK and CMPM are those of log entry 32. What INM stores is the
value its read cycle carries (`State.ioRead` gives it; log entry 29). -/
def Obligations.BlockElementsComplete : Prop :=
  ∀ (s : State) (w : Width), s.prefixes.rep = none →
    let x := if s.psw.dir then s.ix - BitVec.ofNat 16 w.bytes else s.ix + BitVec.ofNat 16 w.bytes
    let y := if s.psw.dir then s.iy - BitVec.ofNat 16 w.bytes else s.iy + BitVec.ofNat 16 w.bytes
    let src := s.load w s.dataSeg s.ix
    let dst (u : State) : Val w := u.load w s.ds1 s.iy
    (Completes (.movbk w) s fun t =>
      Stores (s.afterSource w) t [⟨w, .ds1, s.iy, src⟩] ∧ t.ix = x ∧ t.iy = y ∧ SameWordsBut [.dhIx, .bhIy] s t ∧
      t.psw = s.psw ∧ SameRest s t) ∧
    (Completes (.cmpbk w) s fun t =>
      let u := s.afterSource w
      DifferenceBorrows t.psw src (dst u) false ∧ ResultFlags t.psw (src - dst u) ∧ SameControlFlags s.psw t.psw ∧
      t.ix = x ∧ t.iy = y ∧ SameWordsBut [.dhIx, .bhIy] s t ∧ SameMemory (u.afterDest w) t ∧ SameRest s t) ∧
    (Completes (.cmpm w) s fun t =>
      DifferenceBorrows t.psw (s.readReg w .alAw) (dst s) false ∧
      ResultFlags t.psw (s.readReg w .alAw - dst s) ∧ SameControlFlags s.psw t.psw ∧ t.iy = y ∧
      SameWordsBut [.bhIy] s t ∧ SameMemory (s.afterDest w) t ∧ SameRest s t) ∧
    (Completes (.ldm w) s fun t =>
      t.readReg w .alAw = src ∧ (w = .byte → t.readReg8 .ahSp = s.readReg8 .ahSp) ∧ t.ix = x ∧
      SameWordsBut [.alAw, .dhIx] s t ∧ SameMemory (s.afterSource w) t ∧ t.psw = s.psw ∧ SameRest s t) ∧
    (Completes (.stm w) s fun t =>
      Stores s t [⟨w, .ds1, s.iy, s.readReg w .alAw⟩] ∧ t.iy = y ∧ SameWordsBut [.bhIy] s t ∧
      t.psw = s.psw ∧ SameRest s t) ∧
    (Completes (.inm w) s fun t => ∃ v : Val w,
      Stores (s.recordCycles (s.ioCycles .ioRead w s.dw v)) t [⟨w, .ds1, s.iy, v⟩] ∧ t.iy = y ∧
      SameWordsBut [.bhIy] s t ∧ t.psw = s.psw ∧ SameRest s t) ∧
    (Completes (.outm w) s fun t =>
      t = { (s.afterSource w).recordCycles (s.ioCycles .ioWrite w s.dw src) with ix := x })

/-- A block instruction under a repeat prefix, one pass of the loop (41_block_bitfield_io.md R201 to R204, R206, R237):
with CW = 0 nothing happens; else the pass does what the instruction does without the prefix, CW goes down by one, and the
loop ends if the prefix's test on the flags just set says so (CMPBK and CMPM only); else the instruction stays in
progress, so that the next step makes the next pass (`StepRunsTheInstructionAtPc`). That one pass is one step, with the
instruction in `inProgress` between, is the model's choice (log entry 23). -/
def Obligations.RepeatedBlockInstructionsComplete : Prop :=
  ∀ (s : State) (w : Width) (p : Repeat), s.prefixes.rep = some p →
    ∀ i ∈ [Instr.movbk w, .cmpbk w, .cmpm w, .ldm w, .stm w, .inm w, .outm w],
      (s.cw = 0 → exec i s = .next s) ∧
      (s.cw ≠ 0 → ∃ e : State,
        exec i { s with prefixes := { s.prefixes with rep := none } } = .next e ∧
        let ends : Prop :=
          (i = .cmpbk w ∨ i = .cmpm w) ∧
            ((p = .repc ∧ e.psw.cy = false) ∨ (p = .repnc ∧ e.psw.cy = true) ∨
              (p = .rep ∧ e.psw.z = false) ∨ (p = .repne ∧ e.psw.z = true))
        (ends → exec i s = .next { e with cw := s.cw - 1, prefixes := s.prefixes }) ∧
        (¬ ends →
          exec i s = .next { e with cw := s.cw - 1, prefixes := s.prefixes, inProgress := some i }))

/-- INS (41_block_bitfield_io.md R220, R221, R222): with the bit offset `o` and the length code `l`, both below 16, bits
`o` to `o + l` of the bit string at DS1:IY take the low bits of AW, and every other bit of memory stays; the second word
is written only if the field reaches into it; the offset register takes `(o + l + 1) mod 16` and IY goes up by 2 if
`o + l + 1 ≥ 16`; the six flags are free values. That whole words are rewritten, the bytes outside the field with their
old values, is the model's choice (R220 leaves it open; log entry 49). Where the upper four bits of a register operand are
not 0 the spec promises nothing, and the nibble used is the model's free value; of an immediate byte the low four bits
count (30_encoding.md R124; log entry 9). That no segment override moves the field from DS1 is log entry 18. -/
def Obligations.InsertBitFieldCompletes : Prop :=
  ∀ (s : State) (d q : Reg) (imm : Byte),
    ∀ p ∈ [(Instr.insReg8Reg8 d q, s.fieldOperand 1 (s.readReg8 q)), (.insReg8Imm4 d imm, imm.extractLsb' 0 4)],
      let o := (s.fieldOperand 0 (s.readReg8 d)).toNat
      let l := p.2.toNat
      let low : Word := s.load .word s.ds1 s.iy
      let high : Word := s.load .word s.ds1 (s.iy + 2)
      ((s.readReg8 d).toNat < 16 → o = (s.readReg8 d).toNat) ∧
      ((s.readReg8 q).toNat < 16 → (s.fieldOperand 1 (s.readReg8 q)).toNat = (s.readReg8 q).toNat) ∧
      Completes p.1 s fun t => ∃ low' high' : Word,
        (∀ k, k < 16 → low'.getLsbD k = if o ≤ k ∧ k ≤ o + l then s.aw.getLsbD (k - o) else low.getLsbD k) ∧
        (∀ k, k < 16 → high'.getLsbD k = if k + 16 ≤ o + l then s.aw.getLsbD (k + 16 - o) else high.getLsbD k) ∧
        Stores (s.recordCycles (s.readCycles .word .ds1 s.iy ++
            if 16 ≤ o + l then s.readCycles .word .ds1 (s.iy + 2) else [])) t
          (⟨.word, .ds1, s.iy, low'⟩ :: if 16 ≤ o + l then [⟨.word, .ds1, s.iy + 2, high'⟩] else []) ∧
        (t.readReg8 d).toNat = (o + l + 1) % 16 ∧ t.iy = (if 16 ≤ o + l + 1 then s.iy + 2 else s.iy) ∧
        (∀ r, r ≠ d → t.readReg8 r = s.readReg8 r) ∧ t.sp = s.sp ∧ t.bp = s.bp ∧ t.ix = s.ix ∧
        t.psw.status = s.drawnStatus ∧ SameControlFlags s.psw t.psw ∧ SameRest s t

/-- EXT (41_block_bitfield_io.md R220, R223, R224): AW takes bits `o` to `o + l` of the bit string in the segment in force
at IX, with zeros above; the offset register takes `(o + l + 1) mod 16` and IX goes up by 2 if `o + l + 1 ≥ 16`; the six
flags are free values; memory does not change. Where the offset register is AL or AH the order of the two writes is open
(D28; log entry 10); where an upper nibble is not 0 the nibble used is a free value; of an immediate byte the low four
bits count (30_encoding.md R124; log entry 9). That a segment override moves the field is DEDUCED: R223 does not state it
(log entry 18). -/
def Obligations.ExtractBitFieldCompletes : Prop :=
  ∀ (s : State) (d q : Reg) (imm : Byte),
    ∀ p ∈ [(Instr.extReg8Reg8 d q, s.fieldOperand 1 (s.readReg8 q)), (.extReg8Imm4 d imm, imm.extractLsb' 0 4)],
      let o := (s.fieldOperand 0 (s.readReg8 d)).toNat
      let l := p.2.toNat
      let low : Word := s.load .word s.dataSeg s.ix
      let high : Word := s.load .word s.dataSeg (s.ix + 2)
      Completes p.1 s fun t => ∃ field : Word,
        (∀ k, k < 16 → field.getLsbD k =
          if k ≤ l then (if o + k < 16 then low.getLsbD (o + k) else high.getLsbD (o + k - 16)) else false) ∧
        (d ≠ .alAw → d ≠ .ahSp →
          t.aw = field ∧ (t.readReg8 d).toNat = (o + l + 1) % 16 ∧
          (∀ r, r ≠ d → r ≠ .alAw → r ≠ .ahSp → t.readReg8 r = s.readReg8 r)) ∧
        (d = .alAw →
          t.aw = field ∨ t.aw = field.extractLsb' 8 8 ++ BitVec.ofNat 8 ((o + l + 1) % 16)) ∧
        (d = .ahSp →
          t.aw = field ∨ t.aw = BitVec.ofNat 8 ((o + l + 1) % 16) ++ field.extractLsb' 0 8) ∧
        (d = .alAw ∨ d = .ahSp → t.bw = s.bw ∧ t.cw = s.cw ∧ t.dw = s.dw) ∧
        t.ix = (if 16 ≤ o + l + 1 then s.ix + 2 else s.ix) ∧ t.sp = s.sp ∧ t.bp = s.bp ∧ t.iy = s.iy ∧
        t.psw.status = s.drawnStatus ∧ SameControlFlags s.psw t.psw ∧
        SameMemory (s.recordCycles (s.readCycles .word s.dataSreg s.ix ++
          if 16 ≤ o + l then s.readCycles .word s.dataSreg (s.ix + 2) else [])) t ∧ SameRest s t

/-- IN and OUT (41_block_bitfield_io.md R230 to R233, R236): IN puts what the port answers into AL or AW and OUT sends AL
or AW to the port; the bus sees the cycles of the access and no other, one for a byte or for a word at an even port of the
μPD70116, else two, the low byte first (20_memory.md R80, R81); nothing else changes, no flag and no byte of memory. What
the port answers is free (log entry 29); what a cycle shows, and that it is locked under BUSLOCK, is as log entries 28 and
39 say. -/
def Obligations.InputAndOutputComplete : Prop :=
  ∀ (s : State) (w : Width) (imm : Byte),
    (∀ p ∈ [(Instr.inAccImm8 w imm, imm.setWidth 16), (.inAccDw w, s.dw)],
      Completes p.1 s fun t =>
        SameMemory (s.recordCycles (s.ioCycles .ioRead w p.2 (t.readReg w .alAw))) t ∧
        SameRegistersBut w .alAw s t ∧ t.psw = s.psw ∧ SameRest s t) ∧
    (∀ p ∈ [(Instr.outImm8Acc w imm, imm.setWidth 16), (.outDwAcc w, s.dw)],
      exec p.1 s = .next (s.recordCycles (s.ioCycles .ioWrite w p.2 (s.readReg w .alAw)))) ∧
    (∀ (kind : CycleKind) (port : Word) (v : Val w),
      let cycle (p : Word) (data : List Byte) : BusCycle :=
        ⟨kind, !s.psw.md, s.psw.ie, s.prefixes.buslock, none, some p.toNat, data⟩
      s.ioCycles kind w port v =
        if w = .byte then [cycle port [v.setWidth 8]]
        else if s.chip = .uPD70116 ∧ port.toNat % 2 = 0 then [cycle port [v.extractLsb' 0 8, v.extractLsb' 8 8]]
        else [cycle port [v.extractLsb' 0 8], cycle (port + 1) [v.extractLsb' 8 8]])

/-- ADD, ADDC, SUB and SUBC into a register (42_add_sub_bcd.md R250, R251, R253, R254, R256, R257, R259, R260, R262, R263,
R265, R266, R268, R269, R271, R272, R274): the sum or difference modulo 2^n, the six flags of 10_state.md R36 to R41 (log
entry 32), and nothing else. The forms `addRegRegD0`, `addcRegRegD0`, `subRegRegD0` and `subcRegRegD0` are unlisted mod =
11 forms, PRESUMED to act as the listed ones (30_encoding.md R123, D33; log entry 37). -/
def Obligations.AdditionAndSubtractionIntoRegistersComplete : Prop :=
  (∀ (s : State) (w : Width) (z : ImmSize) (d q : Reg) (m : MemOp) (imm : Word),
     AddsInto (.addRegReg w d q) s s w (.reg d) (s.readReg w q) false ∧
     AddsInto (.addRegRegD0 w d q) s s w (.reg d) (s.readReg w q) false ∧
     AddsInto (.addRegMem w d m) s (s.afterMem w m) w (.reg d) (s.load w (s.memSeg m) (s.ea m)) false ∧
     AddsInto (.addRegImm z d imm) s s z.width (.reg d) (imm.setWidth _) false ∧
     AddsInto (.addAccImm w imm) s s w (.reg .alAw) (imm.setWidth _) false ∧
     AddsInto (.addcRegReg w d q) s s w (.reg d) (s.readReg w q) s.psw.cy ∧
     AddsInto (.addcRegRegD0 w d q) s s w (.reg d) (s.readReg w q) s.psw.cy ∧
     AddsInto (.addcRegMem w d m) s (s.afterMem w m) w (.reg d) (s.load w (s.memSeg m) (s.ea m)) s.psw.cy ∧
     AddsInto (.addcRegImm z d imm) s s z.width (.reg d) (imm.setWidth _) s.psw.cy ∧
     AddsInto (.addcAccImm w imm) s s w (.reg .alAw) (imm.setWidth _) s.psw.cy) ∧
  (∀ (s : State) (w : Width) (z : ImmSize) (d q : Reg) (m : MemOp) (imm : Word),
     SubtractsFrom (.subRegReg w d q) s s w (.reg d) (s.readReg w q) false ∧
     SubtractsFrom (.subRegRegD0 w d q) s s w (.reg d) (s.readReg w q) false ∧
     SubtractsFrom (.subRegMem w d m) s (s.afterMem w m) w (.reg d) (s.load w (s.memSeg m) (s.ea m)) false ∧
     SubtractsFrom (.subRegImm z d imm) s s z.width (.reg d) (imm.setWidth _) false ∧
     SubtractsFrom (.subAccImm w imm) s s w (.reg .alAw) (imm.setWidth _) false ∧
     SubtractsFrom (.subcRegReg w d q) s s w (.reg d) (s.readReg w q) s.psw.cy ∧
     SubtractsFrom (.subcRegRegD0 w d q) s s w (.reg d) (s.readReg w q) s.psw.cy ∧
     SubtractsFrom (.subcRegMem w d m) s (s.afterMem w m) w (.reg d) (s.load w (s.memSeg m) (s.ea m)) s.psw.cy ∧
     SubtractsFrom (.subcRegImm z d imm) s s z.width (.reg d) (imm.setWidth _) s.psw.cy ∧
     SubtractsFrom (.subcAccImm w imm) s s w (.reg .alAw) (imm.setWidth _) s.psw.cy)

/-- ADD, ADDC, SUB and SUBC on a memory operand (42_add_sub_bcd.md R252, R255, R258, R261, R264, R267, R270, R273): the
result is stored at the operand's address; every other byte of memory and every register stays. -/
def Obligations.AdditionAndSubtractionInMemoryComplete : Prop :=
  ∀ (s : State) (w : Width) (z : ImmSize) (m : MemOp) (r : Reg) (imm : Word),
    AddsInto (.addMemReg w m r) s (s.afterMem w m) w (.mem m) (s.readReg w r) false ∧
    AddsInto (.addMemImm z m imm) s (s.afterMem z.width m) z.width (.mem m) (imm.setWidth _) false ∧
    AddsInto (.addcMemReg w m r) s (s.afterMem w m) w (.mem m) (s.readReg w r) s.psw.cy ∧
    AddsInto (.addcMemImm z m imm) s (s.afterMem z.width m) z.width (.mem m) (imm.setWidth _) s.psw.cy ∧
    SubtractsFrom (.subMemReg w m r) s (s.afterMem w m) w (.mem m) (s.readReg w r) false ∧
    SubtractsFrom (.subMemImm z m imm) s (s.afterMem z.width m) z.width (.mem m) (imm.setWidth _) false ∧
    SubtractsFrom (.subcMemReg w m r) s (s.afterMem w m) w (.mem m) (s.readReg w r) s.psw.cy ∧
    SubtractsFrom (.subcMemImm z m imm) s (s.afterMem z.width m) z.width (.mem m) (imm.setWidth _) s.psw.cy

/-- INC and DEC of a register or a memory operand (42_add_sub_bcd.md R290 to R296; 30_encoding.md R123): plus or minus 1
modulo 2^n with V, S, Z, AC and P as for the sum or difference, and CY as before; nothing else changes. The forms
`incReg16Two` and `decReg16Two` are unlisted mod = 11 forms (R123, D33; log entry 37); the flags are those of log entry
32. -/
def Obligations.IncrementAndDecrementComplete : Prop :=
  ∀ (s : State) (w : Width) (r : Reg) (m : MemOp),
    (∀ p ∈ [(Instr.incReg8 r, Width.byte, Operand.reg r), (.incMem w m, w, .mem m), (.incReg16 r, .word, .reg r),
        (.incReg16Two r, .word, .reg r)],
      Completes p.1 s fun t =>
        OperandBecomes (s.afterOperand p.2.1 p.2.2) t p.2.1 p.2.2 (s.readOperand p.2.1 p.2.2 + 1) ∧
        ResultFlags t.psw (s.readOperand p.2.1 p.2.2 + 1) ∧
        (t.psw.ac = true ↔ (s.readOperand p.2.1 p.2.2).toNat % 16 = 15) ∧
        (t.psw.v = true ↔ Overflows p.2.1.bits ((s.readOperand p.2.1 p.2.2).toInt + 1)) ∧
        t.psw.cy = s.psw.cy ∧ SameControlFlags s.psw t.psw ∧ SameRest s t) ∧
    (∀ p ∈ [(Instr.decReg8 r, Width.byte, Operand.reg r), (.decMem w m, w, .mem m), (.decReg16 r, .word, .reg r),
        (.decReg16Two r, .word, .reg r)],
      Completes p.1 s fun t =>
        OperandBecomes (s.afterOperand p.2.1 p.2.2) t p.2.1 p.2.2 (s.readOperand p.2.1 p.2.2 - 1) ∧
        ResultFlags t.psw (s.readOperand p.2.1 p.2.2 - 1) ∧
        (t.psw.ac = true ↔ (s.readOperand p.2.1 p.2.2).toNat % 16 = 0) ∧
        (t.psw.v = true ↔ Overflows p.2.1.bits ((s.readOperand p.2.1 p.2.2).toInt - 1)) ∧
        t.psw.cy = s.psw.cy ∧ SameControlFlags s.psw t.psw ∧ SameRest s t)

/-- CMP in all its forms (44_compare_logic_bit.md R381 to R386; 30_encoding.md R123): the six flags of the difference; no
register and no byte of memory changes. The form `cmpRegRegD0` is an unlisted mod = 11 form (R123, D33; log entry 37); the
flags are those of log entry 32. -/
def Obligations.ComparisonsComplete : Prop :=
  ∀ (s : State) (w : Width) (z : ImmSize) (d q : Reg) (m : MemOp) (imm : Word),
    Compares (.cmpRegReg w d q) s s w (s.readReg w d) (s.readReg w q) ∧
    Compares (.cmpRegRegD0 w d q) s s w (s.readReg w d) (s.readReg w q) ∧
    Compares (.cmpMemReg w m q) s (s.afterMem w m) w (s.load w (s.memSeg m) (s.ea m)) (s.readReg w q) ∧
    Compares (.cmpRegMem w d m) s (s.afterMem w m) w (s.readReg w d) (s.load w (s.memSeg m) (s.ea m)) ∧
    Compares (.cmpRegImm z d imm) s s z.width (s.readReg z.width d) (imm.setWidth _) ∧
    Compares (.cmpMemImm z m imm) s (s.afterMem z.width m) z.width
      (s.load z.width (s.memSeg m) (s.ea m)) (imm.setWidth _) ∧
    Compares (.cmpAccImm w imm) s s w (s.readReg w .alAw) (imm.setWidth _)

/-- After a comparison of two word or byte registers the conditional branches decide the order of the operands
(46_control_transfer.md R568, R572 to R577, R582 to R585): BC, BNC, BE, BNE, BNH, BH as unsigned numbers, BLT, BGE, BLE,
BGT as signed ones. The flags of the comparison are those of log entry 32. -/
def Obligations.BranchesAfterCompareDecideOrder : Prop :=
  ∀ (s t : State) (w : Width) (d q : Reg) (disp : Byte), exec (.cmpRegReg w d q) s = .next t →
    let a := s.readReg w d
    let b := s.readReg w q
    let target := t.pc + BitVec.ofInt 16 disp.toInt
    BranchesTo (.bc disp) t (if a.toNat < b.toNat then some target else none) ∧
    BranchesTo (.bnc disp) t (if b.toNat ≤ a.toNat then some target else none) ∧
    BranchesTo (.be disp) t (if a = b then some target else none) ∧
    BranchesTo (.bne disp) t (if a = b then none else some target) ∧
    BranchesTo (.bnh disp) t (if a.toNat ≤ b.toNat then some target else none) ∧
    BranchesTo (.bh disp) t (if b.toNat < a.toNat then some target else none) ∧
    BranchesTo (.blt disp) t (if a.toInt < b.toInt then some target else none) ∧
    BranchesTo (.bge disp) t (if b.toInt ≤ a.toInt then some target else none) ∧
    BranchesTo (.ble disp) t (if a.toInt ≤ b.toInt then some target else none) ∧
    BranchesTo (.bgt disp) t (if b.toInt < a.toInt then some target else none)

/-- NOT and NEG (44_compare_logic_bit.md R387 to R390): the complement without any flag; `0 - x` with the flags of that
difference; nothing else changes. The flags are those of log entry 32. -/
def Obligations.ComplementAndNegateComplete : Prop :=
  ∀ (s : State) (w : Width) (r : Reg) (m : MemOp),
    MovesInto (.notReg w r) s s w (.reg r) (~~~ s.readReg w r) ∧
    MovesInto (.notMem w m) s (s.afterMem w m) w (.mem m) (~~~ s.load w (s.memSeg m) (s.ea m)) ∧
    ∀ p ∈ [(Instr.negReg w r, Operand.reg r), (.negMem w m, .mem m)],
      Completes p.1 s fun t =>
        OperandBecomes (s.afterOperand w p.2) t w p.2 (- s.readOperand w p.2) ∧
        DifferenceBorrows t.psw (0 : Val w) (s.readOperand w p.2) false ∧
        ResultFlags t.psw (- s.readOperand w p.2) ∧ SameControlFlags s.psw t.psw ∧ SameRest s t

/-- AND, OR, XOR and TEST on registers and memory (44_compare_logic_bit.md R380, R391 to R413): the result is stored, or
for TEST not; V and CY are cleared, S, Z and P are those of the result, AC is a free value; nothing else changes. The
forms `andRegRegD0`, `orRegRegD0` and `xorRegRegD0` are unlisted mod = 11 forms (30_encoding.md R123, D33; log entry 37);
S, Z and P are those of log entry 32. -/
def Obligations.LogicAndTestComplete : Prop :=
  (∀ (s : State) (w : Width) (d q : Reg) (m : MemOp) (imm : Word),
     LogicInto (.andRegReg w d q) s s w (.reg d) (s.readReg w d &&& s.readReg w q) ∧
     LogicInto (.andRegRegD0 w d q) s s w (.reg d) (s.readReg w d &&& s.readReg w q) ∧
     LogicInto (.andRegMem w d m) s (s.afterMem w m) w (.reg d) (s.readReg w d &&& s.load w (s.memSeg m) (s.ea m)) ∧
     LogicInto (.andRegImm w d imm) s s w (.reg d) (s.readReg w d &&& imm.setWidth _) ∧
     LogicInto (.andAccImm w imm) s s w (.reg .alAw) (s.readReg w .alAw &&& imm.setWidth _) ∧
     LogicInto (.orRegReg w d q) s s w (.reg d) (s.readReg w d ||| s.readReg w q) ∧
     LogicInto (.orRegRegD0 w d q) s s w (.reg d) (s.readReg w d ||| s.readReg w q) ∧
     LogicInto (.orRegMem w d m) s (s.afterMem w m) w (.reg d) (s.readReg w d ||| s.load w (s.memSeg m) (s.ea m)) ∧
     LogicInto (.orRegImm w d imm) s s w (.reg d) (s.readReg w d ||| imm.setWidth _) ∧
     LogicInto (.orAccImm w imm) s s w (.reg .alAw) (s.readReg w .alAw ||| imm.setWidth _) ∧
     LogicInto (.xorRegReg w d q) s s w (.reg d) (s.readReg w d ^^^ s.readReg w q) ∧
     LogicInto (.xorRegRegD0 w d q) s s w (.reg d) (s.readReg w d ^^^ s.readReg w q) ∧
     LogicInto (.xorRegMem w d m) s (s.afterMem w m) w (.reg d) (s.readReg w d ^^^ s.load w (s.memSeg m) (s.ea m)) ∧
     LogicInto (.xorRegImm w d imm) s s w (.reg d) (s.readReg w d ^^^ imm.setWidth _) ∧
     LogicInto (.xorAccImm w imm) s s w (.reg .alAw) (s.readReg w .alAw ^^^ imm.setWidth _)) ∧
  (∀ (s : State) (w : Width) (d q : Reg) (m : MemOp) (imm : Word),
     let x := s.load w (s.memSeg m) (s.ea m)
     LogicInto (.andMemReg w m q) s (s.afterMem w m) w (.mem m) (x &&& s.readReg w q) ∧
     LogicInto (.andMemImm w m imm) s (s.afterMem w m) w (.mem m) (x &&& imm.setWidth _) ∧
     LogicInto (.orMemReg w m q) s (s.afterMem w m) w (.mem m) (x ||| s.readReg w q) ∧
     LogicInto (.orMemImm w m imm) s (s.afterMem w m) w (.mem m) (x ||| imm.setWidth _) ∧
     LogicInto (.xorMemReg w m q) s (s.afterMem w m) w (.mem m) (x ^^^ s.readReg w q) ∧
     LogicInto (.xorMemImm w m imm) s (s.afterMem w m) w (.mem m) (x ^^^ imm.setWidth _) ∧
     ∀ p ∈ [(Instr.testRegReg w d q, s, s.readReg w d &&& s.readReg w q),
         (.testMemReg w m q, s.afterMem w m, x &&& s.readReg w q),
         (.testRegImm w d imm, s, s.readReg w d &&& imm.setWidth _),
         (.testMemImm w m imm, s.afterMem w m, x &&& imm.setWidth _),
         (.testAccImm w imm, s, s.readReg w .alAw &&& imm.setWidth _)],
       Completes p.1 s fun t =>
         LogicFlags s t p.2.2 ∧ SameRegisters s t ∧ SameMemory p.2.1 t ∧ SameRest s t)

/-- The bit instructions on registers and memory (44_compare_logic_bit.md R420 to R452): the bit number is the low three
bits of CL or of the immediate for a byte and the low four for a word. TEST1 sets Z to the complement of the bit, clears V
and CY and leaves S, AC and P free, storing nothing; NOT1, CLR1 and SET1 change that one bit and no flag. -/
def Obligations.BitInstructionsComplete : Prop :=
  ∀ (s : State) (r : Reg) (m : MemOp) (imm : Byte),
    (∀ p ∈ [(Instr.test1Reg8Cl r, Width.byte, Operand.reg r, s.readReg8 .clCw),
        (.test1Mem8Cl m, .byte, .mem m, s.readReg8 .clCw), (.test1Reg16Cl r, .word, .reg r, s.readReg8 .clCw),
        (.test1Mem16Cl m, .word, .mem m, s.readReg8 .clCw), (.test1Reg8Imm3 r imm, .byte, .reg r, imm),
        (.test1Mem8Imm3 m imm, .byte, .mem m, imm), (.test1Reg16Imm4 r imm, .word, .reg r, imm),
        (.test1Mem16Imm4 m imm, .word, .mem m, imm)],
      Completes p.1 s fun t =>
        t.psw.z = !(s.readOperand p.2.1 p.2.2.1).getLsbD (p.2.2.2.toNat % p.2.1.bits) ∧
        t.psw.v = false ∧ t.psw.cy = false ∧ t.psw.s = Config.freeFlag s.draws .s ∧
        t.psw.ac = Config.freeFlag s.draws .ac ∧ t.psw.p = Config.freeFlag s.draws .p ∧
        SameControlFlags s.psw t.psw ∧ SameRegisters s t ∧ SameMemory (s.afterOperand p.2.1 p.2.2.1) t ∧ SameRest s t) ∧
    (∀ p ∈ [(Instr.not1Reg8Cl r, Width.byte, Operand.reg r, s.readReg8 .clCw),
        (.not1Mem8Cl m, .byte, .mem m, s.readReg8 .clCw), (.not1Reg16Cl r, .word, .reg r, s.readReg8 .clCw),
        (.not1Mem16Cl m, .word, .mem m, s.readReg8 .clCw), (.not1Reg8Imm3 r imm, .byte, .reg r, imm),
        (.not1Mem8Imm3 m imm, .byte, .mem m, imm), (.not1Reg16Imm4 r imm, .word, .reg r, imm),
        (.not1Mem16Imm4 m imm, .word, .mem m, imm)],
      ∃ v : Val p.2.1, MovesInto p.1 s (s.afterOperand p.2.1 p.2.2.1) p.2.1 p.2.2.1 v ∧
        ∀ k, k < p.2.1.bits → v.getLsbD k =
          if k = p.2.2.2.toNat % p.2.1.bits then !(s.readOperand p.2.1 p.2.2.1).getLsbD k
          else (s.readOperand p.2.1 p.2.2.1).getLsbD k) ∧
    (∀ p ∈ [(Instr.clr1Reg8Cl r, Width.byte, Operand.reg r, s.readReg8 .clCw),
        (.clr1Mem8Cl m, .byte, .mem m, s.readReg8 .clCw), (.clr1Reg16Cl r, .word, .reg r, s.readReg8 .clCw),
        (.clr1Mem16Cl m, .word, .mem m, s.readReg8 .clCw), (.clr1Reg8Imm3 r imm, .byte, .reg r, imm),
        (.clr1Mem8Imm3 m imm, .byte, .mem m, imm), (.clr1Reg16Imm4 r imm, .word, .reg r, imm),
        (.clr1Mem16Imm4 m imm, .word, .mem m, imm)],
      ∃ v : Val p.2.1, MovesInto p.1 s (s.afterOperand p.2.1 p.2.2.1) p.2.1 p.2.2.1 v ∧
        ∀ k, k < p.2.1.bits → v.getLsbD k =
          if k = p.2.2.2.toNat % p.2.1.bits then false else (s.readOperand p.2.1 p.2.2.1).getLsbD k) ∧
    (∀ p ∈ [(Instr.set1Reg8Cl r, Width.byte, Operand.reg r, s.readReg8 .clCw),
        (.set1Mem8Cl m, .byte, .mem m, s.readReg8 .clCw), (.set1Reg16Cl r, .word, .reg r, s.readReg8 .clCw),
        (.set1Mem16Cl m, .word, .mem m, s.readReg8 .clCw), (.set1Reg8Imm3 r imm, .byte, .reg r, imm),
        (.set1Mem8Imm3 m imm, .byte, .mem m, imm), (.set1Reg16Imm4 r imm, .word, .reg r, imm),
        (.set1Mem16Imm4 m imm, .word, .mem m, imm)],
      ∃ v : Val p.2.1, MovesInto p.1 s (s.afterOperand p.2.1 p.2.2.1) p.2.1 p.2.2.1 v ∧
        ∀ k, k < p.2.1.bits → v.getLsbD k =
          if k = p.2.2.2.toNat % p.2.1.bits then true else (s.readOperand p.2.1 p.2.2.1).getLsbD k)

/-- NOT1 CY, CLR1 CY, SET1 CY, CLR1 DIR, SET1 DIR (44_compare_logic_bit.md R460 to R464): CY or DIR as named. The CY forms
leave the five other status flags free (D30; log entry 44); the DIR forms change no other flag; nothing else changes. -/
def Obligations.CarryAndDirectionInstructionsComplete : Prop :=
  ∀ s : State,
    (∀ p ∈ [(Instr.not1Cy, !s.psw.cy), (.clr1Cy, false), (.set1Cy, true)],
      exec p.1 s = .next { s with psw := { s.psw with
        cy := p.2
        v := Config.freeFlag s.draws .v
        s := Config.freeFlag s.draws .s
        z := Config.freeFlag s.draws .z
        ac := Config.freeFlag s.draws .ac
        p := Config.freeFlag s.draws .p } }) ∧
    exec .clr1Dir s = .next { s with psw := { s.psw with dir := false } } ∧
    exec .set1Dir s = .next { s with psw := { s.psw with dir := true } }

/-- The shifts and rotates by 1 (45_shift_rotate.md R470, R471, R477, R483, R489, R495, R501, R507): the value and CY of
one step; V says whether the most significant bit changed; a shift sets S, Z and P by the result and leaves AC free; a
rotate leaves S, Z, AC and P; nothing else changes. S, Z and P are those of log entry 32. -/
def Obligations.ShiftsByOneComplete : Prop :=
  ∀ (s : State) (w : Width) (r : Reg) (m : MemOp),
    (∀ p ∈ [(Operand.reg r, Instr.shlReg1 w r, Instr.shrReg1 w r, Instr.shraReg1 w r),
        (.mem m, .shlMem1 w m, .shrMem1 w m, .shraMem1 w m)],
      let x := s.readOperand w p.1
      ∀ c ∈ [(p.2.1, BitVec.ofNat w.bits (2 * x.toNat), x.msb),
          (p.2.2.1, BitVec.ofNat w.bits (x.toNat / 2), x.getLsbD 0),
          (p.2.2.2, BitVec.ofInt w.bits (x.toInt / 2), x.getLsbD 0)],
        Completes c.1 s fun t =>
          OperandBecomes (s.afterOperand w p.1) t w p.1 c.2.1 ∧ t.psw.cy = c.2.2 ∧ t.psw.v = (c.2.1.msb != x.msb) ∧
          ResultFlags t.psw c.2.1 ∧ t.psw.ac = Config.freeFlag s.draws .ac ∧
          SameControlFlags s.psw t.psw ∧ SameRest s t) ∧
    (∀ p ∈ [(Operand.reg r, Instr.rolReg1 w r, Instr.rorReg1 w r, Instr.rolcReg1 w r, Instr.rorcReg1 w r),
        (.mem m, .rolMem1 w m, .rorMem1 w m, .rolcMem1 w m, .rorcMem1 w m)],
      let x := s.readOperand w p.1
      ∀ c ∈ [(p.2.1, x.rotateLeft 1, x.msb), (p.2.2.1, x.rotateRight 1, x.getLsbD 0),
          (p.2.2.2.1, BitVec.ofNat w.bits (2 * x.toNat + s.psw.cy.toNat), x.msb),
          (p.2.2.2.2, BitVec.ofNat w.bits (x.toNat / 2 + s.psw.cy.toNat * 2 ^ (w.bits - 1)), x.getLsbD 0)],
        Completes c.1 s fun t =>
          OperandBecomes (s.afterOperand w p.1) t w p.1 c.2.1 ∧
          t.psw = { s.psw with cy := c.2.2, v := c.2.1.msb != x.msb } ∧ SameRest s t)

/-- The shifts by the count in CL or in a byte (45_shift_rotate.md R470, R473 to R476, R479 to R482, R485 to R488), for
every count from 0 to 255 (D31; log entry 36): SHL gives `x * 2^c mod 2^n`, SHR `x div 2^c`, SHRA the signed floor of
`x / 2^c`; CY is the last bit shifted out, S, Z and P are of the result, AC and V are free; with count 0 the value and CY
stay and the other five flags are free; nothing else changes. S, Z and P are those of log entry 32. -/
def Obligations.ShiftsByCountComplete : Prop :=
  ∀ (s : State) (w : Width) (r : Reg) (m : MemOp) (imm : Byte),
    ∀ p ∈ [(Operand.reg r, s.readReg8 .clCw, Instr.shlRegCl w r, Instr.shrRegCl w r, Instr.shraRegCl w r),
        (.mem m, s.readReg8 .clCw, .shlMemCl w m, .shrMemCl w m, .shraMemCl w m),
        (.reg r, imm, .shlRegImm8 w r imm, .shrRegImm8 w r imm, .shraRegImm8 w r imm),
        (.mem m, imm, .shlMemImm8 w m imm, .shrMemImm8 w m imm, .shraMemImm8 w m imm)],
      let x := s.readOperand w p.1
      let k := p.2.1.toNat
      ∀ c ∈ [(p.2.2.1, BitVec.ofNat w.bits (x.toNat * 2 ^ k), x.toNat * 2 ^ k / 2 ^ w.bits % 2 = 1),
          (p.2.2.2.1, BitVec.ofNat w.bits (x.toNat / 2 ^ k), x.toNat / 2 ^ (k - 1) % 2 = 1),
          (p.2.2.2.2, BitVec.ofInt w.bits (x.toInt / 2 ^ k), x.toInt / 2 ^ (k - 1) % 2 = 1)],
        Completes c.1 s fun t =>
          OperandBecomes (s.afterOperand w p.1) t w p.1 c.2.1 ∧ t.psw.v = Config.freeFlag s.draws .v ∧
          t.psw.ac = Config.freeFlag s.draws .ac ∧
          (k = 0 → c.2.1 = x ∧ t.psw.cy = s.psw.cy ∧ t.psw.s = Config.freeFlag s.draws .s ∧
            t.psw.z = Config.freeFlag s.draws .z ∧ t.psw.p = Config.freeFlag s.draws .p) ∧
          (k ≠ 0 → (t.psw.cy = true ↔ c.2.2) ∧ ResultFlags t.psw c.2.1) ∧
          SameControlFlags s.psw t.psw ∧ SameRest s t

/-- The rotates by the count in CL or in a byte (45_shift_rotate.md R470, R491 to R494, R497 to R500, R503 to R506, R509
to R512), for every count (D31; log entry 36): ROL and ROR rotate the operand and CY is the bit that last went round; ROLC
and RORC rotate the operand with CY above it, one bit wider; V is free; S, Z, AC and P stay; nothing else changes. -/
def Obligations.RotatesByCountComplete : Prop :=
  ∀ (s : State) (w : Width) (r : Reg) (m : MemOp) (imm : Byte),
    ∀ p ∈ [(Operand.reg r, s.readReg8 .clCw, Instr.rolRegCl w r, Instr.rorRegCl w r, Instr.rolcRegCl w r,
          Instr.rorcRegCl w r),
        (.mem m, s.readReg8 .clCw, .rolMemCl w m, .rorMemCl w m, .rolcMemCl w m, .rorcMemCl w m),
        (.reg r, imm, .rolRegImm8 w r imm, .rorRegImm8 w r imm, .rolcRegImm8 w r imm, .rorcRegImm8 w r imm),
        (.mem m, imm, .rolMemImm8 w m imm, .rorMemImm8 w m imm, .rolcMemImm8 w m imm, .rorcMemImm8 w m imm)],
      let x := s.readOperand w p.1
      let k := p.2.1.toNat
      let frame (t : State) : Prop :=
        t.psw = { s.psw with cy := t.psw.cy, v := Config.freeFlag s.draws .v } ∧ SameRest s t
      (Completes p.2.2.1 s fun t =>
        OperandBecomes (s.afterOperand w p.1) t w p.1 (x.rotateLeft k) ∧
        t.psw.cy = (if k = 0 then s.psw.cy else (x.rotateLeft k).getLsbD 0) ∧ frame t) ∧
      (Completes p.2.2.2.1 s fun t =>
        OperandBecomes (s.afterOperand w p.1) t w p.1 (x.rotateRight k) ∧
        t.psw.cy = (if k = 0 then s.psw.cy else (x.rotateRight k).msb) ∧ frame t) ∧
      (Completes p.2.2.2.2.1 s fun t => ∃ v : Val w,
        BitVec.ofBool t.psw.cy ++ v = (BitVec.ofBool s.psw.cy ++ x).rotateLeft k ∧
        OperandBecomes (s.afterOperand w p.1) t w p.1 v ∧ frame t) ∧
      (Completes p.2.2.2.2.2 s fun t => ∃ v : Val w,
        BitVec.ofBool t.psw.cy ++ v = (BitVec.ofBool s.psw.cy ++ x).rotateRight k ∧
        OperandBecomes (s.afterOperand w p.1) t w p.1 v ∧ frame t)

/-- MULU and MUL with the accumulator (43_mul_div_adjust_convert.md R321 to R328): the exact product, unsigned or signed,
in AW or in DW and AW; CY and V say that it does not fit the lower half. MUL with an immediate (R329 to R332): the
destination takes the low 16 bits of the signed product; CY and V say that the product is outside the signed range of a
word. The other four flags are free; nothing else changes. -/
def Obligations.ProductsComplete : Prop :=
  (∀ (s : State) (r : Reg) (m : MemOp),
     (∀ p ∈ [(Instr.muluReg8 r, s.readReg8 r, s),
         (.muluMem8 m, s.load .byte (s.memSeg m) (s.ea m), s.afterMem .byte m)],
       Completes p.1 s fun t =>
         t.aw.toNat = (s.readReg8 .alAw).toNat * p.2.1.toNat ∧
         (t.psw.cy = true ↔ t.readReg8 .ahSp ≠ 0) ∧ t.psw.v = t.psw.cy ∧
         t.psw = { s.psw.withStatus s.drawnStatus with v := t.psw.v, cy := t.psw.cy } ∧
         SameWordsBut [.alAw] s t ∧ SameMemory p.2.2 t ∧ SameRest s t) ∧
     (∀ p ∈ [(Instr.muluReg16 r, s.readReg16 r, s),
         (.muluMem16 m, s.load .word (s.memSeg m) (s.ea m), s.afterMem .word m)],
       Completes p.1 s fun t =>
         (t.dw ++ t.aw).toNat = s.aw.toNat * p.2.1.toNat ∧
         (t.psw.cy = true ↔ t.dw ≠ 0) ∧ t.psw.v = t.psw.cy ∧
         t.psw = { s.psw.withStatus s.drawnStatus with v := t.psw.v, cy := t.psw.cy } ∧
         SameWordsBut [.alAw, .dlDw] s t ∧ SameMemory p.2.2 t ∧ SameRest s t) ∧
     (∀ p ∈ [(Instr.mulReg8 r, s.readReg8 r, s),
         (.mulMem8 m, s.load .byte (s.memSeg m) (s.ea m), s.afterMem .byte m)],
       Completes p.1 s fun t =>
         t.aw.toInt = (s.readReg8 .alAw).toInt * p.2.1.toInt ∧
         (t.psw.cy = true ↔ t.aw ≠ (t.readReg8 .alAw).signExtend 16) ∧ t.psw.v = t.psw.cy ∧
         t.psw = { s.psw.withStatus s.drawnStatus with v := t.psw.v, cy := t.psw.cy } ∧
         SameWordsBut [.alAw] s t ∧ SameMemory p.2.2 t ∧ SameRest s t) ∧
     (∀ p ∈ [(Instr.mulReg16 r, s.readReg16 r, s),
         (.mulMem16 m, s.load .word (s.memSeg m) (s.ea m), s.afterMem .word m)],
       Completes p.1 s fun t =>
         (t.dw ++ t.aw).toInt = s.aw.toInt * p.2.1.toInt ∧
         (t.psw.cy = true ↔ t.dw ++ t.aw ≠ t.aw.signExtend 32) ∧ t.psw.v = t.psw.cy ∧
         t.psw = { s.psw.withStatus s.drawnStatus with v := t.psw.v, cy := t.psw.cy } ∧
         SameWordsBut [.alAw, .dlDw] s t ∧ SameMemory p.2.2 t ∧ SameRest s t)) ∧
  (∀ (s : State) (d q : Reg) (m : MemOp) (imm8 : Byte) (imm16 : Word),
     ∀ p ∈ [(Instr.mulReg16Reg16Imm8 d q imm8, s.readReg16 q, imm8.toInt, s),
         (.mulReg16Mem16Imm8 d m imm8, s.load .word (s.memSeg m) (s.ea m), imm8.toInt,
           s.afterMem .word m),
         (.mulReg16Reg16Imm16 d q imm16, s.readReg16 q, imm16.toInt, s),
         (.mulReg16Mem16Imm16 d m imm16, s.load .word (s.memSeg m) (s.ea m), imm16.toInt,
           s.afterMem .word m)],
       Completes p.1 s fun t =>
         OperandBecomes p.2.2.2 t .word (.reg d) (BitVec.ofInt 16 (p.2.1.toInt * p.2.2.1)) ∧
         (t.psw.cy = true ↔ Overflows 16 (p.2.1.toInt * p.2.2.1)) ∧ t.psw.v = t.psw.cy ∧
         t.psw = { s.psw.withStatus s.drawnStatus with v := t.psw.v, cy := t.psw.cy } ∧ SameRest s t)

/-- DIVU and DIV where the quotient fits (43_mul_div_adjust_convert.md R320, R335 to R342): dividend = quotient * divisor
+ remainder, with 0 ≤ remainder < divisor for DIVU; for DIV the quotient is rounded toward zero, the remainder has the
sign of the dividend, and the quotient lies within ±127 or ±32767. All six flags are free; nothing else changes. -/
def Obligations.DivisionsComplete : Prop :=
  ∀ (s : State) (r : Reg) (m : MemOp),
    (∀ p ∈ [(Instr.divuReg8 r, s.readReg8 r, s),
        (.divuMem8 m, s.load .byte (s.memSeg m) (s.ea m), s.afterMem .byte m)],
      s.aw.toNat < 256 * p.2.1.toNat →
      Completes p.1 s fun t =>
        s.aw.toNat = (t.readReg8 .alAw).toNat * p.2.1.toNat + (t.readReg8 .ahSp).toNat ∧
        (t.readReg8 .ahSp).toNat < p.2.1.toNat ∧ t.psw = s.psw.withStatus s.drawnStatus ∧
        SameWordsBut [.alAw] s t ∧ SameMemory p.2.2 t ∧ SameRest s t) ∧
    (∀ p ∈ [(Instr.divuReg16 r, s.readReg16 r, s),
        (.divuMem16 m, s.load .word (s.memSeg m) (s.ea m), s.afterMem .word m)],
      (s.dw ++ s.aw).toNat < 65536 * p.2.1.toNat →
      Completes p.1 s fun t =>
        (s.dw ++ s.aw).toNat = t.aw.toNat * p.2.1.toNat + t.dw.toNat ∧ t.dw.toNat < p.2.1.toNat ∧
        t.psw = s.psw.withStatus s.drawnStatus ∧ SameWordsBut [.alAw, .dlDw] s t ∧ SameMemory p.2.2 t ∧
        SameRest s t) ∧
    (∀ p ∈ [(Instr.divReg8 r, s.readReg8 r, s),
        (.divMem8 m, s.load .byte (s.memSeg m) (s.ea m), s.afterMem .byte m)],
      s.aw.toInt.natAbs < 128 * p.2.1.toInt.natAbs →
      Completes p.1 s fun t =>
        s.aw.toInt = (t.readReg8 .alAw).toInt * p.2.1.toInt + (t.readReg8 .ahSp).toInt ∧
        (t.readReg8 .ahSp).toInt.natAbs < p.2.1.toInt.natAbs ∧
        (0 ≤ s.aw.toInt → 0 ≤ (t.readReg8 .ahSp).toInt) ∧ (s.aw.toInt ≤ 0 → (t.readReg8 .ahSp).toInt ≤ 0) ∧
        -127 ≤ (t.readReg8 .alAw).toInt ∧ t.psw = s.psw.withStatus s.drawnStatus ∧
        SameWordsBut [.alAw] s t ∧ SameMemory p.2.2 t ∧ SameRest s t) ∧
    (∀ p ∈ [(Instr.divReg16 r, s.readReg16 r, s),
        (.divMem16 m, s.load .word (s.memSeg m) (s.ea m), s.afterMem .word m)],
      (s.dw ++ s.aw).toInt.natAbs < 32768 * p.2.1.toInt.natAbs →
      Completes p.1 s fun t =>
        (s.dw ++ s.aw).toInt = t.aw.toInt * p.2.1.toInt + t.dw.toInt ∧ t.dw.toInt.natAbs < p.2.1.toInt.natAbs ∧
        (0 ≤ (s.dw ++ s.aw).toInt → 0 ≤ t.dw.toInt) ∧ ((s.dw ++ s.aw).toInt ≤ 0 → t.dw.toInt ≤ 0) ∧
        -32767 ≤ t.aw.toInt ∧ t.psw = s.psw.withStatus s.drawnStatus ∧
        SameWordsBut [.alAw, .dlDw] s t ∧ SameMemory p.2.2 t ∧ SameRest s t)

/-- A divide error (43_mul_div_adjust_convert.md R335 to R343): where the divisor is 0 or the quotient does not fit, AL
and AH, or AW and DW, and the six flags hold free values and vector 0 is entered with the offset of the next instruction
(D10; log entry 15); the PSW pushed holds the free flags; nothing else changes. -/
def Obligations.DivideErrorsEnterVectorZero : Prop :=
  ∀ (s : State) (r : Reg) (m : MemOp),
    let enters (i : Instr) (r : State) (changed : List Reg) : Prop :=
      Completes i s fun t => ∃ u : State,
        SameWordsBut changed s u ∧ SameMemory r u ∧ u.psw = s.psw.withStatus s.drawnStatus ∧ SameRest s u ∧
        Enters u t 0 s.pc
    (∀ p ∈ [(Instr.divuReg8 r, s.readReg8 r, s),
        (.divuMem8 m, s.load .byte (s.memSeg m) (s.ea m), s.afterMem .byte m)],
      (p.2.1 = 0 ∨ 256 * p.2.1.toNat ≤ s.aw.toNat) → enters p.1 p.2.2 [.alAw]) ∧
    (∀ p ∈ [(Instr.divuReg16 r, s.readReg16 r, s),
        (.divuMem16 m, s.load .word (s.memSeg m) (s.ea m), s.afterMem .word m)],
      (p.2.1 = 0 ∨ 65536 * p.2.1.toNat ≤ (s.dw ++ s.aw).toNat) → enters p.1 p.2.2 [.alAw, .dlDw]) ∧
    (∀ p ∈ [(Instr.divReg8 r, s.readReg8 r, s),
        (.divMem8 m, s.load .byte (s.memSeg m) (s.ea m), s.afterMem .byte m)],
      (p.2.1 = 0 ∨ 128 * p.2.1.toInt.natAbs ≤ s.aw.toInt.natAbs) → enters p.1 p.2.2 [.alAw]) ∧
    (∀ p ∈ [(Instr.divReg16 r, s.readReg16 r, s),
        (.divMem16 m, s.load .word (s.memSeg m) (s.ea m), s.afterMem .word m)],
      (p.2.1 = 0 ∨ 32768 * p.2.1.toInt.natAbs ≤ (s.dw ++ s.aw).toInt.natAbs) → enters p.1 p.2.2 [.alAw, .dlDw])

/-- CVTBD and CVTDB (43_mul_div_adjust_convert.md R360, R361): two unpacked decimal digits from a byte and back; S, Z and
P are taken from AL (log entry 43), the other three flags are free. ADJBA and ADJBS (R350, R352): if the low digit of AL
is above 9 or AC is set, AL takes 6 more or less, AH 1 more or less, and AC and CY are set, else they are cleared; AL
keeps its low digit; V, S, Z and P are free. Nothing else changes. S, Z and P are computed as log entry 32 says. -/
def Obligations.DecimalConversionsAndUnpackedAdjustsComplete : Prop :=
  (∀ s : State,
     (Completes .cvtbd s fun t =>
       10 * (t.readReg8 .ahSp).toNat + (t.readReg8 .alAw).toNat = (s.readReg8 .alAw).toNat ∧
       (t.readReg8 .alAw).toNat < 10 ∧ ResultFlags t.psw (t.readReg8 .alAw) ∧
       t.psw = { s.psw.withStatus s.drawnStatus with s := t.psw.s, z := t.psw.z, p := t.psw.p } ∧
       SameWordsBut [.alAw] s t ∧ SameMemory s t ∧ SameRest s t) ∧
     (Completes .cvtdb s fun t =>
       t.aw.toNat = (10 * (s.readReg8 .ahSp).toNat + (s.readReg8 .alAw).toNat) % 256 ∧
       ResultFlags t.psw (t.readReg8 .alAw) ∧
       t.psw = { s.psw.withStatus s.drawnStatus with s := t.psw.s, z := t.psw.z, p := t.psw.p } ∧
       SameWordsBut [.alAw] s t ∧ SameMemory s t ∧ SameRest s t)) ∧
  (∀ s : State,
     let al := (s.readReg8 .alAw).toNat
     let ah := (s.readReg8 .ahSp).toNat
     let adjust : Bool := decide (9 < al % 16) || s.psw.ac
     (Completes .adjba s fun t =>
       (t.readReg8 .alAw).toNat = (if adjust then al + 6 else al) % 16 ∧
       (t.readReg8 .ahSp).toNat = (if adjust then ah + 1 else ah) % 256 ∧
       t.psw = { s.psw.withStatus s.drawnStatus with ac := adjust, cy := adjust } ∧
       SameWordsBut [.alAw] s t ∧ SameMemory s t ∧ SameRest s t) ∧
     (Completes .adjbs s fun t =>
       (t.readReg8 .alAw).toNat = (if adjust then al + 256 - 6 else al) % 16 ∧
       (t.readReg8 .ahSp).toNat = (if adjust then ah + 256 - 1 else ah) % 256 ∧
       t.psw = { s.psw.withStatus s.drawnStatus with ac := adjust, cy := adjust } ∧
       SameWordsBut [.alAw] s t ∧ SameMemory s t ∧ SameRest s t))

/-- ADJ4A and ADJ4S complete on every AL, AC and CY: only AL and the status flags change, S, Z and P are those of AL, V is
free (43_mul_div_adjust_convert.md R351, R353). After a packed decimal addition or subtraction of two bytes of two digits
each, with or without an incoming carry, they leave the two digits of the sum or difference modulo 100 in AL and the
decimal carry or borrow in CY: the promise of both pages ("Adjusts the result of packed decimal ..."; D34; log entry 35).
S, Z and P are computed as log entry 32 says. -/
def Obligations.PackedAdjustsCorrectDecimalResults : Prop :=
  (∀ s : State, ∀ i ∈ [Instr.adj4a, .adj4s],
    Completes i s fun t =>
      ResultFlags t.psw (t.readReg8 .alAw) ∧ t.psw.v = Config.freeFlag s.draws .v ∧
      (t.psw.ac = true ↔ 9 < (s.readReg8 .alAw).toNat % 16 ∨ s.psw.ac = true) ∧
      SameControlFlags s.psw t.psw ∧ SameRegistersBut .byte .alAw s t ∧ SameMemory s t ∧ SameRest s t) ∧
  (∀ (s u t : State) (imm : Word) (x y : Nat),
    x < 100 → y < 100 → (s.readReg8 .alAw).toNat = x / 10 * 16 + x % 10 → imm.toNat = y / 10 * 16 + y % 10 →
    (exec (.addcAccImm .byte imm) s = .next u → exec .adj4a u = .next t →
      (t.readReg8 .alAw).toNat = (x + y + s.psw.cy.toNat) % 100 / 10 * 16 + (x + y + s.psw.cy.toNat) % 10 ∧
      (t.psw.cy = true ↔ 100 ≤ x + y + s.psw.cy.toNat)) ∧
    (exec (.subcAccImm .byte imm) s = .next u → exec .adj4s u = .next t →
      (t.readReg8 .alAw).toNat =
        (100 + x - y - s.psw.cy.toNat) % 100 / 10 * 16 + (100 + x - y - s.psw.cy.toNat) % 10 ∧
      (t.psw.cy = true ↔ x < y + s.psw.cy.toNat)))

/-- ROL4 and ROR4 (42_add_sub_bcd.md R285 to R288): the operand and the low half of AL turn by one digit, AL's upper half
is free (log entry 17), no flag (the model follows R285 to R288 and not the list of 70_reset_and_hazards.md R755; log
entry 51) and nothing else changes. On AL itself the spec gives no result and AL is free (D28; log entry 11). -/
def Obligations.NibbleRotatesComplete : Prop :=
  ∀ (s : State) (r : Reg) (m : MemOp),
    let al := (s.readReg8 .alAw).toNat % 16
    let x := (s.readReg8 r).toNat
    let y := (s.load .byte (s.memSeg m) (s.ea m) : Byte).toNat
    (Completes (.rol4Reg8 r) s fun t =>
      (r ≠ .alAw → (t.readReg8 r).toNat = x % 16 * 16 + al ∧ (t.readReg8 .alAw).toNat % 16 = x / 16) ∧
      (∀ q, q ≠ r → q ≠ .alAw → t.readReg8 q = s.readReg8 q) ∧ SameWordsBut [.alAw, .blBw, .clCw, .dlDw] s t ∧
      SameMemory s t ∧ t.psw = s.psw ∧ SameRest s t) ∧
    (Completes (.ror4Reg8 r) s fun t =>
      (r ≠ .alAw → (t.readReg8 r).toNat = al * 16 + x / 16 ∧ (t.readReg8 .alAw).toNat % 16 = x % 16) ∧
      (∀ q, q ≠ r → q ≠ .alAw → t.readReg8 q = s.readReg8 q) ∧ SameWordsBut [.alAw, .blBw, .clCw, .dlDw] s t ∧
      SameMemory s t ∧ t.psw = s.psw ∧ SameRest s t) ∧
    (Completes (.rol4Mem8 m) s fun t =>
      Stores (s.afterMem .byte m) t [⟨.byte, s.memSreg m, s.ea m, BitVec.ofNat 8 (y % 16 * 16 + al)⟩] ∧
      (t.readReg8 .alAw).toNat % 16 = y / 16 ∧ SameRegistersBut .byte .alAw s t ∧ t.psw = s.psw ∧ SameRest s t) ∧
    (Completes (.ror4Mem8 m) s fun t =>
      Stores (s.afterMem .byte m) t [⟨.byte, s.memSreg m, s.ea m, BitVec.ofNat 8 (al * 16 + y / 16)⟩] ∧
      (t.readReg8 .alAw).toNat % 16 = y % 16 ∧ SameRegistersBut .byte .alAw s t ∧ t.psw = s.psw ∧ SameRest s t)

/-- ADD4S, SUB4S and CMP4S complete on every length and every digit (42_add_sub_bcd.md R280 to R283; where the spec
promises no result it is free, log entries 12 to 14): no register and no control flag changes; V, S, AC and P are free;
memory changes only in the `(n + 1) div 2` bytes at DS1:IY, n being the number of digits, and CMP4S stores nothing. The
bus sees for each byte, the lowest first, a read of the source, a read of the destination and, but for CMP4S, a write of
it. The order of the cycles and what they show is as log entries 28 and 39 say. -/
def Obligations.BcdStringsComplete : Prop :=
  ∀ s : State,
    let bytes : List Nat := List.range ((s.bcdDigits + 1) / 2)
    let source (k : Nat) : Nat := byteAddr s.dataSeg (s.ix + BitVec.ofNat 16 k) 0
    let dest (k : Nat) : Nat := byteAddr s.ds1 (s.iy + BitVec.ofNat 16 k) 0
    let sees (t : State) (accesses : List (CycleKind × SReg × Nat)) : Prop :=
      ∃ cycles : List BusCycle, t.bus = (cycles.map BusEvent.cycle).reverse ++ s.bus ∧
        cycles.map (fun c => (c.kind, c.segment, c.address)) =
          accesses.map (fun x => (x.1, some x.2.1, some x.2.2)) ∧
        ∀ c ∈ cycles, c.data.length = 1 ∧ c.ps3 = (!s.psw.md) ∧ c.ps2 = s.psw.ie ∧ c.locked = s.prefixes.buslock
    (∀ i ∈ [Instr.add4s, .sub4s],
      Completes i s fun t => ∃ cells : List (Nat × Byte),
        StoresCells s t cells ∧ cells.map (·.1) = bytes.map dest ∧
        sees t (bytes.flatMap fun k =>
          [(.memRead, s.dataSreg, source k), (.memRead, .ds1, dest k), (.memWrite, .ds1, dest k)]) ∧
        t.psw = { s.psw.withStatus s.drawnStatus with z := t.psw.z, cy := t.psw.cy } ∧
        SameRegisters s t ∧ SameRest s t) ∧
    (Completes .cmp4s s fun t =>
      t.psw = { s.psw.withStatus s.drawnStatus with z := t.psw.z, cy := t.psw.cy } ∧
      t.mem = s.mem ∧ StoresCells s t [] ∧
      sees t (bytes.flatMap fun k => [(.memRead, s.dataSreg, source k), (.memRead, .ds1, dest k)]) ∧
      SameRegisters s t ∧ SameRest s t) ∧
    (1 ≤ (s.readReg8 .clCw).toNat → (s.readReg8 .clCw).toNat ≤ 254 → s.bcdDigits = (s.readReg8 .clCw).toNat)

/-- The BCD strings as numbers (42_add_sub_bcd.md R280 to R283). With `n` digits in CL, 1 to 254, decimal digits in the
`(n + 1) div 2` bytes of both strings, the destination in RAM, the source in no device and no byte of it among those of
the destination, ADD4S leaves the sum of the two numbers of `n` digits in the destination, modulo 10^n, and SUB4S the
difference; CMP4S stores nothing. With `n` even CY is the carry or borrow and Z says that the result is zero, or for CMP4S
that the numbers are equal; with `n` odd Z and CY are free, and so is the upper digit of the highest byte, which is not
one of the `n` (log entry 14). The value of a string is the sum of its digits, two a byte, least significant first. -/
def Obligations.BcdStringsAddAndSubtractNumbers : Prop :=
  ∀ (s : State) (n : Nat), 1 ≤ n → n ≤ 254 → (s.readReg8 .clCw).toNat = n →
    (∀ k, k < (n + 1) / 2 →
      isDecimal (s.load .byte s.dataSeg (s.ix + BitVec.ofNat 16 k)) = true ∧
      isDecimal (s.load .byte s.ds1 (s.iy + BitVec.ofNat 16 k)) = true ∧
      kindAt s.platform (byteAddr s.ds1 (s.iy + BitVec.ofNat 16 k) 0) = .ram ∧
      kindAt s.platform (byteAddr s.dataSeg (s.ix + BitVec.ofNat 16 k) 0) ≠ .device ∧
      ∀ j, j < (n + 1) / 2 →
        byteAddr s.dataSeg (s.ix + BitVec.ofNat 16 k) 0 ≠ byteAddr s.ds1 (s.iy + BitVec.ofNat 16 j) 0) →
    let value (u : State) (seg off : Word) : Nat :=
      ((List.range n).map fun k =>
        let b : Byte := u.load .byte seg (off + BitVec.ofNat 16 (k / 2))
        b.toNat / 16 ^ (k % 2) % 16 * 10 ^ k).sum
    let a := value s s.ds1 s.iy
    let b := value s s.dataSeg s.ix
    let flags (t : State) (carry zero : Prop) : Prop :=
      (n % 2 = 0 → (t.psw.cy = true ↔ carry) ∧ (t.psw.z = true ↔ zero)) ∧
      (n % 2 = 1 → t.psw.cy = Config.freeFlag s.draws .cy ∧ t.psw.z = Config.freeFlag s.draws .z)
    (Completes .add4s s fun t =>
      value t s.ds1 s.iy = (a + b) % 10 ^ n ∧ flags t (10 ^ n ≤ a + b) (value t s.ds1 s.iy = 0)) ∧
    (Completes .sub4s s fun t =>
      value t s.ds1 s.iy = (10 ^ n + a - b) % 10 ^ n ∧ flags t (a < b) (value t s.ds1 s.iy = 0)) ∧
    (Completes .cmp4s s fun t => t.mem = s.mem ∧ flags t (a < b) (a = b))

/-- CALL (46_control_transfer.md R521 to R525): the offset after the CALL is pushed, and for the far forms PS before it;
PC, and PS for the far forms, take the target and the queue is cleared; nothing else changes. A pointer in memory is read
before the pushes. `CALL SP` reads SP before or after the push, and a pointer that the pushes overwrite is read before or
after them: the spec leaves both open (D7; log entry 8). -/
def Obligations.CallsComplete : Prop :=
  ∀ (s : State) (disp off seg : Word) (r : Reg) (m : MemOp),
    let pushed (u v : State) (words : List Word) : Prop :=
      Stores u v (stackStores s.sp words) ∧
      v = { u with sp := s.sp - BitVec.ofNat 16 (2 * words.length), mem := v.mem, bus := v.bus }
    let near (i : Instr) (u : State) (target : Word → Prop) : Prop :=
      Completes i s fun t => ∃ (v : State) (x : Word), pushed u v [s.pc] ∧ target x ∧ t = v.transferredTo x
    let pointer (u : State) (k : Nat) : Word :=
      u.readByte (byteAddr (s.memSeg m) (s.ea m) (k + 1)) ++ u.readByte (byteAddr (s.memSeg m) (s.ea m) k)
    let overwritten (words : Nat) : Prop :=
      ∃ j, j < 2 * words ∧ ∃ k, k < words ∧ ∃ b, b < 2 ∧
        byteAddr (s.memSeg m) (s.ea m) j = byteAddr s.ss (s.sp - BitVec.ofNat 16 (2 * (k + 1))) b
    near (.callNear disp) s (· = s.pc + disp) ∧
    near (.callRegptr16 r) s (fun x => (r ≠ .ahSp → x = s.readReg16 r) ∧ (r = .ahSp → x = s.sp ∨ x = s.sp - 2)) ∧
    (Completes (.callFar off seg) s fun t => ∃ v : State,
      pushed s v [s.ps, s.pc] ∧ t = { v with ps := seg }.transferredTo off) ∧
    (Completes (.callMemptr16 m) s fun t =>
      let first : Prop := ∃ v : State,
        pushed (s.afterMem .word m) v [s.pc] ∧ t = v.transferredTo (pointer s 0)
      let second : Prop := ∃ v : State, pushed s v [s.pc] ∧ t = (v.afterMem .word m).transferredTo (pointer v 0)
      first ∨ (overwritten 1 ∧ second)) ∧
    (Completes (.callMemptr32 m) s fun t =>
      let first : Prop := ∃ v : State,
        pushed (s.afterPtr m) v [s.ps, s.pc] ∧ t = { v with ps := pointer s 2 }.transferredTo (pointer s 0)
      let second : Prop := ∃ v : State,
        pushed s v [s.ps, s.pc] ∧ t = { v.afterPtr m with ps := pointer v 2 }.transferredTo (pointer v 0)
      first ∨ (overwritten 2 ∧ second))

/-- RET (46_control_transfer.md R526 to R529): PC, and PS for the far forms, come from the stack; SP goes past them and
past `pop-value` more bytes. The unconditional branches (R560 to R565; 10_state.md R31): the target modulo 2^16, PS for
the far forms, the prefetch pointer with PC and the queue cleared. Nothing else changes. That offsets wrap is D5 (log
entry 46). -/
def Obligations.ReturnsAndBranchesComplete : Prop :=
  (∀ (s : State) (n : Word),
     let word (k : Word) : Word := s.load .word s.ss (s.sp + k)
     exec .retNear s = .next ({ s.afterStack [0] with sp := s.sp + 2 }.transferredTo (word 0)) ∧
     exec (.retNearPop n) s = .next ({ s.afterStack [0] with sp := s.sp + 2 + n }.transferredTo (word 0)) ∧
     exec .retFar s =
       .next ({ s.afterStack [0, 1] with sp := s.sp + 4, ps := word 2 }.transferredTo (word 0)) ∧
     exec (.retFarPop n) s =
       .next ({ s.afterStack [0, 1] with sp := s.sp + 4 + n, ps := word 2 }.transferredTo (word 0))) ∧
  (∀ (s : State) (disp off seg : Word) (disp8 : Byte) (r : Reg) (m : MemOp),
     let pointer (k : Nat) : Word :=
       s.readByte (byteAddr (s.memSeg m) (s.ea m) (k + 1)) ++ s.readByte (byteAddr (s.memSeg m) (s.ea m) k)
     BranchesTo (.brNear disp) s (some (s.pc + disp)) ∧
     BranchesTo (.brShort disp8) s (some (s.pc + BitVec.ofInt 16 disp8.toInt)) ∧
     BranchesTo (.brRegptr16 r) s (some (s.readReg16 r)) ∧
     exec (.brMemptr16 m) s = .next ((s.afterMem .word m).transferredTo (pointer 0)) ∧
     exec (.brFar off seg) s = .next ({ s with ps := seg }.transferredTo off) ∧
     exec (.brMemptr32 m) s = .next ({ s.afterPtr m with ps := pointer 2 }.transferredTo (pointer 0)))

/-- The conditional branches (46_control_transfer.md R568, R570 to R585, R589): taken to PC plus the sign-extended
displacement modulo 2^16 if the condition on the flags, or on CW, holds; else nothing happens. The counting branches (R586
to R588): CW goes down by 1 modulo 2^16, and the branch is taken if CW is then not 0 and, for DBNZNE and DBNZE, Z is 0 or
1; no flag and nothing else changes. That offsets wrap is D5 (log entry 46). -/
def Obligations.ConditionalBranchesComplete : Prop :=
  (∀ (s : State) (d : Byte),
     let f := s.psw
     ∀ p ∈ [(Instr.bv d, f.v), (.bnv d, !f.v), (.bc d, f.cy), (.bnc d, !f.cy), (.be d, f.z), (.bne d, !f.z),
         (.bnh d, f.cy || f.z), (.bh d, !f.cy && !f.z), (.bpe d, f.p), (.bpo d, !f.p), (.bn d, f.s), (.bp d, !f.s),
         (.blt d, f.s != f.v), (.bge d, f.s == f.v), (.ble d, f.s != f.v || f.z), (.bgt d, f.s == f.v && !f.z),
         (.bcwz d, decide (s.cw.toNat = 0))],
       BranchesTo p.1 s (if p.2 then some (s.pc + BitVec.ofInt 16 d.toInt) else none)) ∧
  (∀ (s : State) (d : Byte),
     ∀ p ∈ [(Instr.dbnzne d, !s.psw.z), (.dbnze d, s.psw.z), (.dbnz d, true)],
       exec p.1 s = .next
         (if s.cw.toNat ≠ 1 ∧ p.2 = true then
           { s with cw := s.cw - 1 }.transferredTo (s.pc + BitVec.ofInt 16 d.toInt)
         else { s with cw := s.cw - 1 }))

/-- PUSH (46_control_transfer.md R540 to R546, R548): SP goes down by 2 modulo 2^16 and the word lies at SS:SP, low byte
first; every other byte of memory and every other register stays. `PUSH SP` stores the value before or after the
decrement, which the spec leaves open (D7; log entry 8). PUSH PSW stores the 16-bit image (10_state.md R33, R34). The form
`pushReg16Two`, FFH with mod = 11, is an unlisted form, PRESUMED to act as `PUSH reg16` (30_encoding.md R123, D33; log
entry 37); that no override moves a push from SS is general knowledge (R64; log entry 33). -/
def Obligations.PushesComplete : Prop :=
  ∀ (s : State) (r : Reg) (g : SReg) (m : MemOp) (imm8 : Byte) (imm16 : Word),
    let pushesAfter (i : Instr) (u : State) (v : Word) : Prop :=
      Completes i s fun t =>
        Stores u t (stackStores s.sp [v]) ∧ t = { s with sp := s.sp - 2, mem := t.mem, bus := t.bus }
    let pushes (i : Instr) (v : Word) : Prop := pushesAfter i s v
    pushesAfter (.pushMem16 m) (s.afterMem .word m) (s.load .word (s.memSeg m) (s.ea m)) ∧
    (r ≠ .ahSp → pushes (.pushReg16 r) (s.readReg16 r) ∧ pushes (.pushReg16Two r) (s.readReg16 r)) ∧
    (r = .ahSp → (pushes (.pushReg16 r) s.sp ∧ pushes (.pushReg16Two r) s.sp) ∨
      (pushes (.pushReg16 r) (s.sp - 2) ∧ pushes (.pushReg16Two r) (s.sp - 2))) ∧
    pushes (.pushSreg g) (s.readSreg g) ∧ pushes (.pushImm8 imm8) (BitVec.ofInt 16 imm8.toInt) ∧
    pushes (.pushImm16 imm16) imm16 ∧ pushes .pushPsw s.psw.image

/-- The 16-bit image of the PSW (10_state.md R33): MD, V, DIR, IE, BRK, S, Z, AC, P and CY at bits 15, 11, 10, 9, 8, 7, 6,
4, 2 and 0; bits 14, 13, 12 and 1 are 1 and bits 5 and 3 are 0; the flags read back from an image are those stored in it. -/
def Obligations.StatusWordImage : Prop :=
  ∀ p : Psw,
    p.image.getLsbD 15 = p.md ∧ p.image.getLsbD 14 = true ∧ p.image.getLsbD 13 = true ∧
    p.image.getLsbD 12 = true ∧ p.image.getLsbD 11 = p.v ∧ p.image.getLsbD 10 = p.dir ∧
    p.image.getLsbD 9 = p.ie ∧ p.image.getLsbD 8 = p.brk ∧ p.image.getLsbD 7 = p.s ∧ p.image.getLsbD 6 = p.z ∧
    p.image.getLsbD 5 = false ∧ p.image.getLsbD 4 = p.ac ∧ p.image.getLsbD 3 = false ∧
    p.image.getLsbD 2 = p.p ∧ p.image.getLsbD 1 = true ∧ p.image.getLsbD 0 = p.cy ∧ Psw.ofImage p.image = p

/-- POP (46_control_transfer.md R551, R552, R553, R555): the word at SS:SP goes to the destination and SP goes up by 2;
POP sreg opens the interrupt-inhibit window; POP PSW loads the nine flags, and MD only if it is write-enabled
(48_emulation_mode.md R658). `POP SP` leaves the word or the word plus 2 in SP (D7; log entry 8). The form `popReg16Two`,
8FH with mod = 11, is an unlisted form, PRESUMED to act as `POP reg16` (30_encoding.md R123, D33; log entry 37); that no
override moves a pop from SS is general knowledge (R64; log entry 33). Where the spec refuses a load that clears MD, the
model runs it (log entry 42). -/
def Obligations.PopsComplete : Prop :=
  ∀ (s : State) (r : Reg) (g : SReg) (m : MemOp),
    let x : Word := s.load .word s.ss s.sp
    let u : State := s.afterLoad .word .ss s.sp
    (Completes (.popMem16 m) s fun t =>
      Stores u t [⟨.word, s.memSreg m, s.ea m, x⟩] ∧
      t = { s with sp := s.sp + 2, mem := t.mem, bus := t.bus }) ∧
    (∀ i ∈ [Instr.popReg16 r, .popReg16Two r],
      Completes i s fun t =>
        (r ≠ .ahSp → t.readReg16 r = x ∧ t.sp = s.sp + 2) ∧ (r = .ahSp → t.sp = x ∨ t.sp = x + 2) ∧
        SameWordsBut [r, .ahSp] s t ∧ SameMemory u t ∧ t.psw = s.psw ∧ SameRest s t) ∧
    (Completes (.popSreg g) s fun t =>
      t.readSreg g = x ∧ (∀ h, h ≠ g → t.readSreg h = s.readSreg h) ∧
      t = { u with sp := s.sp + 2, ps := t.ps, ss := t.ss, ds0 := t.ds0, ds1 := t.ds1, window := .sreg }) ∧
    (Completes .popPsw s fun t =>
      t.psw = { Psw.ofImage x with md := if s.mdwe then x.getLsbD 15 else s.psw.md } ∧
      t = { u with sp := s.sp + 2, psw := t.psw })

/-- PUSH R and POP R (46_control_transfer.md R544, R554): AW, CW, DW, BW, the SP of before, BP, IX and IY are pushed in
this order; POP R takes IY, IX, BP, BW, DW, CW and AW back, skips the word of SP, which it does not read, and leaves SP 16
higher; nothing else changes. -/
def Obligations.RegisterSetMovesComplete : Prop :=
  ∀ s : State,
    let word (k : Word) : Word := s.load .word s.ss (s.sp + k)
    (Completes .pushR s fun t =>
      Stores s t (stackStores s.sp [s.aw, s.cw, s.dw, s.bw, s.sp, s.bp, s.ix, s.iy]) ∧
      t = { s with sp := s.sp - 16, mem := t.mem, bus := t.bus }) ∧
    exec .popR s = .next { s.afterStack [0, 1, 2, 4, 5, 6, 7] with
      iy := word 0
      ix := word 2
      bp := word 4
      bw := word 8
      dw := word 10
      cw := word 12
      aw := word 14
      sp := s.sp + 16 }

/-- PREPARE and DISPOSE (46_control_transfer.md R556, R557). PREPARE: BP is pushed, `temp` is SP; with a depth above 0 the
words below the old BP are pushed one by one, read at SS:BP-2, SS:BP-4, ..., then `temp`; BP takes `temp`, SP goes down by
the size. Each word is read after the pushes before it: a byte of RAM that they have overwritten reads as they left it,
any other byte of RAM or ROM as before the instruction. Memory outside the pushed words is as before, and the bus sees the
reads and writes in this order. DISPOSE: SP takes BP and BP is popped. No flag and nothing else changes. The order of the
reads and writes is that of the operation lines (log entry 28). -/
def Obligations.StackFramesComplete : Prop :=
  ∀ (s : State) (size : Word) (depth : Byte),
    let n : Nat := depth.toNat
    let source (k : Nat) : Word := s.bp - BitVec.ofNat 16 (2 * (k + 1))
    let read (k : Nat) (v : Word) : List BusCycle := s.cyclesOf .memRead (some .ss) (byteAddr s.ss (source k)) .word v
    let write (k : Nat) (v : Word) : List BusCycle := s.writeCycles .word .ss (s.sp - BitVec.ofNat 16 (2 * (k + 1))) v
    (Completes (.prepare size depth) s fun t => ∃ copied : List Word,
      let words : List Word := if n = 0 then [s.bp] else s.bp :: copied ++ [s.sp - 2]
      copied.length = n - 1 ∧
      t.bp = s.sp - 2 ∧ t.sp = s.sp - 2 - BitVec.ofNat 16 (2 * n) - size ∧
      SameWordsBut [.ahSp, .chBp] s t ∧ t.psw = s.psw ∧ SameRest s t ∧
      StoresCells s t (s.cellsOfStores (stackStores s.sp words)) ∧
      t.bus = ((write 0 s.bp ++ (copied.zipIdx.flatMap fun p => read p.2 p.1 ++ write (p.2 + 1) p.1) ++
        if n = 0 then [] else write n (s.sp - 2)).map BusEvent.cycle).reverse ++ s.bus ∧
      ∀ (k : Nat) (v : Word), copied[k]? = some v → ∀ b, b < 2 →
        let a := byteAddr s.ss (source k) b
        let before := s.cellsOfStores (stackStores s.sp (s.bp :: copied.take k))
        (kindAt s.platform a = .ram → v.extractLsb' (8 * b) 8 = (storedAt before a).getD (s.readByte a)) ∧
        (kindAt s.platform a = .rom → v.extractLsb' (8 * b) 8 = s.readByte a)) ∧
    exec .dispose s =
      .next { s.afterLoad .word .ss s.bp with sp := s.bp + 2, bp := s.load .word s.ss s.bp }

/-- The interrupt entry sequence, the same for every source (60_exceptions.md R684, R681): PSW, PS and the return offset
are pushed, IE and BRK are cleared, MD is set, PS and PC come from the vector, and no other register changes. -/
def Obligations.InterruptEntrySequence : Prop :=
  ∀ (s : State) (vector : Byte) (ret : Word), Enters s (s.enterInterrupt vector ret) vector ret

/-- The software interrupts (47_break_cpu_control.md R600 to R603, R605; 60_exceptions.md R685, R687): BRK 3 and BRK imm8
always, BRKV if V is set, CHKIND if the index, as a signed number (D26; log entry 34), is below the first bound or above
the second, with the offset of the next instruction; BRKV and CHKIND otherwise do nothing. CHKIND reads its two bounds. -/
def Obligations.BreakInstructionsEnterTheirVectors : Prop :=
  ∀ (s : State) (imm : Byte) (r : Reg) (m : MemOp),
    let bound (k : Nat) : Word :=
      s.readByte (byteAddr (s.memSeg m) (s.ea m) (k + 1)) ++ s.readByte (byteAddr (s.memSeg m) (s.ea m) k)
    Completes .brk3 s (fun t => Enters s t 3 s.pc) ∧
    Completes (.brkImm8 imm) s (fun t => Enters s t imm s.pc) ∧
    (s.psw.v = true → Completes .brkv s fun t => Enters s t 4 s.pc) ∧
    (s.psw.v = false → exec .brkv s = .next s) ∧
    (((s.readReg16 r).toInt < (bound 0).toInt ∨ (bound 2).toInt < (s.readReg16 r).toInt) →
      Completes (.chkind r m) s fun t => Enters (s.afterPtr m) t 5 s.pc) ∧
    ((bound 0).toInt ≤ (s.readReg16 r).toInt → (s.readReg16 r).toInt ≤ (bound 2).toInt →
      exec (.chkind r m) s = .next (s.afterPtr m))

/-- RETI (47_break_cpu_control.md R604, 60_exceptions.md R697): PC, PS and PSW are popped in this order and SP goes up by
6; nine flags come from the image, MD only if it is write-enabled (48_emulation_mode.md R658). RETEM (48_emulation_mode.md
R661): the same with MD always restored, and MD is then write-disabled. Where the spec refuses a load that clears MD, the
model runs it (log entry 42). RETI leaves the write enable of MD, as R658 has it, though 10_state.md R49 lists RETI among
its writers (log entry 42). -/
def Obligations.ReturnsFromInterruptComplete : Prop :=
  ∀ s : State,
    let word (k : Word) : Word := s.load .word s.ss (s.sp + k)
    exec .reti s = .next ({ s.afterStack [0, 1, 2] with
      ps := word 2
      psw := { Psw.ofImage (word 4) with md := if s.mdwe then (word 4).getLsbD 15 else s.psw.md }
      sp := s.sp + 6 }.transferredTo (word 0)) ∧
    exec .retem s = .next ({ s.afterStack [0, 1, 2] with
      ps := word 2
      psw := Psw.ofImage (word 4)
      mdwe := false
      sp := s.sp + 6 }.transferredTo (word 0))

/-- RETI undoes an interrupt entry (60_exceptions.md R697 "and so undoes rule R684 exactly"): with the six stack bytes in
RAM, the state after entry and return has the PC given as return offset, the PS, SP and PSW of before (MD too, where it
was set or is write-enabled), and every register as before. That RETI leaves the write enable of MD is log entry 42. -/
def Obligations.ReturnUndoesInterruptEntry : Prop :=
  ∀ (s : State) (vector : Byte) (ret : Word), (s.psw.md = true ∨ s.mdwe = true) →
    (∀ k, k < 3 → ∀ b, b < 2 → kindAt s.platform (byteAddr s.ss (s.sp - BitVec.ofNat 16 (2 * (k + 1))) b) = .ram) →
    Completes .reti (s.enterInterrupt vector ret) fun t =>
      t = { s.transferredTo ret with mem := t.mem, bus := t.bus, fetchLog := t.fetchLog }

/-- BRKEM and CALLN (48_emulation_mode.md R660, R662; 60_exceptions.md R685): as an interrupt entry, but BRKEM clears MD
and write-enables it and CALLN sets MD and leaves its write enable; whether IE and BRK are cleared too is open and the
same for both (`BRKEM_CLEARS_IE_BRK`; D12; log entry 20). The registers of the μPD8080AF, AL, the bytes of BW, CW and DW,
and BP as its stack pointer, are the same before and after (R651). Between a BRKEM and its RETEM a BRKEM stops (R657; log
entry 21). -/
def Obligations.ModeCallsComplete : Prop :=
  ∃ clears : Bool, ∀ (s : State) (imm : Byte),
    let enters (t : State) (md mdwe : Bool) : Prop :=
      EntersWith s t imm s.pc
        { s.psw with
          md := md
          ie := if clears then false else s.psw.ie
          brk := if clears then false else s.psw.brk } mdwe ∧
      t.readReg8080 .a = s.readReg8 .alAw ∧ (∀ r, t.readReg8080 r = s.readReg8080 r) ∧ t.sp8080 = s.bp
    (s.mdwe = false → Completes (.brkem imm) s fun t => enters t false true) ∧
    (s.mdwe = true → exec (.brkem imm) s = .refused .nestedBrkem) ∧
    (Completes (.calln imm) s fun t => enters t true s.mdwe)

/-- The mode changes only as the list of 48_emulation_mode.md R656 says. A step that leaves native mode runs BRKEM, or
RETI or POP PSW while MD is write-enabled; MD becomes write-enabled by BRKEM only; a step from emulation mode to native
mode, with no instruction in progress, is a RESET, an NMI or INT that ends standby, or runs RETEM or CALLN. This last
clause is narrower than the row "NMI or INT accepted" of R656: it rests on the model's refusal of every instruction of the
μPD8080AF (R665, D13; log entry 19), so that in emulation mode no boundary but standby, and the one after CALLN or RETEM,
takes an interrupt. That RETI leaves the write enable of MD, and loads MD = 0 where the spec refuses it, is log entry 42. -/
def Obligations.ModeChangesAreTheListedOnes : Prop :=
  ∀ s t : State, s.Inv → step s = .next t →
    (s.psw.md = true → t.psw.md = false →
      ∃ n, (∃ v, s.sample.fetched = .ok (.brkem v, n)) ∨
        (s.mdwe = true ∧ (s.sample.fetched = .ok (.reti, n) ∨ s.sample.fetched = .ok (.popPsw, n)))) ∧
    (s.mdwe = false → t.mdwe = true → ∃ v n, s.sample.fetched = .ok (.brkem v, n)) ∧
    (s.psw.md = false → s.inProgress = none → t.psw.md = true →
      s.resetRequested = true ∨ (s.standby = true ∧ (s.sample.nmiLatch = true ∨ s.sample.intAccepted = true)) ∨
      ∃ n, s.sample.fetched = .ok (.retem, n) ∨ ∃ v, s.sample.fetched = .ok (.calln v, n))

/-- The boundary after an instruction (60_exceptions.md R686, R692; D14; log entry 41). After a segment-register move
nothing is taken, and a latched NMI and an armed step are kept. Else NMI is taken if latched; INT only if NMI is not, EI
has not just run, INT is high and IE is set, after the two acknowledge cycles, of which the first is locked (R691;
20_memory.md R75; log entry 39); then, whatever was taken, an armed or pending single step, whose routine so runs first.
The window and the prefixes are used up. -/
def Obligations.BoundaryTakesInterruptsByPriority : Prop :=
  ∀ s : State,
    let closed : State := { s with
      prefixes := Prefixes.none
      window := .none
      stepPending := s.stepPending || s.stepArmed
      stepArmed := false }
    let acknowledge (locked : Bool) (data : List Byte) : BusEvent :=
      .cycle ⟨.interruptAck, !s.psw.md, s.psw.ie, locked, none, none, data⟩
    let single (u : State) : State :=
      if s.stepPending || s.stepArmed then
        { { u with stepPending := false }.enterInterrupt 1 u.pc with standby := false }
      else u
    (s.window = .sreg → s.boundary = closed) ∧
    (s.window ≠ .sreg → s.nmiLatch = true →
      s.boundary = single { { closed with nmiLatch := false }.enterInterrupt 2 s.pc with standby := false }) ∧
    (s.window = .none → s.nmiLatch = false → s.pins.intHigh = true → s.psw.ie = true →
      s.boundary = single
        { { closed with bus := acknowledge false [s.pins.vector] :: acknowledge true [] :: s.bus }.enterInterrupt
              s.pins.vector s.pc with
          standby := false }) ∧
    (s.window ≠ .sreg → s.nmiLatch = false →
      (s.window = .ei ∨ s.pins.intHigh = false ∨ s.psw.ie = false) → s.boundary = single closed)

/-- Inside a repeated block instruction (60_exceptions.md R693, R694, R696; 41_block_bitfield_io.md R207): with an NMI
latched or an INT accepted the loop is suspended, and the entry's return offset is that of the first of at most three
prefix bytes before the one opcode byte; without one the loop goes on untouched; no single step is taken here. The first
acknowledge cycle of INT is locked (20_memory.md R75, 60_exceptions.md R691); that the other cycles of the entry are not,
where a BUSLOCK prefix stood before the loop, is the model's choice (log entry 39). Where in the loop the interrupt is
taken, and that the loop is resumed by running its instruction again, is log entry 23. -/
def Obligations.RepeatLoopsAreInterruptedBetweenElements : Prop :=
  ∀ s : State,
    let ret : Word := s.pc - 1 - BitVec.ofNat 16 (min s.prefixes.count 3)
    let acknowledge (locked : Bool) (data : List Byte) : BusEvent :=
      .cycle ⟨.interruptAck, !s.psw.md, s.psw.ie, locked, none, none, data⟩
    (s.nmiLatch = true →
      s.loopBoundary = { { s with nmiLatch := false, prefixes := Prefixes.none }.enterInterrupt 2 ret with
        standby := false
        inProgress := none
        stepArmed := false }) ∧
    (s.nmiLatch = false → s.pins.intHigh = true → s.psw.ie = true →
      s.loopBoundary =
        { { s with
            prefixes := Prefixes.none
            bus := acknowledge false [s.pins.vector] :: acknowledge true [] :: s.bus }.enterInterrupt s.pins.vector ret with
          standby := false
          inProgress := none
          stepArmed := false }) ∧
    (s.nmiLatch = false → (s.pins.intHigh = false ∨ s.psw.ie = false) → s.loopBoundary = s)

/-- Standby (60_exceptions.md R699, R700): a step in standby without RESET samples the pins and fetches nothing; an NMI
latched before or by this sample is entered and returns to the instruction after HALT, and so is INT with IE set, the
first of its acknowledge cycles locked (20_memory.md R75; log entry 39); INT with IE clear only ends standby; with none of
them nothing but the sample and the free-value counter changes. In standby the outputs are at the levels of Table 9-1: in
a large-scale system QS1 and QS0 low, BS2-BS0 high, BUSLOCK high unless a BUSLOCK prefix stood before HALT; in a
small-scale one INTAK, BUFEN, WR and RD high and ASTB low; UBE, which the μPD70116 has, high. That standby samples the
pins once a step is the model's choice (log entries 24 and 26). -/
def Obligations.StandbyEndsByInterrupt : Prop :=
  ∀ s : State, s.standby = true → s.resetRequested = false →
    let u : State := s.sample
    let acknowledge (locked : Bool) (data : List Byte) : BusEvent :=
      .cycle ⟨.interruptAck, !s.psw.md, s.psw.ie, locked, none, none, data⟩
    (u.nmiLatch = true →
      step s = .next { { u with nmiLatch := false }.enterInterrupt 2 s.pc with
        standby := false, draws := s.draws + 1 }) ∧
    (u.nmiLatch = false → u.pins.intHigh = true → s.psw.ie = true →
      step s = .next
        { { u with bus := acknowledge false [u.pins.vector] :: acknowledge true [] :: s.bus }.enterInterrupt
            u.pins.vector s.pc with
          standby := false, draws := s.draws + 1 }) ∧
    (u.nmiLatch = false → u.pins.intHigh = true → s.psw.ie = false →
      step s = .next { u with standby := false, draws := s.draws + 1 }) ∧
    (u.nmiLatch = false → u.pins.intHigh = false → step s = .next { u with draws := s.draws + 1 }) ∧
    (∀ (i : Input) (rest : List Input), s.inputs = i :: rest →
      u = { s with inputs := rest, pins := i.pins, nmiLatch := s.nmiLatch || i.nmiEdge }) ∧
    (s.inputs = [] → u = s) ∧
    (s.wiring = .largeScale →
      s.standbyPins.queueStatus = some 0b00 ∧ s.standbyPins.busStatus = some 0b111 ∧
      s.standbyPins.buslock = some !s.haltLocked) ∧
    (s.wiring = .smallScale →
      [s.standbyPins.intak, s.standbyPins.bufen, s.standbyPins.wr, s.standbyPins.rd, s.standbyPins.astb] =
        [some true, some true, some true, some true, some false]) ∧
    (s.chip = .uPD70116 → s.standbyPins.ube = some true)

/-- HALT, POLL, DI, EI and NOP (47_break_cpu_control.md R616 to R619, R624; 60_exceptions.md R692, R699): HALT enters
standby, with its bus cycle, and keeps whether a BUSLOCK prefix stood before it; POLL ends when its pin is low and else
stays in progress; DI and EI clear and set IE, EI opening its window; NOP changes nothing. The coprocessor instructions
FPO1 and FPO2 (R621, R622, R623, R625) change no register, flag or memory: the floating point chip sees their operation
bits, and the memory forms read a word from the operand's address (D16; log entry 38). That a waiting POLL is held in
`inProgress`, one sample a step, and that HALT keeps the lock in a field is the model's choice (log entries 25 and 52).
What the halt cycle shows is as log entries 28 and 39 say. -/
def Obligations.CpuControlInstructionsComplete : Prop :=
  ∀ (s : State) (x y z : BitVec 3) (b : BitVec 1) (m : MemOp),
    exec .halt s = .next { s with
      standby := true
      haltLocked := s.prefixes.buslock
      bus := .cycle ⟨.halt, !s.psw.md, s.psw.ie, s.prefixes.buslock, none, none, []⟩ :: s.bus } ∧
    (s.pins.pollLow = true → exec .poll s = .next s) ∧
    (s.pins.pollLow = false → exec .poll s = .next { s with inProgress := some .poll }) ∧
    exec .di s = .next { s with psw := { s.psw with ie := false } } ∧
    exec .ei s = .next { s with psw := { s.psw with ie := true }, window := .ei } ∧
    exec .nop s = .next s ∧
    exec (.fpo1 x y z) s = .next { s with bus := .fpo1 x y (some z) :: s.bus } ∧
    exec (.fpo1Mem x y m) s = .next ({ s with bus := .fpo1 x y none :: s.bus }.afterMem .word m) ∧
    exec (.fpo2 b y z) s = .next { s with bus := .fpo2 b y (some z) :: s.bus } ∧
    exec (.fpo2Mem b y m) s = .next ({ s with bus := .fpo2 b y none :: s.bus }.afterMem .word m)
end

