-- ==== Sys2Proof/Laws/State.lean ====
section
/-! SUPPORT. One lemma for each field of the state and each named update: what the update leaves in the field. -/

namespace Sys2Proof.Machine

@[simp] theorem State.writeReg8_sp (s : State) (r : Reg) (v : Byte) : (s.writeReg8 r v).sp = s.sp := by cases r <;> rfl
@[simp] theorem State.writeReg8_bp (s : State) (r : Reg) (v : Byte) : (s.writeReg8 r v).bp = s.bp := by cases r <;> rfl
@[simp] theorem State.writeReg8_ix (s : State) (r : Reg) (v : Byte) : (s.writeReg8 r v).ix = s.ix := by cases r <;> rfl
@[simp] theorem State.writeReg8_iy (s : State) (r : Reg) (v : Byte) : (s.writeReg8 r v).iy = s.iy := by cases r <;> rfl
@[simp] theorem State.writeReg8_ps (s : State) (r : Reg) (v : Byte) : (s.writeReg8 r v).ps = s.ps := by cases r <;> rfl
@[simp] theorem State.writeReg8_ss (s : State) (r : Reg) (v : Byte) : (s.writeReg8 r v).ss = s.ss := by cases r <;> rfl
@[simp] theorem State.writeReg8_ds0 (s : State) (r : Reg) (v : Byte) : (s.writeReg8 r v).ds0 = s.ds0 := by cases r <;> rfl
@[simp] theorem State.writeReg8_ds1 (s : State) (r : Reg) (v : Byte) : (s.writeReg8 r v).ds1 = s.ds1 := by cases r <;> rfl
@[simp] theorem State.writeReg8_pc (s : State) (r : Reg) (v : Byte) : (s.writeReg8 r v).pc = s.pc := by cases r <;> rfl
@[simp] theorem State.writeReg8_psw (s : State) (r : Reg) (v : Byte) : (s.writeReg8 r v).psw = s.psw := by cases r <;> rfl
@[simp] theorem State.writeReg8_mem (s : State) (r : Reg) (v : Byte) : (s.writeReg8 r v).mem = s.mem := by cases r <;> rfl
@[simp] theorem State.writeReg8_platform (s : State) (r : Reg) (v : Byte) : (s.writeReg8 r v).platform = s.platform := by cases r <;> rfl
@[simp] theorem State.writeReg8_chip (s : State) (r : Reg) (v : Byte) : (s.writeReg8 r v).chip = s.chip := by cases r <;> rfl
@[simp] theorem State.writeReg8_wiring (s : State) (r : Reg) (v : Byte) : (s.writeReg8 r v).wiring = s.wiring := by cases r <;> rfl
@[simp] theorem State.writeReg8_pfp (s : State) (r : Reg) (v : Byte) : (s.writeReg8 r v).pfp = s.pfp := by cases r <;> rfl
@[simp] theorem State.writeReg8_queue (s : State) (r : Reg) (v : Byte) : (s.writeReg8 r v).queue = s.queue := by cases r <;> rfl
@[simp] theorem State.writeReg8_seen (s : State) (r : Reg) (v : Byte) : (s.writeReg8 r v).seen = s.seen := by cases r <;> rfl
@[simp] theorem State.writeReg8_nmiLatch (s : State) (r : Reg) (v : Byte) : (s.writeReg8 r v).nmiLatch = s.nmiLatch := by cases r <;> rfl
@[simp] theorem State.writeReg8_window (s : State) (r : Reg) (v : Byte) : (s.writeReg8 r v).window = s.window := by cases r <;> rfl
@[simp] theorem State.writeReg8_stepArmed (s : State) (r : Reg) (v : Byte) : (s.writeReg8 r v).stepArmed = s.stepArmed := by cases r <;> rfl
@[simp] theorem State.writeReg8_stepPending (s : State) (r : Reg) (v : Byte) : (s.writeReg8 r v).stepPending = s.stepPending := by cases r <;> rfl
@[simp] theorem State.writeReg8_prefixes (s : State) (r : Reg) (v : Byte) : (s.writeReg8 r v).prefixes = s.prefixes := by cases r <;> rfl
@[simp] theorem State.writeReg8_standby (s : State) (r : Reg) (v : Byte) : (s.writeReg8 r v).standby = s.standby := by cases r <;> rfl
@[simp] theorem State.writeReg8_haltLocked (s : State) (r : Reg) (v : Byte) : (s.writeReg8 r v).haltLocked = s.haltLocked := by cases r <;> rfl
@[simp] theorem State.writeReg8_mdwe (s : State) (r : Reg) (v : Byte) : (s.writeReg8 r v).mdwe = s.mdwe := by cases r <;> rfl
@[simp] theorem State.writeReg8_inProgress (s : State) (r : Reg) (v : Byte) : (s.writeReg8 r v).inProgress = s.inProgress := by cases r <;> rfl
@[simp] theorem State.writeReg8_pins (s : State) (r : Reg) (v : Byte) : (s.writeReg8 r v).pins = s.pins := by cases r <;> rfl
@[simp] theorem State.writeReg8_inputs (s : State) (r : Reg) (v : Byte) : (s.writeReg8 r v).inputs = s.inputs := by cases r <;> rfl
@[simp] theorem State.writeReg8_bus (s : State) (r : Reg) (v : Byte) : (s.writeReg8 r v).bus = s.bus := by cases r <;> rfl
@[simp] theorem State.writeReg8_fetchLog (s : State) (r : Reg) (v : Byte) : (s.writeReg8 r v).fetchLog = s.fetchLog := by cases r <;> rfl
@[simp] theorem State.writeReg8_draws (s : State) (r : Reg) (v : Byte) : (s.writeReg8 r v).draws = s.draws := by cases r <;> rfl

@[simp] theorem State.writeReg16_ps (s : State) (r : Reg) (v : Word) : (s.writeReg16 r v).ps = s.ps := by cases r <;> rfl
@[simp] theorem State.writeReg16_ss (s : State) (r : Reg) (v : Word) : (s.writeReg16 r v).ss = s.ss := by cases r <;> rfl
@[simp] theorem State.writeReg16_ds0 (s : State) (r : Reg) (v : Word) : (s.writeReg16 r v).ds0 = s.ds0 := by cases r <;> rfl
@[simp] theorem State.writeReg16_ds1 (s : State) (r : Reg) (v : Word) : (s.writeReg16 r v).ds1 = s.ds1 := by cases r <;> rfl
@[simp] theorem State.writeReg16_pc (s : State) (r : Reg) (v : Word) : (s.writeReg16 r v).pc = s.pc := by cases r <;> rfl
@[simp] theorem State.writeReg16_psw (s : State) (r : Reg) (v : Word) : (s.writeReg16 r v).psw = s.psw := by cases r <;> rfl
@[simp] theorem State.writeReg16_mem (s : State) (r : Reg) (v : Word) : (s.writeReg16 r v).mem = s.mem := by cases r <;> rfl
@[simp] theorem State.writeReg16_platform (s : State) (r : Reg) (v : Word) : (s.writeReg16 r v).platform = s.platform := by cases r <;> rfl
@[simp] theorem State.writeReg16_chip (s : State) (r : Reg) (v : Word) : (s.writeReg16 r v).chip = s.chip := by cases r <;> rfl
@[simp] theorem State.writeReg16_wiring (s : State) (r : Reg) (v : Word) : (s.writeReg16 r v).wiring = s.wiring := by cases r <;> rfl
@[simp] theorem State.writeReg16_pfp (s : State) (r : Reg) (v : Word) : (s.writeReg16 r v).pfp = s.pfp := by cases r <;> rfl
@[simp] theorem State.writeReg16_queue (s : State) (r : Reg) (v : Word) : (s.writeReg16 r v).queue = s.queue := by cases r <;> rfl
@[simp] theorem State.writeReg16_seen (s : State) (r : Reg) (v : Word) : (s.writeReg16 r v).seen = s.seen := by cases r <;> rfl
@[simp] theorem State.writeReg16_nmiLatch (s : State) (r : Reg) (v : Word) : (s.writeReg16 r v).nmiLatch = s.nmiLatch := by cases r <;> rfl
@[simp] theorem State.writeReg16_window (s : State) (r : Reg) (v : Word) : (s.writeReg16 r v).window = s.window := by cases r <;> rfl
@[simp] theorem State.writeReg16_stepArmed (s : State) (r : Reg) (v : Word) : (s.writeReg16 r v).stepArmed = s.stepArmed := by cases r <;> rfl
@[simp] theorem State.writeReg16_stepPending (s : State) (r : Reg) (v : Word) : (s.writeReg16 r v).stepPending = s.stepPending := by cases r <;> rfl
@[simp] theorem State.writeReg16_prefixes (s : State) (r : Reg) (v : Word) : (s.writeReg16 r v).prefixes = s.prefixes := by cases r <;> rfl
@[simp] theorem State.writeReg16_standby (s : State) (r : Reg) (v : Word) : (s.writeReg16 r v).standby = s.standby := by cases r <;> rfl
@[simp] theorem State.writeReg16_haltLocked (s : State) (r : Reg) (v : Word) : (s.writeReg16 r v).haltLocked = s.haltLocked := by cases r <;> rfl
@[simp] theorem State.writeReg16_mdwe (s : State) (r : Reg) (v : Word) : (s.writeReg16 r v).mdwe = s.mdwe := by cases r <;> rfl
@[simp] theorem State.writeReg16_inProgress (s : State) (r : Reg) (v : Word) : (s.writeReg16 r v).inProgress = s.inProgress := by cases r <;> rfl
@[simp] theorem State.writeReg16_pins (s : State) (r : Reg) (v : Word) : (s.writeReg16 r v).pins = s.pins := by cases r <;> rfl
@[simp] theorem State.writeReg16_inputs (s : State) (r : Reg) (v : Word) : (s.writeReg16 r v).inputs = s.inputs := by cases r <;> rfl
@[simp] theorem State.writeReg16_bus (s : State) (r : Reg) (v : Word) : (s.writeReg16 r v).bus = s.bus := by cases r <;> rfl
@[simp] theorem State.writeReg16_fetchLog (s : State) (r : Reg) (v : Word) : (s.writeReg16 r v).fetchLog = s.fetchLog := by cases r <;> rfl
@[simp] theorem State.writeReg16_draws (s : State) (r : Reg) (v : Word) : (s.writeReg16 r v).draws = s.draws := by cases r <;> rfl

@[simp] theorem State.writeReg_ps (s : State) (w : Width) (r : Reg) (v : Val w) : (s.writeReg w r v).ps = s.ps := by cases w <;> simp [State.writeReg]
@[simp] theorem State.writeReg_ss (s : State) (w : Width) (r : Reg) (v : Val w) : (s.writeReg w r v).ss = s.ss := by cases w <;> simp [State.writeReg]
@[simp] theorem State.writeReg_ds0 (s : State) (w : Width) (r : Reg) (v : Val w) : (s.writeReg w r v).ds0 = s.ds0 := by cases w <;> simp [State.writeReg]
@[simp] theorem State.writeReg_ds1 (s : State) (w : Width) (r : Reg) (v : Val w) : (s.writeReg w r v).ds1 = s.ds1 := by cases w <;> simp [State.writeReg]
@[simp] theorem State.writeReg_pc (s : State) (w : Width) (r : Reg) (v : Val w) : (s.writeReg w r v).pc = s.pc := by cases w <;> simp [State.writeReg]
@[simp] theorem State.writeReg_psw (s : State) (w : Width) (r : Reg) (v : Val w) : (s.writeReg w r v).psw = s.psw := by cases w <;> simp [State.writeReg]
@[simp] theorem State.writeReg_mem (s : State) (w : Width) (r : Reg) (v : Val w) : (s.writeReg w r v).mem = s.mem := by cases w <;> simp [State.writeReg]
@[simp] theorem State.writeReg_platform (s : State) (w : Width) (r : Reg) (v : Val w) : (s.writeReg w r v).platform = s.platform := by cases w <;> simp [State.writeReg]
@[simp] theorem State.writeReg_chip (s : State) (w : Width) (r : Reg) (v : Val w) : (s.writeReg w r v).chip = s.chip := by cases w <;> simp [State.writeReg]
@[simp] theorem State.writeReg_wiring (s : State) (w : Width) (r : Reg) (v : Val w) : (s.writeReg w r v).wiring = s.wiring := by cases w <;> simp [State.writeReg]
@[simp] theorem State.writeReg_pfp (s : State) (w : Width) (r : Reg) (v : Val w) : (s.writeReg w r v).pfp = s.pfp := by cases w <;> simp [State.writeReg]
@[simp] theorem State.writeReg_queue (s : State) (w : Width) (r : Reg) (v : Val w) : (s.writeReg w r v).queue = s.queue := by cases w <;> simp [State.writeReg]
@[simp] theorem State.writeReg_seen (s : State) (w : Width) (r : Reg) (v : Val w) : (s.writeReg w r v).seen = s.seen := by cases w <;> simp [State.writeReg]
@[simp] theorem State.writeReg_nmiLatch (s : State) (w : Width) (r : Reg) (v : Val w) : (s.writeReg w r v).nmiLatch = s.nmiLatch := by cases w <;> simp [State.writeReg]
@[simp] theorem State.writeReg_window (s : State) (w : Width) (r : Reg) (v : Val w) : (s.writeReg w r v).window = s.window := by cases w <;> simp [State.writeReg]
@[simp] theorem State.writeReg_stepArmed (s : State) (w : Width) (r : Reg) (v : Val w) : (s.writeReg w r v).stepArmed = s.stepArmed := by cases w <;> simp [State.writeReg]
@[simp] theorem State.writeReg_stepPending (s : State) (w : Width) (r : Reg) (v : Val w) : (s.writeReg w r v).stepPending = s.stepPending := by cases w <;> simp [State.writeReg]
@[simp] theorem State.writeReg_prefixes (s : State) (w : Width) (r : Reg) (v : Val w) : (s.writeReg w r v).prefixes = s.prefixes := by cases w <;> simp [State.writeReg]
@[simp] theorem State.writeReg_standby (s : State) (w : Width) (r : Reg) (v : Val w) : (s.writeReg w r v).standby = s.standby := by cases w <;> simp [State.writeReg]
@[simp] theorem State.writeReg_haltLocked (s : State) (w : Width) (r : Reg) (v : Val w) : (s.writeReg w r v).haltLocked = s.haltLocked := by cases w <;> simp [State.writeReg]
@[simp] theorem State.writeReg_mdwe (s : State) (w : Width) (r : Reg) (v : Val w) : (s.writeReg w r v).mdwe = s.mdwe := by cases w <;> simp [State.writeReg]
@[simp] theorem State.writeReg_inProgress (s : State) (w : Width) (r : Reg) (v : Val w) : (s.writeReg w r v).inProgress = s.inProgress := by cases w <;> simp [State.writeReg]
@[simp] theorem State.writeReg_pins (s : State) (w : Width) (r : Reg) (v : Val w) : (s.writeReg w r v).pins = s.pins := by cases w <;> simp [State.writeReg]
@[simp] theorem State.writeReg_inputs (s : State) (w : Width) (r : Reg) (v : Val w) : (s.writeReg w r v).inputs = s.inputs := by cases w <;> simp [State.writeReg]
@[simp] theorem State.writeReg_bus (s : State) (w : Width) (r : Reg) (v : Val w) : (s.writeReg w r v).bus = s.bus := by cases w <;> simp [State.writeReg]
@[simp] theorem State.writeReg_fetchLog (s : State) (w : Width) (r : Reg) (v : Val w) : (s.writeReg w r v).fetchLog = s.fetchLog := by cases w <;> simp [State.writeReg]
@[simp] theorem State.writeReg_draws (s : State) (w : Width) (r : Reg) (v : Val w) : (s.writeReg w r v).draws = s.draws := by cases w <;> simp [State.writeReg]

@[simp] theorem State.writeSreg_aw (s : State) (g : SReg) (v : Word) : (s.writeSreg g v).aw = s.aw := by cases g <;> rfl
@[simp] theorem State.writeSreg_bw (s : State) (g : SReg) (v : Word) : (s.writeSreg g v).bw = s.bw := by cases g <;> rfl
@[simp] theorem State.writeSreg_cw (s : State) (g : SReg) (v : Word) : (s.writeSreg g v).cw = s.cw := by cases g <;> rfl
@[simp] theorem State.writeSreg_dw (s : State) (g : SReg) (v : Word) : (s.writeSreg g v).dw = s.dw := by cases g <;> rfl
@[simp] theorem State.writeSreg_sp (s : State) (g : SReg) (v : Word) : (s.writeSreg g v).sp = s.sp := by cases g <;> rfl
@[simp] theorem State.writeSreg_bp (s : State) (g : SReg) (v : Word) : (s.writeSreg g v).bp = s.bp := by cases g <;> rfl
@[simp] theorem State.writeSreg_ix (s : State) (g : SReg) (v : Word) : (s.writeSreg g v).ix = s.ix := by cases g <;> rfl
@[simp] theorem State.writeSreg_iy (s : State) (g : SReg) (v : Word) : (s.writeSreg g v).iy = s.iy := by cases g <;> rfl
@[simp] theorem State.writeSreg_pc (s : State) (g : SReg) (v : Word) : (s.writeSreg g v).pc = s.pc := by cases g <;> rfl
@[simp] theorem State.writeSreg_psw (s : State) (g : SReg) (v : Word) : (s.writeSreg g v).psw = s.psw := by cases g <;> rfl
@[simp] theorem State.writeSreg_mem (s : State) (g : SReg) (v : Word) : (s.writeSreg g v).mem = s.mem := by cases g <;> rfl
@[simp] theorem State.writeSreg_platform (s : State) (g : SReg) (v : Word) : (s.writeSreg g v).platform = s.platform := by cases g <;> rfl
@[simp] theorem State.writeSreg_chip (s : State) (g : SReg) (v : Word) : (s.writeSreg g v).chip = s.chip := by cases g <;> rfl
@[simp] theorem State.writeSreg_wiring (s : State) (g : SReg) (v : Word) : (s.writeSreg g v).wiring = s.wiring := by cases g <;> rfl
@[simp] theorem State.writeSreg_pfp (s : State) (g : SReg) (v : Word) : (s.writeSreg g v).pfp = s.pfp := by cases g <;> rfl
@[simp] theorem State.writeSreg_queue (s : State) (g : SReg) (v : Word) : (s.writeSreg g v).queue = s.queue := by cases g <;> rfl
@[simp] theorem State.writeSreg_seen (s : State) (g : SReg) (v : Word) : (s.writeSreg g v).seen = s.seen := by cases g <;> rfl
@[simp] theorem State.writeSreg_nmiLatch (s : State) (g : SReg) (v : Word) : (s.writeSreg g v).nmiLatch = s.nmiLatch := by cases g <;> rfl
@[simp] theorem State.writeSreg_window (s : State) (g : SReg) (v : Word) : (s.writeSreg g v).window = s.window := by cases g <;> rfl
@[simp] theorem State.writeSreg_stepArmed (s : State) (g : SReg) (v : Word) : (s.writeSreg g v).stepArmed = s.stepArmed := by cases g <;> rfl
@[simp] theorem State.writeSreg_stepPending (s : State) (g : SReg) (v : Word) : (s.writeSreg g v).stepPending = s.stepPending := by cases g <;> rfl
@[simp] theorem State.writeSreg_prefixes (s : State) (g : SReg) (v : Word) : (s.writeSreg g v).prefixes = s.prefixes := by cases g <;> rfl
@[simp] theorem State.writeSreg_standby (s : State) (g : SReg) (v : Word) : (s.writeSreg g v).standby = s.standby := by cases g <;> rfl
@[simp] theorem State.writeSreg_haltLocked (s : State) (g : SReg) (v : Word) : (s.writeSreg g v).haltLocked = s.haltLocked := by cases g <;> rfl
@[simp] theorem State.writeSreg_mdwe (s : State) (g : SReg) (v : Word) : (s.writeSreg g v).mdwe = s.mdwe := by cases g <;> rfl
@[simp] theorem State.writeSreg_inProgress (s : State) (g : SReg) (v : Word) : (s.writeSreg g v).inProgress = s.inProgress := by cases g <;> rfl
@[simp] theorem State.writeSreg_pins (s : State) (g : SReg) (v : Word) : (s.writeSreg g v).pins = s.pins := by cases g <;> rfl
@[simp] theorem State.writeSreg_inputs (s : State) (g : SReg) (v : Word) : (s.writeSreg g v).inputs = s.inputs := by cases g <;> rfl
@[simp] theorem State.writeSreg_bus (s : State) (g : SReg) (v : Word) : (s.writeSreg g v).bus = s.bus := by cases g <;> rfl
@[simp] theorem State.writeSreg_fetchLog (s : State) (g : SReg) (v : Word) : (s.writeSreg g v).fetchLog = s.fetchLog := by cases g <;> rfl
@[simp] theorem State.writeSreg_draws (s : State) (g : SReg) (v : Word) : (s.writeSreg g v).draws = s.draws := by cases g <;> rfl

@[simp] theorem State.writeByte_aw (s : State) (a : Nat) (v : Byte) : (s.writeByte a v).aw = s.aw := by unfold State.writeByte; split <;> rfl
@[simp] theorem State.writeByte_bw (s : State) (a : Nat) (v : Byte) : (s.writeByte a v).bw = s.bw := by unfold State.writeByte; split <;> rfl
@[simp] theorem State.writeByte_cw (s : State) (a : Nat) (v : Byte) : (s.writeByte a v).cw = s.cw := by unfold State.writeByte; split <;> rfl
@[simp] theorem State.writeByte_dw (s : State) (a : Nat) (v : Byte) : (s.writeByte a v).dw = s.dw := by unfold State.writeByte; split <;> rfl
@[simp] theorem State.writeByte_sp (s : State) (a : Nat) (v : Byte) : (s.writeByte a v).sp = s.sp := by unfold State.writeByte; split <;> rfl
@[simp] theorem State.writeByte_bp (s : State) (a : Nat) (v : Byte) : (s.writeByte a v).bp = s.bp := by unfold State.writeByte; split <;> rfl
@[simp] theorem State.writeByte_ix (s : State) (a : Nat) (v : Byte) : (s.writeByte a v).ix = s.ix := by unfold State.writeByte; split <;> rfl
@[simp] theorem State.writeByte_iy (s : State) (a : Nat) (v : Byte) : (s.writeByte a v).iy = s.iy := by unfold State.writeByte; split <;> rfl
@[simp] theorem State.writeByte_ps (s : State) (a : Nat) (v : Byte) : (s.writeByte a v).ps = s.ps := by unfold State.writeByte; split <;> rfl
@[simp] theorem State.writeByte_ss (s : State) (a : Nat) (v : Byte) : (s.writeByte a v).ss = s.ss := by unfold State.writeByte; split <;> rfl
@[simp] theorem State.writeByte_ds0 (s : State) (a : Nat) (v : Byte) : (s.writeByte a v).ds0 = s.ds0 := by unfold State.writeByte; split <;> rfl
@[simp] theorem State.writeByte_ds1 (s : State) (a : Nat) (v : Byte) : (s.writeByte a v).ds1 = s.ds1 := by unfold State.writeByte; split <;> rfl
@[simp] theorem State.writeByte_pc (s : State) (a : Nat) (v : Byte) : (s.writeByte a v).pc = s.pc := by unfold State.writeByte; split <;> rfl
@[simp] theorem State.writeByte_psw (s : State) (a : Nat) (v : Byte) : (s.writeByte a v).psw = s.psw := by unfold State.writeByte; split <;> rfl
@[simp] theorem State.writeByte_platform (s : State) (a : Nat) (v : Byte) : (s.writeByte a v).platform = s.platform := by unfold State.writeByte; split <;> rfl
@[simp] theorem State.writeByte_chip (s : State) (a : Nat) (v : Byte) : (s.writeByte a v).chip = s.chip := by unfold State.writeByte; split <;> rfl
@[simp] theorem State.writeByte_wiring (s : State) (a : Nat) (v : Byte) : (s.writeByte a v).wiring = s.wiring := by unfold State.writeByte; split <;> rfl
@[simp] theorem State.writeByte_pfp (s : State) (a : Nat) (v : Byte) : (s.writeByte a v).pfp = s.pfp := by unfold State.writeByte; split <;> rfl
@[simp] theorem State.writeByte_queue (s : State) (a : Nat) (v : Byte) : (s.writeByte a v).queue = s.queue := by unfold State.writeByte; split <;> rfl
@[simp] theorem State.writeByte_seen (s : State) (a : Nat) (v : Byte) : (s.writeByte a v).seen = s.seen := by unfold State.writeByte; split <;> rfl
@[simp] theorem State.writeByte_nmiLatch (s : State) (a : Nat) (v : Byte) : (s.writeByte a v).nmiLatch = s.nmiLatch := by unfold State.writeByte; split <;> rfl
@[simp] theorem State.writeByte_window (s : State) (a : Nat) (v : Byte) : (s.writeByte a v).window = s.window := by unfold State.writeByte; split <;> rfl
@[simp] theorem State.writeByte_stepArmed (s : State) (a : Nat) (v : Byte) : (s.writeByte a v).stepArmed = s.stepArmed := by unfold State.writeByte; split <;> rfl
@[simp] theorem State.writeByte_stepPending (s : State) (a : Nat) (v : Byte) : (s.writeByte a v).stepPending = s.stepPending := by unfold State.writeByte; split <;> rfl
@[simp] theorem State.writeByte_prefixes (s : State) (a : Nat) (v : Byte) : (s.writeByte a v).prefixes = s.prefixes := by unfold State.writeByte; split <;> rfl
@[simp] theorem State.writeByte_standby (s : State) (a : Nat) (v : Byte) : (s.writeByte a v).standby = s.standby := by unfold State.writeByte; split <;> rfl
@[simp] theorem State.writeByte_haltLocked (s : State) (a : Nat) (v : Byte) : (s.writeByte a v).haltLocked = s.haltLocked := by unfold State.writeByte; split <;> rfl
@[simp] theorem State.writeByte_mdwe (s : State) (a : Nat) (v : Byte) : (s.writeByte a v).mdwe = s.mdwe := by unfold State.writeByte; split <;> rfl
@[simp] theorem State.writeByte_inProgress (s : State) (a : Nat) (v : Byte) : (s.writeByte a v).inProgress = s.inProgress := by unfold State.writeByte; split <;> rfl
@[simp] theorem State.writeByte_pins (s : State) (a : Nat) (v : Byte) : (s.writeByte a v).pins = s.pins := by unfold State.writeByte; split <;> rfl
@[simp] theorem State.writeByte_inputs (s : State) (a : Nat) (v : Byte) : (s.writeByte a v).inputs = s.inputs := by unfold State.writeByte; split <;> rfl
@[simp] theorem State.writeByte_bus (s : State) (a : Nat) (v : Byte) : (s.writeByte a v).bus = s.bus := by unfold State.writeByte; split <;> rfl
@[simp] theorem State.writeByte_fetchLog (s : State) (a : Nat) (v : Byte) : (s.writeByte a v).fetchLog = s.fetchLog := by unfold State.writeByte; split <;> rfl
@[simp] theorem State.writeByte_draws (s : State) (a : Nat) (v : Byte) : (s.writeByte a v).draws = s.draws := by unfold State.writeByte; split <;> rfl

@[simp] theorem State.storeBytes_aw (s : State) (w : Width) (seg off : Word) (v : Val w) : (s.storeBytes w seg off v).aw = s.aw := by cases w <;> simp [State.storeBytes]
@[simp] theorem State.storeBytes_bw (s : State) (w : Width) (seg off : Word) (v : Val w) : (s.storeBytes w seg off v).bw = s.bw := by cases w <;> simp [State.storeBytes]
@[simp] theorem State.storeBytes_cw (s : State) (w : Width) (seg off : Word) (v : Val w) : (s.storeBytes w seg off v).cw = s.cw := by cases w <;> simp [State.storeBytes]
@[simp] theorem State.storeBytes_dw (s : State) (w : Width) (seg off : Word) (v : Val w) : (s.storeBytes w seg off v).dw = s.dw := by cases w <;> simp [State.storeBytes]
@[simp] theorem State.storeBytes_sp (s : State) (w : Width) (seg off : Word) (v : Val w) : (s.storeBytes w seg off v).sp = s.sp := by cases w <;> simp [State.storeBytes]
@[simp] theorem State.storeBytes_bp (s : State) (w : Width) (seg off : Word) (v : Val w) : (s.storeBytes w seg off v).bp = s.bp := by cases w <;> simp [State.storeBytes]
@[simp] theorem State.storeBytes_ix (s : State) (w : Width) (seg off : Word) (v : Val w) : (s.storeBytes w seg off v).ix = s.ix := by cases w <;> simp [State.storeBytes]
@[simp] theorem State.storeBytes_iy (s : State) (w : Width) (seg off : Word) (v : Val w) : (s.storeBytes w seg off v).iy = s.iy := by cases w <;> simp [State.storeBytes]
@[simp] theorem State.storeBytes_ps (s : State) (w : Width) (seg off : Word) (v : Val w) : (s.storeBytes w seg off v).ps = s.ps := by cases w <;> simp [State.storeBytes]
@[simp] theorem State.storeBytes_ss (s : State) (w : Width) (seg off : Word) (v : Val w) : (s.storeBytes w seg off v).ss = s.ss := by cases w <;> simp [State.storeBytes]
@[simp] theorem State.storeBytes_ds0 (s : State) (w : Width) (seg off : Word) (v : Val w) : (s.storeBytes w seg off v).ds0 = s.ds0 := by cases w <;> simp [State.storeBytes]
@[simp] theorem State.storeBytes_ds1 (s : State) (w : Width) (seg off : Word) (v : Val w) : (s.storeBytes w seg off v).ds1 = s.ds1 := by cases w <;> simp [State.storeBytes]
@[simp] theorem State.storeBytes_pc (s : State) (w : Width) (seg off : Word) (v : Val w) : (s.storeBytes w seg off v).pc = s.pc := by cases w <;> simp [State.storeBytes]
@[simp] theorem State.storeBytes_psw (s : State) (w : Width) (seg off : Word) (v : Val w) : (s.storeBytes w seg off v).psw = s.psw := by cases w <;> simp [State.storeBytes]
@[simp] theorem State.storeBytes_platform (s : State) (w : Width) (seg off : Word) (v : Val w) : (s.storeBytes w seg off v).platform = s.platform := by cases w <;> simp [State.storeBytes]
@[simp] theorem State.storeBytes_chip (s : State) (w : Width) (seg off : Word) (v : Val w) : (s.storeBytes w seg off v).chip = s.chip := by cases w <;> simp [State.storeBytes]
@[simp] theorem State.storeBytes_wiring (s : State) (w : Width) (seg off : Word) (v : Val w) : (s.storeBytes w seg off v).wiring = s.wiring := by cases w <;> simp [State.storeBytes]
@[simp] theorem State.storeBytes_pfp (s : State) (w : Width) (seg off : Word) (v : Val w) : (s.storeBytes w seg off v).pfp = s.pfp := by cases w <;> simp [State.storeBytes]
@[simp] theorem State.storeBytes_queue (s : State) (w : Width) (seg off : Word) (v : Val w) : (s.storeBytes w seg off v).queue = s.queue := by cases w <;> simp [State.storeBytes]
@[simp] theorem State.storeBytes_seen (s : State) (w : Width) (seg off : Word) (v : Val w) : (s.storeBytes w seg off v).seen = s.seen := by cases w <;> simp [State.storeBytes]
@[simp] theorem State.storeBytes_nmiLatch (s : State) (w : Width) (seg off : Word) (v : Val w) : (s.storeBytes w seg off v).nmiLatch = s.nmiLatch := by cases w <;> simp [State.storeBytes]
@[simp] theorem State.storeBytes_window (s : State) (w : Width) (seg off : Word) (v : Val w) : (s.storeBytes w seg off v).window = s.window := by cases w <;> simp [State.storeBytes]
@[simp] theorem State.storeBytes_stepArmed (s : State) (w : Width) (seg off : Word) (v : Val w) : (s.storeBytes w seg off v).stepArmed = s.stepArmed := by cases w <;> simp [State.storeBytes]
@[simp] theorem State.storeBytes_stepPending (s : State) (w : Width) (seg off : Word) (v : Val w) : (s.storeBytes w seg off v).stepPending = s.stepPending := by cases w <;> simp [State.storeBytes]
@[simp] theorem State.storeBytes_prefixes (s : State) (w : Width) (seg off : Word) (v : Val w) : (s.storeBytes w seg off v).prefixes = s.prefixes := by cases w <;> simp [State.storeBytes]
@[simp] theorem State.storeBytes_standby (s : State) (w : Width) (seg off : Word) (v : Val w) : (s.storeBytes w seg off v).standby = s.standby := by cases w <;> simp [State.storeBytes]
@[simp] theorem State.storeBytes_haltLocked (s : State) (w : Width) (seg off : Word) (v : Val w) : (s.storeBytes w seg off v).haltLocked = s.haltLocked := by cases w <;> simp [State.storeBytes]
@[simp] theorem State.storeBytes_mdwe (s : State) (w : Width) (seg off : Word) (v : Val w) : (s.storeBytes w seg off v).mdwe = s.mdwe := by cases w <;> simp [State.storeBytes]
@[simp] theorem State.storeBytes_inProgress (s : State) (w : Width) (seg off : Word) (v : Val w) : (s.storeBytes w seg off v).inProgress = s.inProgress := by cases w <;> simp [State.storeBytes]
@[simp] theorem State.storeBytes_pins (s : State) (w : Width) (seg off : Word) (v : Val w) : (s.storeBytes w seg off v).pins = s.pins := by cases w <;> simp [State.storeBytes]
@[simp] theorem State.storeBytes_inputs (s : State) (w : Width) (seg off : Word) (v : Val w) : (s.storeBytes w seg off v).inputs = s.inputs := by cases w <;> simp [State.storeBytes]
@[simp] theorem State.storeBytes_bus (s : State) (w : Width) (seg off : Word) (v : Val w) : (s.storeBytes w seg off v).bus = s.bus := by cases w <;> simp [State.storeBytes]
@[simp] theorem State.storeBytes_fetchLog (s : State) (w : Width) (seg off : Word) (v : Val w) : (s.storeBytes w seg off v).fetchLog = s.fetchLog := by cases w <;> simp [State.storeBytes]
@[simp] theorem State.storeBytes_draws (s : State) (w : Width) (seg off : Word) (v : Val w) : (s.storeBytes w seg off v).draws = s.draws := by cases w <;> simp [State.storeBytes]

@[simp] theorem State.recordCycles_aw (s : State) (cs : List BusCycle) : (s.recordCycles cs).aw = s.aw := rfl
@[simp] theorem State.recordCycles_bw (s : State) (cs : List BusCycle) : (s.recordCycles cs).bw = s.bw := rfl
@[simp] theorem State.recordCycles_cw (s : State) (cs : List BusCycle) : (s.recordCycles cs).cw = s.cw := rfl
@[simp] theorem State.recordCycles_dw (s : State) (cs : List BusCycle) : (s.recordCycles cs).dw = s.dw := rfl
@[simp] theorem State.recordCycles_sp (s : State) (cs : List BusCycle) : (s.recordCycles cs).sp = s.sp := rfl
@[simp] theorem State.recordCycles_bp (s : State) (cs : List BusCycle) : (s.recordCycles cs).bp = s.bp := rfl
@[simp] theorem State.recordCycles_ix (s : State) (cs : List BusCycle) : (s.recordCycles cs).ix = s.ix := rfl
@[simp] theorem State.recordCycles_iy (s : State) (cs : List BusCycle) : (s.recordCycles cs).iy = s.iy := rfl
@[simp] theorem State.recordCycles_ps (s : State) (cs : List BusCycle) : (s.recordCycles cs).ps = s.ps := rfl
@[simp] theorem State.recordCycles_ss (s : State) (cs : List BusCycle) : (s.recordCycles cs).ss = s.ss := rfl
@[simp] theorem State.recordCycles_ds0 (s : State) (cs : List BusCycle) : (s.recordCycles cs).ds0 = s.ds0 := rfl
@[simp] theorem State.recordCycles_ds1 (s : State) (cs : List BusCycle) : (s.recordCycles cs).ds1 = s.ds1 := rfl
@[simp] theorem State.recordCycles_pc (s : State) (cs : List BusCycle) : (s.recordCycles cs).pc = s.pc := rfl
@[simp] theorem State.recordCycles_psw (s : State) (cs : List BusCycle) : (s.recordCycles cs).psw = s.psw := rfl
@[simp] theorem State.recordCycles_mem (s : State) (cs : List BusCycle) : (s.recordCycles cs).mem = s.mem := rfl
@[simp] theorem State.recordCycles_platform (s : State) (cs : List BusCycle) : (s.recordCycles cs).platform = s.platform := rfl
@[simp] theorem State.recordCycles_chip (s : State) (cs : List BusCycle) : (s.recordCycles cs).chip = s.chip := rfl
@[simp] theorem State.recordCycles_wiring (s : State) (cs : List BusCycle) : (s.recordCycles cs).wiring = s.wiring := rfl
@[simp] theorem State.recordCycles_pfp (s : State) (cs : List BusCycle) : (s.recordCycles cs).pfp = s.pfp := rfl
@[simp] theorem State.recordCycles_queue (s : State) (cs : List BusCycle) : (s.recordCycles cs).queue = s.queue := rfl
@[simp] theorem State.recordCycles_seen (s : State) (cs : List BusCycle) : (s.recordCycles cs).seen = s.seen := rfl
@[simp] theorem State.recordCycles_nmiLatch (s : State) (cs : List BusCycle) : (s.recordCycles cs).nmiLatch = s.nmiLatch := rfl
@[simp] theorem State.recordCycles_window (s : State) (cs : List BusCycle) : (s.recordCycles cs).window = s.window := rfl
@[simp] theorem State.recordCycles_stepArmed (s : State) (cs : List BusCycle) : (s.recordCycles cs).stepArmed = s.stepArmed := rfl
@[simp] theorem State.recordCycles_stepPending (s : State) (cs : List BusCycle) : (s.recordCycles cs).stepPending = s.stepPending := rfl
@[simp] theorem State.recordCycles_prefixes (s : State) (cs : List BusCycle) : (s.recordCycles cs).prefixes = s.prefixes := rfl
@[simp] theorem State.recordCycles_standby (s : State) (cs : List BusCycle) : (s.recordCycles cs).standby = s.standby := rfl
@[simp] theorem State.recordCycles_haltLocked (s : State) (cs : List BusCycle) : (s.recordCycles cs).haltLocked = s.haltLocked := rfl
@[simp] theorem State.recordCycles_mdwe (s : State) (cs : List BusCycle) : (s.recordCycles cs).mdwe = s.mdwe := rfl
@[simp] theorem State.recordCycles_inProgress (s : State) (cs : List BusCycle) : (s.recordCycles cs).inProgress = s.inProgress := rfl
@[simp] theorem State.recordCycles_pins (s : State) (cs : List BusCycle) : (s.recordCycles cs).pins = s.pins := rfl
@[simp] theorem State.recordCycles_inputs (s : State) (cs : List BusCycle) : (s.recordCycles cs).inputs = s.inputs := rfl
@[simp] theorem State.recordCycles_bus (s : State) (cs : List BusCycle) : (s.recordCycles cs).bus = ((cs).map BusEvent.cycle).reverse ++ s.bus := rfl
@[simp] theorem State.recordCycles_fetchLog (s : State) (cs : List BusCycle) : (s.recordCycles cs).fetchLog = s.fetchLog := rfl
@[simp] theorem State.recordCycles_draws (s : State) (cs : List BusCycle) : (s.recordCycles cs).draws = s.draws := rfl

@[simp] theorem State.afterLoad_aw (s : State) (w : Width) (g : SReg) (off : Word) : (s.afterLoad w g off).aw = s.aw := rfl
@[simp] theorem State.afterLoad_bw (s : State) (w : Width) (g : SReg) (off : Word) : (s.afterLoad w g off).bw = s.bw := rfl
@[simp] theorem State.afterLoad_cw (s : State) (w : Width) (g : SReg) (off : Word) : (s.afterLoad w g off).cw = s.cw := rfl
@[simp] theorem State.afterLoad_dw (s : State) (w : Width) (g : SReg) (off : Word) : (s.afterLoad w g off).dw = s.dw := rfl
@[simp] theorem State.afterLoad_sp (s : State) (w : Width) (g : SReg) (off : Word) : (s.afterLoad w g off).sp = s.sp := rfl
@[simp] theorem State.afterLoad_bp (s : State) (w : Width) (g : SReg) (off : Word) : (s.afterLoad w g off).bp = s.bp := rfl
@[simp] theorem State.afterLoad_ix (s : State) (w : Width) (g : SReg) (off : Word) : (s.afterLoad w g off).ix = s.ix := rfl
@[simp] theorem State.afterLoad_iy (s : State) (w : Width) (g : SReg) (off : Word) : (s.afterLoad w g off).iy = s.iy := rfl
@[simp] theorem State.afterLoad_ps (s : State) (w : Width) (g : SReg) (off : Word) : (s.afterLoad w g off).ps = s.ps := rfl
@[simp] theorem State.afterLoad_ss (s : State) (w : Width) (g : SReg) (off : Word) : (s.afterLoad w g off).ss = s.ss := rfl
@[simp] theorem State.afterLoad_ds0 (s : State) (w : Width) (g : SReg) (off : Word) : (s.afterLoad w g off).ds0 = s.ds0 := rfl
@[simp] theorem State.afterLoad_ds1 (s : State) (w : Width) (g : SReg) (off : Word) : (s.afterLoad w g off).ds1 = s.ds1 := rfl
@[simp] theorem State.afterLoad_pc (s : State) (w : Width) (g : SReg) (off : Word) : (s.afterLoad w g off).pc = s.pc := rfl
@[simp] theorem State.afterLoad_psw (s : State) (w : Width) (g : SReg) (off : Word) : (s.afterLoad w g off).psw = s.psw := rfl
@[simp] theorem State.afterLoad_mem (s : State) (w : Width) (g : SReg) (off : Word) : (s.afterLoad w g off).mem = s.mem := rfl
@[simp] theorem State.afterLoad_platform (s : State) (w : Width) (g : SReg) (off : Word) : (s.afterLoad w g off).platform = s.platform := rfl
@[simp] theorem State.afterLoad_chip (s : State) (w : Width) (g : SReg) (off : Word) : (s.afterLoad w g off).chip = s.chip := rfl
@[simp] theorem State.afterLoad_wiring (s : State) (w : Width) (g : SReg) (off : Word) : (s.afterLoad w g off).wiring = s.wiring := rfl
@[simp] theorem State.afterLoad_pfp (s : State) (w : Width) (g : SReg) (off : Word) : (s.afterLoad w g off).pfp = s.pfp := rfl
@[simp] theorem State.afterLoad_queue (s : State) (w : Width) (g : SReg) (off : Word) : (s.afterLoad w g off).queue = s.queue := rfl
@[simp] theorem State.afterLoad_seen (s : State) (w : Width) (g : SReg) (off : Word) : (s.afterLoad w g off).seen = s.seen := rfl
@[simp] theorem State.afterLoad_nmiLatch (s : State) (w : Width) (g : SReg) (off : Word) : (s.afterLoad w g off).nmiLatch = s.nmiLatch := rfl
@[simp] theorem State.afterLoad_window (s : State) (w : Width) (g : SReg) (off : Word) : (s.afterLoad w g off).window = s.window := rfl
@[simp] theorem State.afterLoad_stepArmed (s : State) (w : Width) (g : SReg) (off : Word) : (s.afterLoad w g off).stepArmed = s.stepArmed := rfl
@[simp] theorem State.afterLoad_stepPending (s : State) (w : Width) (g : SReg) (off : Word) : (s.afterLoad w g off).stepPending = s.stepPending := rfl
@[simp] theorem State.afterLoad_prefixes (s : State) (w : Width) (g : SReg) (off : Word) : (s.afterLoad w g off).prefixes = s.prefixes := rfl
@[simp] theorem State.afterLoad_standby (s : State) (w : Width) (g : SReg) (off : Word) : (s.afterLoad w g off).standby = s.standby := rfl
@[simp] theorem State.afterLoad_haltLocked (s : State) (w : Width) (g : SReg) (off : Word) : (s.afterLoad w g off).haltLocked = s.haltLocked := rfl
@[simp] theorem State.afterLoad_mdwe (s : State) (w : Width) (g : SReg) (off : Word) : (s.afterLoad w g off).mdwe = s.mdwe := rfl
@[simp] theorem State.afterLoad_inProgress (s : State) (w : Width) (g : SReg) (off : Word) : (s.afterLoad w g off).inProgress = s.inProgress := rfl
@[simp] theorem State.afterLoad_pins (s : State) (w : Width) (g : SReg) (off : Word) : (s.afterLoad w g off).pins = s.pins := rfl
@[simp] theorem State.afterLoad_inputs (s : State) (w : Width) (g : SReg) (off : Word) : (s.afterLoad w g off).inputs = s.inputs := rfl
@[simp] theorem State.afterLoad_bus (s : State) (w : Width) (g : SReg) (off : Word) : (s.afterLoad w g off).bus = ((s.readCycles w g off).map BusEvent.cycle).reverse ++ s.bus := rfl
@[simp] theorem State.afterLoad_fetchLog (s : State) (w : Width) (g : SReg) (off : Word) : (s.afterLoad w g off).fetchLog = s.fetchLog := rfl
@[simp] theorem State.afterLoad_draws (s : State) (w : Width) (g : SReg) (off : Word) : (s.afterLoad w g off).draws = s.draws := rfl

@[simp] theorem State.afterMem_aw (s : State) (w : Width) (m : MemOp) : (s.afterMem w m).aw = s.aw := rfl
@[simp] theorem State.afterMem_bw (s : State) (w : Width) (m : MemOp) : (s.afterMem w m).bw = s.bw := rfl
@[simp] theorem State.afterMem_cw (s : State) (w : Width) (m : MemOp) : (s.afterMem w m).cw = s.cw := rfl
@[simp] theorem State.afterMem_dw (s : State) (w : Width) (m : MemOp) : (s.afterMem w m).dw = s.dw := rfl
@[simp] theorem State.afterMem_sp (s : State) (w : Width) (m : MemOp) : (s.afterMem w m).sp = s.sp := rfl
@[simp] theorem State.afterMem_bp (s : State) (w : Width) (m : MemOp) : (s.afterMem w m).bp = s.bp := rfl
@[simp] theorem State.afterMem_ix (s : State) (w : Width) (m : MemOp) : (s.afterMem w m).ix = s.ix := rfl
@[simp] theorem State.afterMem_iy (s : State) (w : Width) (m : MemOp) : (s.afterMem w m).iy = s.iy := rfl
@[simp] theorem State.afterMem_ps (s : State) (w : Width) (m : MemOp) : (s.afterMem w m).ps = s.ps := rfl
@[simp] theorem State.afterMem_ss (s : State) (w : Width) (m : MemOp) : (s.afterMem w m).ss = s.ss := rfl
@[simp] theorem State.afterMem_ds0 (s : State) (w : Width) (m : MemOp) : (s.afterMem w m).ds0 = s.ds0 := rfl
@[simp] theorem State.afterMem_ds1 (s : State) (w : Width) (m : MemOp) : (s.afterMem w m).ds1 = s.ds1 := rfl
@[simp] theorem State.afterMem_pc (s : State) (w : Width) (m : MemOp) : (s.afterMem w m).pc = s.pc := rfl
@[simp] theorem State.afterMem_psw (s : State) (w : Width) (m : MemOp) : (s.afterMem w m).psw = s.psw := rfl
@[simp] theorem State.afterMem_mem (s : State) (w : Width) (m : MemOp) : (s.afterMem w m).mem = s.mem := rfl
@[simp] theorem State.afterMem_platform (s : State) (w : Width) (m : MemOp) : (s.afterMem w m).platform = s.platform := rfl
@[simp] theorem State.afterMem_chip (s : State) (w : Width) (m : MemOp) : (s.afterMem w m).chip = s.chip := rfl
@[simp] theorem State.afterMem_wiring (s : State) (w : Width) (m : MemOp) : (s.afterMem w m).wiring = s.wiring := rfl
@[simp] theorem State.afterMem_pfp (s : State) (w : Width) (m : MemOp) : (s.afterMem w m).pfp = s.pfp := rfl
@[simp] theorem State.afterMem_queue (s : State) (w : Width) (m : MemOp) : (s.afterMem w m).queue = s.queue := rfl
@[simp] theorem State.afterMem_seen (s : State) (w : Width) (m : MemOp) : (s.afterMem w m).seen = s.seen := rfl
@[simp] theorem State.afterMem_nmiLatch (s : State) (w : Width) (m : MemOp) : (s.afterMem w m).nmiLatch = s.nmiLatch := rfl
@[simp] theorem State.afterMem_window (s : State) (w : Width) (m : MemOp) : (s.afterMem w m).window = s.window := rfl
@[simp] theorem State.afterMem_stepArmed (s : State) (w : Width) (m : MemOp) : (s.afterMem w m).stepArmed = s.stepArmed := rfl
@[simp] theorem State.afterMem_stepPending (s : State) (w : Width) (m : MemOp) : (s.afterMem w m).stepPending = s.stepPending := rfl
@[simp] theorem State.afterMem_prefixes (s : State) (w : Width) (m : MemOp) : (s.afterMem w m).prefixes = s.prefixes := rfl
@[simp] theorem State.afterMem_standby (s : State) (w : Width) (m : MemOp) : (s.afterMem w m).standby = s.standby := rfl
@[simp] theorem State.afterMem_haltLocked (s : State) (w : Width) (m : MemOp) : (s.afterMem w m).haltLocked = s.haltLocked := rfl
@[simp] theorem State.afterMem_mdwe (s : State) (w : Width) (m : MemOp) : (s.afterMem w m).mdwe = s.mdwe := rfl
@[simp] theorem State.afterMem_inProgress (s : State) (w : Width) (m : MemOp) : (s.afterMem w m).inProgress = s.inProgress := rfl
@[simp] theorem State.afterMem_pins (s : State) (w : Width) (m : MemOp) : (s.afterMem w m).pins = s.pins := rfl
@[simp] theorem State.afterMem_inputs (s : State) (w : Width) (m : MemOp) : (s.afterMem w m).inputs = s.inputs := rfl
@[simp] theorem State.afterMem_bus (s : State) (w : Width) (m : MemOp) : (s.afterMem w m).bus = ((s.readCycles w (s.memSreg m) (s.ea m)).map BusEvent.cycle).reverse ++ s.bus := rfl
@[simp] theorem State.afterMem_fetchLog (s : State) (w : Width) (m : MemOp) : (s.afterMem w m).fetchLog = s.fetchLog := rfl
@[simp] theorem State.afterMem_draws (s : State) (w : Width) (m : MemOp) : (s.afterMem w m).draws = s.draws := rfl

@[simp] theorem State.afterPtr_aw (s : State) (m : MemOp) : (s.afterPtr m).aw = s.aw := rfl
@[simp] theorem State.afterPtr_bw (s : State) (m : MemOp) : (s.afterPtr m).bw = s.bw := rfl
@[simp] theorem State.afterPtr_cw (s : State) (m : MemOp) : (s.afterPtr m).cw = s.cw := rfl
@[simp] theorem State.afterPtr_dw (s : State) (m : MemOp) : (s.afterPtr m).dw = s.dw := rfl
@[simp] theorem State.afterPtr_sp (s : State) (m : MemOp) : (s.afterPtr m).sp = s.sp := rfl
@[simp] theorem State.afterPtr_bp (s : State) (m : MemOp) : (s.afterPtr m).bp = s.bp := rfl
@[simp] theorem State.afterPtr_ix (s : State) (m : MemOp) : (s.afterPtr m).ix = s.ix := rfl
@[simp] theorem State.afterPtr_iy (s : State) (m : MemOp) : (s.afterPtr m).iy = s.iy := rfl
@[simp] theorem State.afterPtr_ps (s : State) (m : MemOp) : (s.afterPtr m).ps = s.ps := rfl
@[simp] theorem State.afterPtr_ss (s : State) (m : MemOp) : (s.afterPtr m).ss = s.ss := rfl
@[simp] theorem State.afterPtr_ds0 (s : State) (m : MemOp) : (s.afterPtr m).ds0 = s.ds0 := rfl
@[simp] theorem State.afterPtr_ds1 (s : State) (m : MemOp) : (s.afterPtr m).ds1 = s.ds1 := rfl
@[simp] theorem State.afterPtr_pc (s : State) (m : MemOp) : (s.afterPtr m).pc = s.pc := rfl
@[simp] theorem State.afterPtr_psw (s : State) (m : MemOp) : (s.afterPtr m).psw = s.psw := rfl
@[simp] theorem State.afterPtr_mem (s : State) (m : MemOp) : (s.afterPtr m).mem = s.mem := rfl
@[simp] theorem State.afterPtr_platform (s : State) (m : MemOp) : (s.afterPtr m).platform = s.platform := rfl
@[simp] theorem State.afterPtr_chip (s : State) (m : MemOp) : (s.afterPtr m).chip = s.chip := rfl
@[simp] theorem State.afterPtr_wiring (s : State) (m : MemOp) : (s.afterPtr m).wiring = s.wiring := rfl
@[simp] theorem State.afterPtr_pfp (s : State) (m : MemOp) : (s.afterPtr m).pfp = s.pfp := rfl
@[simp] theorem State.afterPtr_queue (s : State) (m : MemOp) : (s.afterPtr m).queue = s.queue := rfl
@[simp] theorem State.afterPtr_seen (s : State) (m : MemOp) : (s.afterPtr m).seen = s.seen := rfl
@[simp] theorem State.afterPtr_nmiLatch (s : State) (m : MemOp) : (s.afterPtr m).nmiLatch = s.nmiLatch := rfl
@[simp] theorem State.afterPtr_window (s : State) (m : MemOp) : (s.afterPtr m).window = s.window := rfl
@[simp] theorem State.afterPtr_stepArmed (s : State) (m : MemOp) : (s.afterPtr m).stepArmed = s.stepArmed := rfl
@[simp] theorem State.afterPtr_stepPending (s : State) (m : MemOp) : (s.afterPtr m).stepPending = s.stepPending := rfl
@[simp] theorem State.afterPtr_prefixes (s : State) (m : MemOp) : (s.afterPtr m).prefixes = s.prefixes := rfl
@[simp] theorem State.afterPtr_standby (s : State) (m : MemOp) : (s.afterPtr m).standby = s.standby := rfl
@[simp] theorem State.afterPtr_haltLocked (s : State) (m : MemOp) : (s.afterPtr m).haltLocked = s.haltLocked := rfl
@[simp] theorem State.afterPtr_mdwe (s : State) (m : MemOp) : (s.afterPtr m).mdwe = s.mdwe := rfl
@[simp] theorem State.afterPtr_inProgress (s : State) (m : MemOp) : (s.afterPtr m).inProgress = s.inProgress := rfl
@[simp] theorem State.afterPtr_pins (s : State) (m : MemOp) : (s.afterPtr m).pins = s.pins := rfl
@[simp] theorem State.afterPtr_inputs (s : State) (m : MemOp) : (s.afterPtr m).inputs = s.inputs := rfl
@[simp] theorem State.afterPtr_fetchLog (s : State) (m : MemOp) : (s.afterPtr m).fetchLog = s.fetchLog := rfl
@[simp] theorem State.afterPtr_draws (s : State) (m : MemOp) : (s.afterPtr m).draws = s.draws := rfl

@[simp] theorem State.afterOperand_aw (s : State) (w : Width) (o : Operand) : (s.afterOperand w o).aw = s.aw := by cases o <;> rfl
@[simp] theorem State.afterOperand_bw (s : State) (w : Width) (o : Operand) : (s.afterOperand w o).bw = s.bw := by cases o <;> rfl
@[simp] theorem State.afterOperand_cw (s : State) (w : Width) (o : Operand) : (s.afterOperand w o).cw = s.cw := by cases o <;> rfl
@[simp] theorem State.afterOperand_dw (s : State) (w : Width) (o : Operand) : (s.afterOperand w o).dw = s.dw := by cases o <;> rfl
@[simp] theorem State.afterOperand_sp (s : State) (w : Width) (o : Operand) : (s.afterOperand w o).sp = s.sp := by cases o <;> rfl
@[simp] theorem State.afterOperand_bp (s : State) (w : Width) (o : Operand) : (s.afterOperand w o).bp = s.bp := by cases o <;> rfl
@[simp] theorem State.afterOperand_ix (s : State) (w : Width) (o : Operand) : (s.afterOperand w o).ix = s.ix := by cases o <;> rfl
@[simp] theorem State.afterOperand_iy (s : State) (w : Width) (o : Operand) : (s.afterOperand w o).iy = s.iy := by cases o <;> rfl
@[simp] theorem State.afterOperand_ps (s : State) (w : Width) (o : Operand) : (s.afterOperand w o).ps = s.ps := by cases o <;> rfl
@[simp] theorem State.afterOperand_ss (s : State) (w : Width) (o : Operand) : (s.afterOperand w o).ss = s.ss := by cases o <;> rfl
@[simp] theorem State.afterOperand_ds0 (s : State) (w : Width) (o : Operand) : (s.afterOperand w o).ds0 = s.ds0 := by cases o <;> rfl
@[simp] theorem State.afterOperand_ds1 (s : State) (w : Width) (o : Operand) : (s.afterOperand w o).ds1 = s.ds1 := by cases o <;> rfl
@[simp] theorem State.afterOperand_pc (s : State) (w : Width) (o : Operand) : (s.afterOperand w o).pc = s.pc := by cases o <;> rfl
@[simp] theorem State.afterOperand_psw (s : State) (w : Width) (o : Operand) : (s.afterOperand w o).psw = s.psw := by cases o <;> rfl
@[simp] theorem State.afterOperand_mem (s : State) (w : Width) (o : Operand) : (s.afterOperand w o).mem = s.mem := by cases o <;> rfl
@[simp] theorem State.afterOperand_platform (s : State) (w : Width) (o : Operand) : (s.afterOperand w o).platform = s.platform := by cases o <;> rfl
@[simp] theorem State.afterOperand_chip (s : State) (w : Width) (o : Operand) : (s.afterOperand w o).chip = s.chip := by cases o <;> rfl
@[simp] theorem State.afterOperand_wiring (s : State) (w : Width) (o : Operand) : (s.afterOperand w o).wiring = s.wiring := by cases o <;> rfl
@[simp] theorem State.afterOperand_pfp (s : State) (w : Width) (o : Operand) : (s.afterOperand w o).pfp = s.pfp := by cases o <;> rfl
@[simp] theorem State.afterOperand_queue (s : State) (w : Width) (o : Operand) : (s.afterOperand w o).queue = s.queue := by cases o <;> rfl
@[simp] theorem State.afterOperand_seen (s : State) (w : Width) (o : Operand) : (s.afterOperand w o).seen = s.seen := by cases o <;> rfl
@[simp] theorem State.afterOperand_nmiLatch (s : State) (w : Width) (o : Operand) : (s.afterOperand w o).nmiLatch = s.nmiLatch := by cases o <;> rfl
@[simp] theorem State.afterOperand_window (s : State) (w : Width) (o : Operand) : (s.afterOperand w o).window = s.window := by cases o <;> rfl
@[simp] theorem State.afterOperand_stepArmed (s : State) (w : Width) (o : Operand) : (s.afterOperand w o).stepArmed = s.stepArmed := by cases o <;> rfl
@[simp] theorem State.afterOperand_stepPending (s : State) (w : Width) (o : Operand) : (s.afterOperand w o).stepPending = s.stepPending := by cases o <;> rfl
@[simp] theorem State.afterOperand_prefixes (s : State) (w : Width) (o : Operand) : (s.afterOperand w o).prefixes = s.prefixes := by cases o <;> rfl
@[simp] theorem State.afterOperand_standby (s : State) (w : Width) (o : Operand) : (s.afterOperand w o).standby = s.standby := by cases o <;> rfl
@[simp] theorem State.afterOperand_haltLocked (s : State) (w : Width) (o : Operand) : (s.afterOperand w o).haltLocked = s.haltLocked := by cases o <;> rfl
@[simp] theorem State.afterOperand_mdwe (s : State) (w : Width) (o : Operand) : (s.afterOperand w o).mdwe = s.mdwe := by cases o <;> rfl
@[simp] theorem State.afterOperand_inProgress (s : State) (w : Width) (o : Operand) : (s.afterOperand w o).inProgress = s.inProgress := by cases o <;> rfl
@[simp] theorem State.afterOperand_pins (s : State) (w : Width) (o : Operand) : (s.afterOperand w o).pins = s.pins := by cases o <;> rfl
@[simp] theorem State.afterOperand_inputs (s : State) (w : Width) (o : Operand) : (s.afterOperand w o).inputs = s.inputs := by cases o <;> rfl
@[simp] theorem State.afterOperand_fetchLog (s : State) (w : Width) (o : Operand) : (s.afterOperand w o).fetchLog = s.fetchLog := by cases o <;> rfl
@[simp] theorem State.afterOperand_draws (s : State) (w : Width) (o : Operand) : (s.afterOperand w o).draws = s.draws := by cases o <;> rfl

@[simp] theorem State.afterSource_aw (s : State) (w : Width) : (s.afterSource w).aw = s.aw := rfl
@[simp] theorem State.afterSource_bw (s : State) (w : Width) : (s.afterSource w).bw = s.bw := rfl
@[simp] theorem State.afterSource_cw (s : State) (w : Width) : (s.afterSource w).cw = s.cw := rfl
@[simp] theorem State.afterSource_dw (s : State) (w : Width) : (s.afterSource w).dw = s.dw := rfl
@[simp] theorem State.afterSource_sp (s : State) (w : Width) : (s.afterSource w).sp = s.sp := rfl
@[simp] theorem State.afterSource_bp (s : State) (w : Width) : (s.afterSource w).bp = s.bp := rfl
@[simp] theorem State.afterSource_ix (s : State) (w : Width) : (s.afterSource w).ix = s.ix := rfl
@[simp] theorem State.afterSource_iy (s : State) (w : Width) : (s.afterSource w).iy = s.iy := rfl
@[simp] theorem State.afterSource_ps (s : State) (w : Width) : (s.afterSource w).ps = s.ps := rfl
@[simp] theorem State.afterSource_ss (s : State) (w : Width) : (s.afterSource w).ss = s.ss := rfl
@[simp] theorem State.afterSource_ds0 (s : State) (w : Width) : (s.afterSource w).ds0 = s.ds0 := rfl
@[simp] theorem State.afterSource_ds1 (s : State) (w : Width) : (s.afterSource w).ds1 = s.ds1 := rfl
@[simp] theorem State.afterSource_pc (s : State) (w : Width) : (s.afterSource w).pc = s.pc := rfl
@[simp] theorem State.afterSource_psw (s : State) (w : Width) : (s.afterSource w).psw = s.psw := rfl
@[simp] theorem State.afterSource_mem (s : State) (w : Width) : (s.afterSource w).mem = s.mem := rfl
@[simp] theorem State.afterSource_platform (s : State) (w : Width) : (s.afterSource w).platform = s.platform := rfl
@[simp] theorem State.afterSource_chip (s : State) (w : Width) : (s.afterSource w).chip = s.chip := rfl
@[simp] theorem State.afterSource_wiring (s : State) (w : Width) : (s.afterSource w).wiring = s.wiring := rfl
@[simp] theorem State.afterSource_pfp (s : State) (w : Width) : (s.afterSource w).pfp = s.pfp := rfl
@[simp] theorem State.afterSource_queue (s : State) (w : Width) : (s.afterSource w).queue = s.queue := rfl
@[simp] theorem State.afterSource_seen (s : State) (w : Width) : (s.afterSource w).seen = s.seen := rfl
@[simp] theorem State.afterSource_nmiLatch (s : State) (w : Width) : (s.afterSource w).nmiLatch = s.nmiLatch := rfl
@[simp] theorem State.afterSource_window (s : State) (w : Width) : (s.afterSource w).window = s.window := rfl
@[simp] theorem State.afterSource_stepArmed (s : State) (w : Width) : (s.afterSource w).stepArmed = s.stepArmed := rfl
@[simp] theorem State.afterSource_stepPending (s : State) (w : Width) : (s.afterSource w).stepPending = s.stepPending := rfl
@[simp] theorem State.afterSource_prefixes (s : State) (w : Width) : (s.afterSource w).prefixes = s.prefixes := rfl
@[simp] theorem State.afterSource_standby (s : State) (w : Width) : (s.afterSource w).standby = s.standby := rfl
@[simp] theorem State.afterSource_haltLocked (s : State) (w : Width) : (s.afterSource w).haltLocked = s.haltLocked := rfl
@[simp] theorem State.afterSource_mdwe (s : State) (w : Width) : (s.afterSource w).mdwe = s.mdwe := rfl
@[simp] theorem State.afterSource_inProgress (s : State) (w : Width) : (s.afterSource w).inProgress = s.inProgress := rfl
@[simp] theorem State.afterSource_pins (s : State) (w : Width) : (s.afterSource w).pins = s.pins := rfl
@[simp] theorem State.afterSource_inputs (s : State) (w : Width) : (s.afterSource w).inputs = s.inputs := rfl
@[simp] theorem State.afterSource_bus (s : State) (w : Width) : (s.afterSource w).bus = ((s.readCycles w s.dataSreg s.ix).map BusEvent.cycle).reverse ++ s.bus := rfl
@[simp] theorem State.afterSource_fetchLog (s : State) (w : Width) : (s.afterSource w).fetchLog = s.fetchLog := rfl
@[simp] theorem State.afterSource_draws (s : State) (w : Width) : (s.afterSource w).draws = s.draws := rfl

@[simp] theorem State.afterDest_aw (s : State) (w : Width) : (s.afterDest w).aw = s.aw := rfl
@[simp] theorem State.afterDest_bw (s : State) (w : Width) : (s.afterDest w).bw = s.bw := rfl
@[simp] theorem State.afterDest_cw (s : State) (w : Width) : (s.afterDest w).cw = s.cw := rfl
@[simp] theorem State.afterDest_dw (s : State) (w : Width) : (s.afterDest w).dw = s.dw := rfl
@[simp] theorem State.afterDest_sp (s : State) (w : Width) : (s.afterDest w).sp = s.sp := rfl
@[simp] theorem State.afterDest_bp (s : State) (w : Width) : (s.afterDest w).bp = s.bp := rfl
@[simp] theorem State.afterDest_ix (s : State) (w : Width) : (s.afterDest w).ix = s.ix := rfl
@[simp] theorem State.afterDest_iy (s : State) (w : Width) : (s.afterDest w).iy = s.iy := rfl
@[simp] theorem State.afterDest_ps (s : State) (w : Width) : (s.afterDest w).ps = s.ps := rfl
@[simp] theorem State.afterDest_ss (s : State) (w : Width) : (s.afterDest w).ss = s.ss := rfl
@[simp] theorem State.afterDest_ds0 (s : State) (w : Width) : (s.afterDest w).ds0 = s.ds0 := rfl
@[simp] theorem State.afterDest_ds1 (s : State) (w : Width) : (s.afterDest w).ds1 = s.ds1 := rfl
@[simp] theorem State.afterDest_pc (s : State) (w : Width) : (s.afterDest w).pc = s.pc := rfl
@[simp] theorem State.afterDest_psw (s : State) (w : Width) : (s.afterDest w).psw = s.psw := rfl
@[simp] theorem State.afterDest_mem (s : State) (w : Width) : (s.afterDest w).mem = s.mem := rfl
@[simp] theorem State.afterDest_platform (s : State) (w : Width) : (s.afterDest w).platform = s.platform := rfl
@[simp] theorem State.afterDest_chip (s : State) (w : Width) : (s.afterDest w).chip = s.chip := rfl
@[simp] theorem State.afterDest_wiring (s : State) (w : Width) : (s.afterDest w).wiring = s.wiring := rfl
@[simp] theorem State.afterDest_pfp (s : State) (w : Width) : (s.afterDest w).pfp = s.pfp := rfl
@[simp] theorem State.afterDest_queue (s : State) (w : Width) : (s.afterDest w).queue = s.queue := rfl
@[simp] theorem State.afterDest_seen (s : State) (w : Width) : (s.afterDest w).seen = s.seen := rfl
@[simp] theorem State.afterDest_nmiLatch (s : State) (w : Width) : (s.afterDest w).nmiLatch = s.nmiLatch := rfl
@[simp] theorem State.afterDest_window (s : State) (w : Width) : (s.afterDest w).window = s.window := rfl
@[simp] theorem State.afterDest_stepArmed (s : State) (w : Width) : (s.afterDest w).stepArmed = s.stepArmed := rfl
@[simp] theorem State.afterDest_stepPending (s : State) (w : Width) : (s.afterDest w).stepPending = s.stepPending := rfl
@[simp] theorem State.afterDest_prefixes (s : State) (w : Width) : (s.afterDest w).prefixes = s.prefixes := rfl
@[simp] theorem State.afterDest_standby (s : State) (w : Width) : (s.afterDest w).standby = s.standby := rfl
@[simp] theorem State.afterDest_haltLocked (s : State) (w : Width) : (s.afterDest w).haltLocked = s.haltLocked := rfl
@[simp] theorem State.afterDest_mdwe (s : State) (w : Width) : (s.afterDest w).mdwe = s.mdwe := rfl
@[simp] theorem State.afterDest_inProgress (s : State) (w : Width) : (s.afterDest w).inProgress = s.inProgress := rfl
@[simp] theorem State.afterDest_pins (s : State) (w : Width) : (s.afterDest w).pins = s.pins := rfl
@[simp] theorem State.afterDest_inputs (s : State) (w : Width) : (s.afterDest w).inputs = s.inputs := rfl
@[simp] theorem State.afterDest_bus (s : State) (w : Width) : (s.afterDest w).bus = ((s.readCycles w .ds1 s.iy).map BusEvent.cycle).reverse ++ s.bus := rfl
@[simp] theorem State.afterDest_fetchLog (s : State) (w : Width) : (s.afterDest w).fetchLog = s.fetchLog := rfl
@[simp] theorem State.afterDest_draws (s : State) (w : Width) : (s.afterDest w).draws = s.draws := rfl

@[simp] theorem State.afterFieldWords_aw (s : State) (g : SReg) (off : Word) (o l : BitVec 4) : (s.afterFieldWords g off o l).aw = s.aw := rfl
@[simp] theorem State.afterFieldWords_bw (s : State) (g : SReg) (off : Word) (o l : BitVec 4) : (s.afterFieldWords g off o l).bw = s.bw := rfl
@[simp] theorem State.afterFieldWords_cw (s : State) (g : SReg) (off : Word) (o l : BitVec 4) : (s.afterFieldWords g off o l).cw = s.cw := rfl
@[simp] theorem State.afterFieldWords_dw (s : State) (g : SReg) (off : Word) (o l : BitVec 4) : (s.afterFieldWords g off o l).dw = s.dw := rfl
@[simp] theorem State.afterFieldWords_sp (s : State) (g : SReg) (off : Word) (o l : BitVec 4) : (s.afterFieldWords g off o l).sp = s.sp := rfl
@[simp] theorem State.afterFieldWords_bp (s : State) (g : SReg) (off : Word) (o l : BitVec 4) : (s.afterFieldWords g off o l).bp = s.bp := rfl
@[simp] theorem State.afterFieldWords_ix (s : State) (g : SReg) (off : Word) (o l : BitVec 4) : (s.afterFieldWords g off o l).ix = s.ix := rfl
@[simp] theorem State.afterFieldWords_iy (s : State) (g : SReg) (off : Word) (o l : BitVec 4) : (s.afterFieldWords g off o l).iy = s.iy := rfl
@[simp] theorem State.afterFieldWords_ps (s : State) (g : SReg) (off : Word) (o l : BitVec 4) : (s.afterFieldWords g off o l).ps = s.ps := rfl
@[simp] theorem State.afterFieldWords_ss (s : State) (g : SReg) (off : Word) (o l : BitVec 4) : (s.afterFieldWords g off o l).ss = s.ss := rfl
@[simp] theorem State.afterFieldWords_ds0 (s : State) (g : SReg) (off : Word) (o l : BitVec 4) : (s.afterFieldWords g off o l).ds0 = s.ds0 := rfl
@[simp] theorem State.afterFieldWords_ds1 (s : State) (g : SReg) (off : Word) (o l : BitVec 4) : (s.afterFieldWords g off o l).ds1 = s.ds1 := rfl
@[simp] theorem State.afterFieldWords_pc (s : State) (g : SReg) (off : Word) (o l : BitVec 4) : (s.afterFieldWords g off o l).pc = s.pc := rfl
@[simp] theorem State.afterFieldWords_psw (s : State) (g : SReg) (off : Word) (o l : BitVec 4) : (s.afterFieldWords g off o l).psw = s.psw := rfl
@[simp] theorem State.afterFieldWords_mem (s : State) (g : SReg) (off : Word) (o l : BitVec 4) : (s.afterFieldWords g off o l).mem = s.mem := rfl
@[simp] theorem State.afterFieldWords_platform (s : State) (g : SReg) (off : Word) (o l : BitVec 4) : (s.afterFieldWords g off o l).platform = s.platform := rfl
@[simp] theorem State.afterFieldWords_chip (s : State) (g : SReg) (off : Word) (o l : BitVec 4) : (s.afterFieldWords g off o l).chip = s.chip := rfl
@[simp] theorem State.afterFieldWords_wiring (s : State) (g : SReg) (off : Word) (o l : BitVec 4) : (s.afterFieldWords g off o l).wiring = s.wiring := rfl
@[simp] theorem State.afterFieldWords_pfp (s : State) (g : SReg) (off : Word) (o l : BitVec 4) : (s.afterFieldWords g off o l).pfp = s.pfp := rfl
@[simp] theorem State.afterFieldWords_queue (s : State) (g : SReg) (off : Word) (o l : BitVec 4) : (s.afterFieldWords g off o l).queue = s.queue := rfl
@[simp] theorem State.afterFieldWords_seen (s : State) (g : SReg) (off : Word) (o l : BitVec 4) : (s.afterFieldWords g off o l).seen = s.seen := rfl
@[simp] theorem State.afterFieldWords_nmiLatch (s : State) (g : SReg) (off : Word) (o l : BitVec 4) : (s.afterFieldWords g off o l).nmiLatch = s.nmiLatch := rfl
@[simp] theorem State.afterFieldWords_window (s : State) (g : SReg) (off : Word) (o l : BitVec 4) : (s.afterFieldWords g off o l).window = s.window := rfl
@[simp] theorem State.afterFieldWords_stepArmed (s : State) (g : SReg) (off : Word) (o l : BitVec 4) : (s.afterFieldWords g off o l).stepArmed = s.stepArmed := rfl
@[simp] theorem State.afterFieldWords_stepPending (s : State) (g : SReg) (off : Word) (o l : BitVec 4) : (s.afterFieldWords g off o l).stepPending = s.stepPending := rfl
@[simp] theorem State.afterFieldWords_prefixes (s : State) (g : SReg) (off : Word) (o l : BitVec 4) : (s.afterFieldWords g off o l).prefixes = s.prefixes := rfl
@[simp] theorem State.afterFieldWords_standby (s : State) (g : SReg) (off : Word) (o l : BitVec 4) : (s.afterFieldWords g off o l).standby = s.standby := rfl
@[simp] theorem State.afterFieldWords_haltLocked (s : State) (g : SReg) (off : Word) (o l : BitVec 4) : (s.afterFieldWords g off o l).haltLocked = s.haltLocked := rfl
@[simp] theorem State.afterFieldWords_mdwe (s : State) (g : SReg) (off : Word) (o l : BitVec 4) : (s.afterFieldWords g off o l).mdwe = s.mdwe := rfl
@[simp] theorem State.afterFieldWords_inProgress (s : State) (g : SReg) (off : Word) (o l : BitVec 4) : (s.afterFieldWords g off o l).inProgress = s.inProgress := rfl
@[simp] theorem State.afterFieldWords_pins (s : State) (g : SReg) (off : Word) (o l : BitVec 4) : (s.afterFieldWords g off o l).pins = s.pins := rfl
@[simp] theorem State.afterFieldWords_inputs (s : State) (g : SReg) (off : Word) (o l : BitVec 4) : (s.afterFieldWords g off o l).inputs = s.inputs := rfl
@[simp] theorem State.afterFieldWords_fetchLog (s : State) (g : SReg) (off : Word) (o l : BitVec 4) : (s.afterFieldWords g off o l).fetchLog = s.fetchLog := rfl
@[simp] theorem State.afterFieldWords_draws (s : State) (g : SReg) (off : Word) (o l : BitVec 4) : (s.afterFieldWords g off o l).draws = s.draws := rfl

@[simp] theorem State.afterStack_aw (s : State) (ks : List Nat) : (s.afterStack ks).aw = s.aw := rfl
@[simp] theorem State.afterStack_bw (s : State) (ks : List Nat) : (s.afterStack ks).bw = s.bw := rfl
@[simp] theorem State.afterStack_cw (s : State) (ks : List Nat) : (s.afterStack ks).cw = s.cw := rfl
@[simp] theorem State.afterStack_dw (s : State) (ks : List Nat) : (s.afterStack ks).dw = s.dw := rfl
@[simp] theorem State.afterStack_sp (s : State) (ks : List Nat) : (s.afterStack ks).sp = s.sp := rfl
@[simp] theorem State.afterStack_bp (s : State) (ks : List Nat) : (s.afterStack ks).bp = s.bp := rfl
@[simp] theorem State.afterStack_ix (s : State) (ks : List Nat) : (s.afterStack ks).ix = s.ix := rfl
@[simp] theorem State.afterStack_iy (s : State) (ks : List Nat) : (s.afterStack ks).iy = s.iy := rfl
@[simp] theorem State.afterStack_ps (s : State) (ks : List Nat) : (s.afterStack ks).ps = s.ps := rfl
@[simp] theorem State.afterStack_ss (s : State) (ks : List Nat) : (s.afterStack ks).ss = s.ss := rfl
@[simp] theorem State.afterStack_ds0 (s : State) (ks : List Nat) : (s.afterStack ks).ds0 = s.ds0 := rfl
@[simp] theorem State.afterStack_ds1 (s : State) (ks : List Nat) : (s.afterStack ks).ds1 = s.ds1 := rfl
@[simp] theorem State.afterStack_pc (s : State) (ks : List Nat) : (s.afterStack ks).pc = s.pc := rfl
@[simp] theorem State.afterStack_psw (s : State) (ks : List Nat) : (s.afterStack ks).psw = s.psw := rfl
@[simp] theorem State.afterStack_mem (s : State) (ks : List Nat) : (s.afterStack ks).mem = s.mem := rfl
@[simp] theorem State.afterStack_platform (s : State) (ks : List Nat) : (s.afterStack ks).platform = s.platform := rfl
@[simp] theorem State.afterStack_chip (s : State) (ks : List Nat) : (s.afterStack ks).chip = s.chip := rfl
@[simp] theorem State.afterStack_wiring (s : State) (ks : List Nat) : (s.afterStack ks).wiring = s.wiring := rfl
@[simp] theorem State.afterStack_pfp (s : State) (ks : List Nat) : (s.afterStack ks).pfp = s.pfp := rfl
@[simp] theorem State.afterStack_queue (s : State) (ks : List Nat) : (s.afterStack ks).queue = s.queue := rfl
@[simp] theorem State.afterStack_seen (s : State) (ks : List Nat) : (s.afterStack ks).seen = s.seen := rfl
@[simp] theorem State.afterStack_nmiLatch (s : State) (ks : List Nat) : (s.afterStack ks).nmiLatch = s.nmiLatch := rfl
@[simp] theorem State.afterStack_window (s : State) (ks : List Nat) : (s.afterStack ks).window = s.window := rfl
@[simp] theorem State.afterStack_stepArmed (s : State) (ks : List Nat) : (s.afterStack ks).stepArmed = s.stepArmed := rfl
@[simp] theorem State.afterStack_stepPending (s : State) (ks : List Nat) : (s.afterStack ks).stepPending = s.stepPending := rfl
@[simp] theorem State.afterStack_prefixes (s : State) (ks : List Nat) : (s.afterStack ks).prefixes = s.prefixes := rfl
@[simp] theorem State.afterStack_standby (s : State) (ks : List Nat) : (s.afterStack ks).standby = s.standby := rfl
@[simp] theorem State.afterStack_haltLocked (s : State) (ks : List Nat) : (s.afterStack ks).haltLocked = s.haltLocked := rfl
@[simp] theorem State.afterStack_mdwe (s : State) (ks : List Nat) : (s.afterStack ks).mdwe = s.mdwe := rfl
@[simp] theorem State.afterStack_inProgress (s : State) (ks : List Nat) : (s.afterStack ks).inProgress = s.inProgress := rfl
@[simp] theorem State.afterStack_pins (s : State) (ks : List Nat) : (s.afterStack ks).pins = s.pins := rfl
@[simp] theorem State.afterStack_inputs (s : State) (ks : List Nat) : (s.afterStack ks).inputs = s.inputs := rfl
@[simp] theorem State.afterStack_fetchLog (s : State) (ks : List Nat) : (s.afterStack ks).fetchLog = s.fetchLog := rfl
@[simp] theorem State.afterStack_draws (s : State) (ks : List Nat) : (s.afterStack ks).draws = s.draws := rfl

@[simp] theorem State.afterIoRead_aw (s : State) (w : Width) (port : Word) : (s.afterIoRead w port).aw = s.aw := rfl
@[simp] theorem State.afterIoRead_bw (s : State) (w : Width) (port : Word) : (s.afterIoRead w port).bw = s.bw := rfl
@[simp] theorem State.afterIoRead_cw (s : State) (w : Width) (port : Word) : (s.afterIoRead w port).cw = s.cw := rfl
@[simp] theorem State.afterIoRead_dw (s : State) (w : Width) (port : Word) : (s.afterIoRead w port).dw = s.dw := rfl
@[simp] theorem State.afterIoRead_sp (s : State) (w : Width) (port : Word) : (s.afterIoRead w port).sp = s.sp := rfl
@[simp] theorem State.afterIoRead_bp (s : State) (w : Width) (port : Word) : (s.afterIoRead w port).bp = s.bp := rfl
@[simp] theorem State.afterIoRead_ix (s : State) (w : Width) (port : Word) : (s.afterIoRead w port).ix = s.ix := rfl
@[simp] theorem State.afterIoRead_iy (s : State) (w : Width) (port : Word) : (s.afterIoRead w port).iy = s.iy := rfl
@[simp] theorem State.afterIoRead_ps (s : State) (w : Width) (port : Word) : (s.afterIoRead w port).ps = s.ps := rfl
@[simp] theorem State.afterIoRead_ss (s : State) (w : Width) (port : Word) : (s.afterIoRead w port).ss = s.ss := rfl
@[simp] theorem State.afterIoRead_ds0 (s : State) (w : Width) (port : Word) : (s.afterIoRead w port).ds0 = s.ds0 := rfl
@[simp] theorem State.afterIoRead_ds1 (s : State) (w : Width) (port : Word) : (s.afterIoRead w port).ds1 = s.ds1 := rfl
@[simp] theorem State.afterIoRead_pc (s : State) (w : Width) (port : Word) : (s.afterIoRead w port).pc = s.pc := rfl
@[simp] theorem State.afterIoRead_psw (s : State) (w : Width) (port : Word) : (s.afterIoRead w port).psw = s.psw := rfl
@[simp] theorem State.afterIoRead_mem (s : State) (w : Width) (port : Word) : (s.afterIoRead w port).mem = s.mem := rfl
@[simp] theorem State.afterIoRead_platform (s : State) (w : Width) (port : Word) : (s.afterIoRead w port).platform = s.platform := rfl
@[simp] theorem State.afterIoRead_chip (s : State) (w : Width) (port : Word) : (s.afterIoRead w port).chip = s.chip := rfl
@[simp] theorem State.afterIoRead_wiring (s : State) (w : Width) (port : Word) : (s.afterIoRead w port).wiring = s.wiring := rfl
@[simp] theorem State.afterIoRead_pfp (s : State) (w : Width) (port : Word) : (s.afterIoRead w port).pfp = s.pfp := rfl
@[simp] theorem State.afterIoRead_queue (s : State) (w : Width) (port : Word) : (s.afterIoRead w port).queue = s.queue := rfl
@[simp] theorem State.afterIoRead_seen (s : State) (w : Width) (port : Word) : (s.afterIoRead w port).seen = s.seen := rfl
@[simp] theorem State.afterIoRead_nmiLatch (s : State) (w : Width) (port : Word) : (s.afterIoRead w port).nmiLatch = s.nmiLatch := rfl
@[simp] theorem State.afterIoRead_window (s : State) (w : Width) (port : Word) : (s.afterIoRead w port).window = s.window := rfl
@[simp] theorem State.afterIoRead_stepArmed (s : State) (w : Width) (port : Word) : (s.afterIoRead w port).stepArmed = s.stepArmed := rfl
@[simp] theorem State.afterIoRead_stepPending (s : State) (w : Width) (port : Word) : (s.afterIoRead w port).stepPending = s.stepPending := rfl
@[simp] theorem State.afterIoRead_prefixes (s : State) (w : Width) (port : Word) : (s.afterIoRead w port).prefixes = s.prefixes := rfl
@[simp] theorem State.afterIoRead_standby (s : State) (w : Width) (port : Word) : (s.afterIoRead w port).standby = s.standby := rfl
@[simp] theorem State.afterIoRead_haltLocked (s : State) (w : Width) (port : Word) : (s.afterIoRead w port).haltLocked = s.haltLocked := rfl
@[simp] theorem State.afterIoRead_mdwe (s : State) (w : Width) (port : Word) : (s.afterIoRead w port).mdwe = s.mdwe := rfl
@[simp] theorem State.afterIoRead_inProgress (s : State) (w : Width) (port : Word) : (s.afterIoRead w port).inProgress = s.inProgress := rfl
@[simp] theorem State.afterIoRead_pins (s : State) (w : Width) (port : Word) : (s.afterIoRead w port).pins = s.pins := rfl
@[simp] theorem State.afterIoRead_inputs (s : State) (w : Width) (port : Word) : (s.afterIoRead w port).inputs = s.inputs := rfl
@[simp] theorem State.afterIoRead_fetchLog (s : State) (w : Width) (port : Word) : (s.afterIoRead w port).fetchLog = s.fetchLog := rfl
@[simp] theorem State.afterIoRead_draws (s : State) (w : Width) (port : Word) : (s.afterIoRead w port).draws = s.draws := rfl

@[simp] theorem State.store_aw (s : State) (w : Width) (g : SReg) (off : Word) (v : Val w) : (s.store w g off v).aw = s.aw := by simp [State.store]
@[simp] theorem State.store_bw (s : State) (w : Width) (g : SReg) (off : Word) (v : Val w) : (s.store w g off v).bw = s.bw := by simp [State.store]
@[simp] theorem State.store_cw (s : State) (w : Width) (g : SReg) (off : Word) (v : Val w) : (s.store w g off v).cw = s.cw := by simp [State.store]
@[simp] theorem State.store_dw (s : State) (w : Width) (g : SReg) (off : Word) (v : Val w) : (s.store w g off v).dw = s.dw := by simp [State.store]
@[simp] theorem State.store_sp (s : State) (w : Width) (g : SReg) (off : Word) (v : Val w) : (s.store w g off v).sp = s.sp := by simp [State.store]
@[simp] theorem State.store_bp (s : State) (w : Width) (g : SReg) (off : Word) (v : Val w) : (s.store w g off v).bp = s.bp := by simp [State.store]
@[simp] theorem State.store_ix (s : State) (w : Width) (g : SReg) (off : Word) (v : Val w) : (s.store w g off v).ix = s.ix := by simp [State.store]
@[simp] theorem State.store_iy (s : State) (w : Width) (g : SReg) (off : Word) (v : Val w) : (s.store w g off v).iy = s.iy := by simp [State.store]
@[simp] theorem State.store_ps (s : State) (w : Width) (g : SReg) (off : Word) (v : Val w) : (s.store w g off v).ps = s.ps := by simp [State.store]
@[simp] theorem State.store_ss (s : State) (w : Width) (g : SReg) (off : Word) (v : Val w) : (s.store w g off v).ss = s.ss := by simp [State.store]
@[simp] theorem State.store_ds0 (s : State) (w : Width) (g : SReg) (off : Word) (v : Val w) : (s.store w g off v).ds0 = s.ds0 := by simp [State.store]
@[simp] theorem State.store_ds1 (s : State) (w : Width) (g : SReg) (off : Word) (v : Val w) : (s.store w g off v).ds1 = s.ds1 := by simp [State.store]
@[simp] theorem State.store_pc (s : State) (w : Width) (g : SReg) (off : Word) (v : Val w) : (s.store w g off v).pc = s.pc := by simp [State.store]
@[simp] theorem State.store_psw (s : State) (w : Width) (g : SReg) (off : Word) (v : Val w) : (s.store w g off v).psw = s.psw := by simp [State.store]
@[simp] theorem State.store_mem (s : State) (w : Width) (g : SReg) (off : Word) (v : Val w) : (s.store w g off v).mem = (s.storeBytes w (s.readSreg g) off v).mem := by simp [State.store]
@[simp] theorem State.store_platform (s : State) (w : Width) (g : SReg) (off : Word) (v : Val w) : (s.store w g off v).platform = s.platform := by simp [State.store]
@[simp] theorem State.store_chip (s : State) (w : Width) (g : SReg) (off : Word) (v : Val w) : (s.store w g off v).chip = s.chip := by simp [State.store]
@[simp] theorem State.store_wiring (s : State) (w : Width) (g : SReg) (off : Word) (v : Val w) : (s.store w g off v).wiring = s.wiring := by simp [State.store]
@[simp] theorem State.store_pfp (s : State) (w : Width) (g : SReg) (off : Word) (v : Val w) : (s.store w g off v).pfp = s.pfp := by simp [State.store]
@[simp] theorem State.store_queue (s : State) (w : Width) (g : SReg) (off : Word) (v : Val w) : (s.store w g off v).queue = s.queue := by simp [State.store]
@[simp] theorem State.store_seen (s : State) (w : Width) (g : SReg) (off : Word) (v : Val w) : (s.store w g off v).seen = s.seen := by simp [State.store]
@[simp] theorem State.store_nmiLatch (s : State) (w : Width) (g : SReg) (off : Word) (v : Val w) : (s.store w g off v).nmiLatch = s.nmiLatch := by simp [State.store]
@[simp] theorem State.store_window (s : State) (w : Width) (g : SReg) (off : Word) (v : Val w) : (s.store w g off v).window = s.window := by simp [State.store]
@[simp] theorem State.store_stepArmed (s : State) (w : Width) (g : SReg) (off : Word) (v : Val w) : (s.store w g off v).stepArmed = s.stepArmed := by simp [State.store]
@[simp] theorem State.store_stepPending (s : State) (w : Width) (g : SReg) (off : Word) (v : Val w) : (s.store w g off v).stepPending = s.stepPending := by simp [State.store]
@[simp] theorem State.store_prefixes (s : State) (w : Width) (g : SReg) (off : Word) (v : Val w) : (s.store w g off v).prefixes = s.prefixes := by simp [State.store]
@[simp] theorem State.store_standby (s : State) (w : Width) (g : SReg) (off : Word) (v : Val w) : (s.store w g off v).standby = s.standby := by simp [State.store]
@[simp] theorem State.store_haltLocked (s : State) (w : Width) (g : SReg) (off : Word) (v : Val w) : (s.store w g off v).haltLocked = s.haltLocked := by simp [State.store]
@[simp] theorem State.store_mdwe (s : State) (w : Width) (g : SReg) (off : Word) (v : Val w) : (s.store w g off v).mdwe = s.mdwe := by simp [State.store]
@[simp] theorem State.store_inProgress (s : State) (w : Width) (g : SReg) (off : Word) (v : Val w) : (s.store w g off v).inProgress = s.inProgress := by simp [State.store]
@[simp] theorem State.store_pins (s : State) (w : Width) (g : SReg) (off : Word) (v : Val w) : (s.store w g off v).pins = s.pins := by simp [State.store]
@[simp] theorem State.store_inputs (s : State) (w : Width) (g : SReg) (off : Word) (v : Val w) : (s.store w g off v).inputs = s.inputs := by simp [State.store]
@[simp] theorem State.store_bus (s : State) (w : Width) (g : SReg) (off : Word) (v : Val w) : (s.store w g off v).bus = ((s.writeCycles w g off v).map BusEvent.cycle).reverse ++ s.bus := by simp [State.store]
@[simp] theorem State.store_fetchLog (s : State) (w : Width) (g : SReg) (off : Word) (v : Val w) : (s.store w g off v).fetchLog = s.fetchLog := by simp [State.store]
@[simp] theorem State.store_draws (s : State) (w : Width) (g : SReg) (off : Word) (v : Val w) : (s.store w g off v).draws = s.draws := by simp [State.store]

@[simp] theorem State.storeMem_aw (s : State) (w : Width) (m : MemOp) (v : Val w) : (s.storeMem w m v).aw = s.aw := by simp [State.storeMem]
@[simp] theorem State.storeMem_bw (s : State) (w : Width) (m : MemOp) (v : Val w) : (s.storeMem w m v).bw = s.bw := by simp [State.storeMem]
@[simp] theorem State.storeMem_cw (s : State) (w : Width) (m : MemOp) (v : Val w) : (s.storeMem w m v).cw = s.cw := by simp [State.storeMem]
@[simp] theorem State.storeMem_dw (s : State) (w : Width) (m : MemOp) (v : Val w) : (s.storeMem w m v).dw = s.dw := by simp [State.storeMem]
@[simp] theorem State.storeMem_sp (s : State) (w : Width) (m : MemOp) (v : Val w) : (s.storeMem w m v).sp = s.sp := by simp [State.storeMem]
@[simp] theorem State.storeMem_bp (s : State) (w : Width) (m : MemOp) (v : Val w) : (s.storeMem w m v).bp = s.bp := by simp [State.storeMem]
@[simp] theorem State.storeMem_ix (s : State) (w : Width) (m : MemOp) (v : Val w) : (s.storeMem w m v).ix = s.ix := by simp [State.storeMem]
@[simp] theorem State.storeMem_iy (s : State) (w : Width) (m : MemOp) (v : Val w) : (s.storeMem w m v).iy = s.iy := by simp [State.storeMem]
@[simp] theorem State.storeMem_ps (s : State) (w : Width) (m : MemOp) (v : Val w) : (s.storeMem w m v).ps = s.ps := by simp [State.storeMem]
@[simp] theorem State.storeMem_ss (s : State) (w : Width) (m : MemOp) (v : Val w) : (s.storeMem w m v).ss = s.ss := by simp [State.storeMem]
@[simp] theorem State.storeMem_ds0 (s : State) (w : Width) (m : MemOp) (v : Val w) : (s.storeMem w m v).ds0 = s.ds0 := by simp [State.storeMem]
@[simp] theorem State.storeMem_ds1 (s : State) (w : Width) (m : MemOp) (v : Val w) : (s.storeMem w m v).ds1 = s.ds1 := by simp [State.storeMem]
@[simp] theorem State.storeMem_pc (s : State) (w : Width) (m : MemOp) (v : Val w) : (s.storeMem w m v).pc = s.pc := by simp [State.storeMem]
@[simp] theorem State.storeMem_psw (s : State) (w : Width) (m : MemOp) (v : Val w) : (s.storeMem w m v).psw = s.psw := by simp [State.storeMem]
@[simp] theorem State.storeMem_platform (s : State) (w : Width) (m : MemOp) (v : Val w) : (s.storeMem w m v).platform = s.platform := by simp [State.storeMem]
@[simp] theorem State.storeMem_chip (s : State) (w : Width) (m : MemOp) (v : Val w) : (s.storeMem w m v).chip = s.chip := by simp [State.storeMem]
@[simp] theorem State.storeMem_wiring (s : State) (w : Width) (m : MemOp) (v : Val w) : (s.storeMem w m v).wiring = s.wiring := by simp [State.storeMem]
@[simp] theorem State.storeMem_pfp (s : State) (w : Width) (m : MemOp) (v : Val w) : (s.storeMem w m v).pfp = s.pfp := by simp [State.storeMem]
@[simp] theorem State.storeMem_queue (s : State) (w : Width) (m : MemOp) (v : Val w) : (s.storeMem w m v).queue = s.queue := by simp [State.storeMem]
@[simp] theorem State.storeMem_seen (s : State) (w : Width) (m : MemOp) (v : Val w) : (s.storeMem w m v).seen = s.seen := by simp [State.storeMem]
@[simp] theorem State.storeMem_nmiLatch (s : State) (w : Width) (m : MemOp) (v : Val w) : (s.storeMem w m v).nmiLatch = s.nmiLatch := by simp [State.storeMem]
@[simp] theorem State.storeMem_window (s : State) (w : Width) (m : MemOp) (v : Val w) : (s.storeMem w m v).window = s.window := by simp [State.storeMem]
@[simp] theorem State.storeMem_stepArmed (s : State) (w : Width) (m : MemOp) (v : Val w) : (s.storeMem w m v).stepArmed = s.stepArmed := by simp [State.storeMem]
@[simp] theorem State.storeMem_stepPending (s : State) (w : Width) (m : MemOp) (v : Val w) : (s.storeMem w m v).stepPending = s.stepPending := by simp [State.storeMem]
@[simp] theorem State.storeMem_prefixes (s : State) (w : Width) (m : MemOp) (v : Val w) : (s.storeMem w m v).prefixes = s.prefixes := by simp [State.storeMem]
@[simp] theorem State.storeMem_standby (s : State) (w : Width) (m : MemOp) (v : Val w) : (s.storeMem w m v).standby = s.standby := by simp [State.storeMem]
@[simp] theorem State.storeMem_haltLocked (s : State) (w : Width) (m : MemOp) (v : Val w) : (s.storeMem w m v).haltLocked = s.haltLocked := by simp [State.storeMem]
@[simp] theorem State.storeMem_mdwe (s : State) (w : Width) (m : MemOp) (v : Val w) : (s.storeMem w m v).mdwe = s.mdwe := by simp [State.storeMem]
@[simp] theorem State.storeMem_inProgress (s : State) (w : Width) (m : MemOp) (v : Val w) : (s.storeMem w m v).inProgress = s.inProgress := by simp [State.storeMem]
@[simp] theorem State.storeMem_pins (s : State) (w : Width) (m : MemOp) (v : Val w) : (s.storeMem w m v).pins = s.pins := by simp [State.storeMem]
@[simp] theorem State.storeMem_inputs (s : State) (w : Width) (m : MemOp) (v : Val w) : (s.storeMem w m v).inputs = s.inputs := by simp [State.storeMem]
@[simp] theorem State.storeMem_fetchLog (s : State) (w : Width) (m : MemOp) (v : Val w) : (s.storeMem w m v).fetchLog = s.fetchLog := by simp [State.storeMem]
@[simp] theorem State.storeMem_draws (s : State) (w : Width) (m : MemOp) (v : Val w) : (s.storeMem w m v).draws = s.draws := by simp [State.storeMem]

@[simp] theorem State.storeDest_aw (s : State) (w : Width) (v : Val w) : (s.storeDest w v).aw = s.aw := by simp [State.storeDest]
@[simp] theorem State.storeDest_bw (s : State) (w : Width) (v : Val w) : (s.storeDest w v).bw = s.bw := by simp [State.storeDest]
@[simp] theorem State.storeDest_cw (s : State) (w : Width) (v : Val w) : (s.storeDest w v).cw = s.cw := by simp [State.storeDest]
@[simp] theorem State.storeDest_dw (s : State) (w : Width) (v : Val w) : (s.storeDest w v).dw = s.dw := by simp [State.storeDest]
@[simp] theorem State.storeDest_sp (s : State) (w : Width) (v : Val w) : (s.storeDest w v).sp = s.sp := by simp [State.storeDest]
@[simp] theorem State.storeDest_bp (s : State) (w : Width) (v : Val w) : (s.storeDest w v).bp = s.bp := by simp [State.storeDest]
@[simp] theorem State.storeDest_ix (s : State) (w : Width) (v : Val w) : (s.storeDest w v).ix = s.ix := by simp [State.storeDest]
@[simp] theorem State.storeDest_iy (s : State) (w : Width) (v : Val w) : (s.storeDest w v).iy = s.iy := by simp [State.storeDest]
@[simp] theorem State.storeDest_ps (s : State) (w : Width) (v : Val w) : (s.storeDest w v).ps = s.ps := by simp [State.storeDest]
@[simp] theorem State.storeDest_ss (s : State) (w : Width) (v : Val w) : (s.storeDest w v).ss = s.ss := by simp [State.storeDest]
@[simp] theorem State.storeDest_ds0 (s : State) (w : Width) (v : Val w) : (s.storeDest w v).ds0 = s.ds0 := by simp [State.storeDest]
@[simp] theorem State.storeDest_ds1 (s : State) (w : Width) (v : Val w) : (s.storeDest w v).ds1 = s.ds1 := by simp [State.storeDest]
@[simp] theorem State.storeDest_pc (s : State) (w : Width) (v : Val w) : (s.storeDest w v).pc = s.pc := by simp [State.storeDest]
@[simp] theorem State.storeDest_psw (s : State) (w : Width) (v : Val w) : (s.storeDest w v).psw = s.psw := by simp [State.storeDest]
@[simp] theorem State.storeDest_platform (s : State) (w : Width) (v : Val w) : (s.storeDest w v).platform = s.platform := by simp [State.storeDest]
@[simp] theorem State.storeDest_chip (s : State) (w : Width) (v : Val w) : (s.storeDest w v).chip = s.chip := by simp [State.storeDest]
@[simp] theorem State.storeDest_wiring (s : State) (w : Width) (v : Val w) : (s.storeDest w v).wiring = s.wiring := by simp [State.storeDest]
@[simp] theorem State.storeDest_pfp (s : State) (w : Width) (v : Val w) : (s.storeDest w v).pfp = s.pfp := by simp [State.storeDest]
@[simp] theorem State.storeDest_queue (s : State) (w : Width) (v : Val w) : (s.storeDest w v).queue = s.queue := by simp [State.storeDest]
@[simp] theorem State.storeDest_seen (s : State) (w : Width) (v : Val w) : (s.storeDest w v).seen = s.seen := by simp [State.storeDest]
@[simp] theorem State.storeDest_nmiLatch (s : State) (w : Width) (v : Val w) : (s.storeDest w v).nmiLatch = s.nmiLatch := by simp [State.storeDest]
@[simp] theorem State.storeDest_window (s : State) (w : Width) (v : Val w) : (s.storeDest w v).window = s.window := by simp [State.storeDest]
@[simp] theorem State.storeDest_stepArmed (s : State) (w : Width) (v : Val w) : (s.storeDest w v).stepArmed = s.stepArmed := by simp [State.storeDest]
@[simp] theorem State.storeDest_stepPending (s : State) (w : Width) (v : Val w) : (s.storeDest w v).stepPending = s.stepPending := by simp [State.storeDest]
@[simp] theorem State.storeDest_prefixes (s : State) (w : Width) (v : Val w) : (s.storeDest w v).prefixes = s.prefixes := by simp [State.storeDest]
@[simp] theorem State.storeDest_standby (s : State) (w : Width) (v : Val w) : (s.storeDest w v).standby = s.standby := by simp [State.storeDest]
@[simp] theorem State.storeDest_haltLocked (s : State) (w : Width) (v : Val w) : (s.storeDest w v).haltLocked = s.haltLocked := by simp [State.storeDest]
@[simp] theorem State.storeDest_mdwe (s : State) (w : Width) (v : Val w) : (s.storeDest w v).mdwe = s.mdwe := by simp [State.storeDest]
@[simp] theorem State.storeDest_inProgress (s : State) (w : Width) (v : Val w) : (s.storeDest w v).inProgress = s.inProgress := by simp [State.storeDest]
@[simp] theorem State.storeDest_pins (s : State) (w : Width) (v : Val w) : (s.storeDest w v).pins = s.pins := by simp [State.storeDest]
@[simp] theorem State.storeDest_inputs (s : State) (w : Width) (v : Val w) : (s.storeDest w v).inputs = s.inputs := by simp [State.storeDest]
@[simp] theorem State.storeDest_fetchLog (s : State) (w : Width) (v : Val w) : (s.storeDest w v).fetchLog = s.fetchLog := by simp [State.storeDest]
@[simp] theorem State.storeDest_draws (s : State) (w : Width) (v : Val w) : (s.storeDest w v).draws = s.draws := by simp [State.storeDest]

@[simp] theorem State.writeOperand_ps (s : State) (w : Width) (o : Operand) (v : Val w) : (s.writeOperand w o v).ps = s.ps := by cases o <;> simp [State.writeOperand]
@[simp] theorem State.writeOperand_ss (s : State) (w : Width) (o : Operand) (v : Val w) : (s.writeOperand w o v).ss = s.ss := by cases o <;> simp [State.writeOperand]
@[simp] theorem State.writeOperand_ds0 (s : State) (w : Width) (o : Operand) (v : Val w) : (s.writeOperand w o v).ds0 = s.ds0 := by cases o <;> simp [State.writeOperand]
@[simp] theorem State.writeOperand_ds1 (s : State) (w : Width) (o : Operand) (v : Val w) : (s.writeOperand w o v).ds1 = s.ds1 := by cases o <;> simp [State.writeOperand]
@[simp] theorem State.writeOperand_pc (s : State) (w : Width) (o : Operand) (v : Val w) : (s.writeOperand w o v).pc = s.pc := by cases o <;> simp [State.writeOperand]
@[simp] theorem State.writeOperand_psw (s : State) (w : Width) (o : Operand) (v : Val w) : (s.writeOperand w o v).psw = s.psw := by cases o <;> simp [State.writeOperand]
@[simp] theorem State.writeOperand_platform (s : State) (w : Width) (o : Operand) (v : Val w) : (s.writeOperand w o v).platform = s.platform := by cases o <;> simp [State.writeOperand]
@[simp] theorem State.writeOperand_chip (s : State) (w : Width) (o : Operand) (v : Val w) : (s.writeOperand w o v).chip = s.chip := by cases o <;> simp [State.writeOperand]
@[simp] theorem State.writeOperand_wiring (s : State) (w : Width) (o : Operand) (v : Val w) : (s.writeOperand w o v).wiring = s.wiring := by cases o <;> simp [State.writeOperand]
@[simp] theorem State.writeOperand_pfp (s : State) (w : Width) (o : Operand) (v : Val w) : (s.writeOperand w o v).pfp = s.pfp := by cases o <;> simp [State.writeOperand]
@[simp] theorem State.writeOperand_queue (s : State) (w : Width) (o : Operand) (v : Val w) : (s.writeOperand w o v).queue = s.queue := by cases o <;> simp [State.writeOperand]
@[simp] theorem State.writeOperand_seen (s : State) (w : Width) (o : Operand) (v : Val w) : (s.writeOperand w o v).seen = s.seen := by cases o <;> simp [State.writeOperand]
@[simp] theorem State.writeOperand_nmiLatch (s : State) (w : Width) (o : Operand) (v : Val w) : (s.writeOperand w o v).nmiLatch = s.nmiLatch := by cases o <;> simp [State.writeOperand]
@[simp] theorem State.writeOperand_window (s : State) (w : Width) (o : Operand) (v : Val w) : (s.writeOperand w o v).window = s.window := by cases o <;> simp [State.writeOperand]
@[simp] theorem State.writeOperand_stepArmed (s : State) (w : Width) (o : Operand) (v : Val w) : (s.writeOperand w o v).stepArmed = s.stepArmed := by cases o <;> simp [State.writeOperand]
@[simp] theorem State.writeOperand_stepPending (s : State) (w : Width) (o : Operand) (v : Val w) : (s.writeOperand w o v).stepPending = s.stepPending := by cases o <;> simp [State.writeOperand]
@[simp] theorem State.writeOperand_prefixes (s : State) (w : Width) (o : Operand) (v : Val w) : (s.writeOperand w o v).prefixes = s.prefixes := by cases o <;> simp [State.writeOperand]
@[simp] theorem State.writeOperand_standby (s : State) (w : Width) (o : Operand) (v : Val w) : (s.writeOperand w o v).standby = s.standby := by cases o <;> simp [State.writeOperand]
@[simp] theorem State.writeOperand_haltLocked (s : State) (w : Width) (o : Operand) (v : Val w) : (s.writeOperand w o v).haltLocked = s.haltLocked := by cases o <;> simp [State.writeOperand]
@[simp] theorem State.writeOperand_mdwe (s : State) (w : Width) (o : Operand) (v : Val w) : (s.writeOperand w o v).mdwe = s.mdwe := by cases o <;> simp [State.writeOperand]
@[simp] theorem State.writeOperand_inProgress (s : State) (w : Width) (o : Operand) (v : Val w) : (s.writeOperand w o v).inProgress = s.inProgress := by cases o <;> simp [State.writeOperand]
@[simp] theorem State.writeOperand_pins (s : State) (w : Width) (o : Operand) (v : Val w) : (s.writeOperand w o v).pins = s.pins := by cases o <;> simp [State.writeOperand]
@[simp] theorem State.writeOperand_inputs (s : State) (w : Width) (o : Operand) (v : Val w) : (s.writeOperand w o v).inputs = s.inputs := by cases o <;> simp [State.writeOperand]
@[simp] theorem State.writeOperand_fetchLog (s : State) (w : Width) (o : Operand) (v : Val w) : (s.writeOperand w o v).fetchLog = s.fetchLog := by cases o <;> simp [State.writeOperand]
@[simp] theorem State.writeOperand_draws (s : State) (w : Width) (o : Operand) (v : Val w) : (s.writeOperand w o v).draws = s.draws := by cases o <;> simp [State.writeOperand]

@[simp] theorem State.flushQueue_aw (s : State) : (s.flushQueue).aw = s.aw := rfl
@[simp] theorem State.flushQueue_bw (s : State) : (s.flushQueue).bw = s.bw := rfl
@[simp] theorem State.flushQueue_cw (s : State) : (s.flushQueue).cw = s.cw := rfl
@[simp] theorem State.flushQueue_dw (s : State) : (s.flushQueue).dw = s.dw := rfl
@[simp] theorem State.flushQueue_sp (s : State) : (s.flushQueue).sp = s.sp := rfl
@[simp] theorem State.flushQueue_bp (s : State) : (s.flushQueue).bp = s.bp := rfl
@[simp] theorem State.flushQueue_ix (s : State) : (s.flushQueue).ix = s.ix := rfl
@[simp] theorem State.flushQueue_iy (s : State) : (s.flushQueue).iy = s.iy := rfl
@[simp] theorem State.flushQueue_ps (s : State) : (s.flushQueue).ps = s.ps := rfl
@[simp] theorem State.flushQueue_ss (s : State) : (s.flushQueue).ss = s.ss := rfl
@[simp] theorem State.flushQueue_ds0 (s : State) : (s.flushQueue).ds0 = s.ds0 := rfl
@[simp] theorem State.flushQueue_ds1 (s : State) : (s.flushQueue).ds1 = s.ds1 := rfl
@[simp] theorem State.flushQueue_pc (s : State) : (s.flushQueue).pc = s.pc := rfl
@[simp] theorem State.flushQueue_psw (s : State) : (s.flushQueue).psw = s.psw := rfl
@[simp] theorem State.flushQueue_mem (s : State) : (s.flushQueue).mem = s.mem := rfl
@[simp] theorem State.flushQueue_platform (s : State) : (s.flushQueue).platform = s.platform := rfl
@[simp] theorem State.flushQueue_chip (s : State) : (s.flushQueue).chip = s.chip := rfl
@[simp] theorem State.flushQueue_wiring (s : State) : (s.flushQueue).wiring = s.wiring := rfl
@[simp] theorem State.flushQueue_pfp (s : State) : (s.flushQueue).pfp = s.pfp := rfl
@[simp] theorem State.flushQueue_queue (s : State) : (s.flushQueue).queue = [] := rfl
@[simp] theorem State.flushQueue_seen (s : State) : (s.flushQueue).seen = [] := rfl
@[simp] theorem State.flushQueue_nmiLatch (s : State) : (s.flushQueue).nmiLatch = s.nmiLatch := rfl
@[simp] theorem State.flushQueue_window (s : State) : (s.flushQueue).window = s.window := rfl
@[simp] theorem State.flushQueue_stepArmed (s : State) : (s.flushQueue).stepArmed = s.stepArmed := rfl
@[simp] theorem State.flushQueue_stepPending (s : State) : (s.flushQueue).stepPending = s.stepPending := rfl
@[simp] theorem State.flushQueue_prefixes (s : State) : (s.flushQueue).prefixes = s.prefixes := rfl
@[simp] theorem State.flushQueue_standby (s : State) : (s.flushQueue).standby = s.standby := rfl
@[simp] theorem State.flushQueue_haltLocked (s : State) : (s.flushQueue).haltLocked = s.haltLocked := rfl
@[simp] theorem State.flushQueue_mdwe (s : State) : (s.flushQueue).mdwe = s.mdwe := rfl
@[simp] theorem State.flushQueue_inProgress (s : State) : (s.flushQueue).inProgress = s.inProgress := rfl
@[simp] theorem State.flushQueue_pins (s : State) : (s.flushQueue).pins = s.pins := rfl
@[simp] theorem State.flushQueue_inputs (s : State) : (s.flushQueue).inputs = s.inputs := rfl
@[simp] theorem State.flushQueue_bus (s : State) : (s.flushQueue).bus = s.bus := rfl
@[simp] theorem State.flushQueue_fetchLog (s : State) : (s.flushQueue).fetchLog = .queue .flushed :: s.fetchLog := rfl
@[simp] theorem State.flushQueue_draws (s : State) : (s.flushQueue).draws = s.draws := rfl

@[simp] theorem State.writePc_aw (s : State) (x : Word) : (s.writePc x).aw = s.aw := rfl
@[simp] theorem State.writePc_bw (s : State) (x : Word) : (s.writePc x).bw = s.bw := rfl
@[simp] theorem State.writePc_cw (s : State) (x : Word) : (s.writePc x).cw = s.cw := rfl
@[simp] theorem State.writePc_dw (s : State) (x : Word) : (s.writePc x).dw = s.dw := rfl
@[simp] theorem State.writePc_sp (s : State) (x : Word) : (s.writePc x).sp = s.sp := rfl
@[simp] theorem State.writePc_bp (s : State) (x : Word) : (s.writePc x).bp = s.bp := rfl
@[simp] theorem State.writePc_ix (s : State) (x : Word) : (s.writePc x).ix = s.ix := rfl
@[simp] theorem State.writePc_iy (s : State) (x : Word) : (s.writePc x).iy = s.iy := rfl
@[simp] theorem State.writePc_ps (s : State) (x : Word) : (s.writePc x).ps = s.ps := rfl
@[simp] theorem State.writePc_ss (s : State) (x : Word) : (s.writePc x).ss = s.ss := rfl
@[simp] theorem State.writePc_ds0 (s : State) (x : Word) : (s.writePc x).ds0 = s.ds0 := rfl
@[simp] theorem State.writePc_ds1 (s : State) (x : Word) : (s.writePc x).ds1 = s.ds1 := rfl
@[simp] theorem State.writePc_pc (s : State) (x : Word) : (s.writePc x).pc = x := rfl
@[simp] theorem State.writePc_psw (s : State) (x : Word) : (s.writePc x).psw = s.psw := rfl
@[simp] theorem State.writePc_mem (s : State) (x : Word) : (s.writePc x).mem = s.mem := rfl
@[simp] theorem State.writePc_platform (s : State) (x : Word) : (s.writePc x).platform = s.platform := rfl
@[simp] theorem State.writePc_chip (s : State) (x : Word) : (s.writePc x).chip = s.chip := rfl
@[simp] theorem State.writePc_wiring (s : State) (x : Word) : (s.writePc x).wiring = s.wiring := rfl
@[simp] theorem State.writePc_pfp (s : State) (x : Word) : (s.writePc x).pfp = x := rfl
@[simp] theorem State.writePc_queue (s : State) (x : Word) : (s.writePc x).queue = [] := rfl
@[simp] theorem State.writePc_seen (s : State) (x : Word) : (s.writePc x).seen = [] := rfl
@[simp] theorem State.writePc_nmiLatch (s : State) (x : Word) : (s.writePc x).nmiLatch = s.nmiLatch := rfl
@[simp] theorem State.writePc_window (s : State) (x : Word) : (s.writePc x).window = s.window := rfl
@[simp] theorem State.writePc_stepArmed (s : State) (x : Word) : (s.writePc x).stepArmed = s.stepArmed := rfl
@[simp] theorem State.writePc_stepPending (s : State) (x : Word) : (s.writePc x).stepPending = s.stepPending := rfl
@[simp] theorem State.writePc_prefixes (s : State) (x : Word) : (s.writePc x).prefixes = s.prefixes := rfl
@[simp] theorem State.writePc_standby (s : State) (x : Word) : (s.writePc x).standby = s.standby := rfl
@[simp] theorem State.writePc_haltLocked (s : State) (x : Word) : (s.writePc x).haltLocked = s.haltLocked := rfl
@[simp] theorem State.writePc_mdwe (s : State) (x : Word) : (s.writePc x).mdwe = s.mdwe := rfl
@[simp] theorem State.writePc_inProgress (s : State) (x : Word) : (s.writePc x).inProgress = s.inProgress := rfl
@[simp] theorem State.writePc_pins (s : State) (x : Word) : (s.writePc x).pins = s.pins := rfl
@[simp] theorem State.writePc_inputs (s : State) (x : Word) : (s.writePc x).inputs = s.inputs := rfl
@[simp] theorem State.writePc_bus (s : State) (x : Word) : (s.writePc x).bus = s.bus := rfl
@[simp] theorem State.writePc_fetchLog (s : State) (x : Word) : (s.writePc x).fetchLog = .queue .flushed :: s.fetchLog := rfl
@[simp] theorem State.writePc_draws (s : State) (x : Word) : (s.writePc x).draws = s.draws := rfl

@[simp] theorem State.farTransfer_aw (s : State) (x : Word × Word) : (s.farTransfer x).aw = s.aw := rfl
@[simp] theorem State.farTransfer_bw (s : State) (x : Word × Word) : (s.farTransfer x).bw = s.bw := rfl
@[simp] theorem State.farTransfer_cw (s : State) (x : Word × Word) : (s.farTransfer x).cw = s.cw := rfl
@[simp] theorem State.farTransfer_dw (s : State) (x : Word × Word) : (s.farTransfer x).dw = s.dw := rfl
@[simp] theorem State.farTransfer_sp (s : State) (x : Word × Word) : (s.farTransfer x).sp = s.sp := rfl
@[simp] theorem State.farTransfer_bp (s : State) (x : Word × Word) : (s.farTransfer x).bp = s.bp := rfl
@[simp] theorem State.farTransfer_ix (s : State) (x : Word × Word) : (s.farTransfer x).ix = s.ix := rfl
@[simp] theorem State.farTransfer_iy (s : State) (x : Word × Word) : (s.farTransfer x).iy = s.iy := rfl
@[simp] theorem State.farTransfer_ps (s : State) (x : Word × Word) : (s.farTransfer x).ps = x.2 := rfl
@[simp] theorem State.farTransfer_ss (s : State) (x : Word × Word) : (s.farTransfer x).ss = s.ss := rfl
@[simp] theorem State.farTransfer_ds0 (s : State) (x : Word × Word) : (s.farTransfer x).ds0 = s.ds0 := rfl
@[simp] theorem State.farTransfer_ds1 (s : State) (x : Word × Word) : (s.farTransfer x).ds1 = s.ds1 := rfl
@[simp] theorem State.farTransfer_pc (s : State) (x : Word × Word) : (s.farTransfer x).pc = x.1 := rfl
@[simp] theorem State.farTransfer_psw (s : State) (x : Word × Word) : (s.farTransfer x).psw = s.psw := rfl
@[simp] theorem State.farTransfer_mem (s : State) (x : Word × Word) : (s.farTransfer x).mem = s.mem := rfl
@[simp] theorem State.farTransfer_platform (s : State) (x : Word × Word) : (s.farTransfer x).platform = s.platform := rfl
@[simp] theorem State.farTransfer_chip (s : State) (x : Word × Word) : (s.farTransfer x).chip = s.chip := rfl
@[simp] theorem State.farTransfer_wiring (s : State) (x : Word × Word) : (s.farTransfer x).wiring = s.wiring := rfl
@[simp] theorem State.farTransfer_pfp (s : State) (x : Word × Word) : (s.farTransfer x).pfp = x.1 := rfl
@[simp] theorem State.farTransfer_queue (s : State) (x : Word × Word) : (s.farTransfer x).queue = [] := rfl
@[simp] theorem State.farTransfer_seen (s : State) (x : Word × Word) : (s.farTransfer x).seen = [] := rfl
@[simp] theorem State.farTransfer_nmiLatch (s : State) (x : Word × Word) : (s.farTransfer x).nmiLatch = s.nmiLatch := rfl
@[simp] theorem State.farTransfer_window (s : State) (x : Word × Word) : (s.farTransfer x).window = s.window := rfl
@[simp] theorem State.farTransfer_stepArmed (s : State) (x : Word × Word) : (s.farTransfer x).stepArmed = s.stepArmed := rfl
@[simp] theorem State.farTransfer_stepPending (s : State) (x : Word × Word) : (s.farTransfer x).stepPending = s.stepPending := rfl
@[simp] theorem State.farTransfer_prefixes (s : State) (x : Word × Word) : (s.farTransfer x).prefixes = s.prefixes := rfl
@[simp] theorem State.farTransfer_standby (s : State) (x : Word × Word) : (s.farTransfer x).standby = s.standby := rfl
@[simp] theorem State.farTransfer_haltLocked (s : State) (x : Word × Word) : (s.farTransfer x).haltLocked = s.haltLocked := rfl
@[simp] theorem State.farTransfer_mdwe (s : State) (x : Word × Word) : (s.farTransfer x).mdwe = s.mdwe := rfl
@[simp] theorem State.farTransfer_inProgress (s : State) (x : Word × Word) : (s.farTransfer x).inProgress = s.inProgress := rfl
@[simp] theorem State.farTransfer_pins (s : State) (x : Word × Word) : (s.farTransfer x).pins = s.pins := rfl
@[simp] theorem State.farTransfer_inputs (s : State) (x : Word × Word) : (s.farTransfer x).inputs = s.inputs := rfl
@[simp] theorem State.farTransfer_bus (s : State) (x : Word × Word) : (s.farTransfer x).bus = s.bus := rfl
@[simp] theorem State.farTransfer_fetchLog (s : State) (x : Word × Word) : (s.farTransfer x).fetchLog = .queue .flushed :: s.fetchLog := rfl
@[simp] theorem State.farTransfer_draws (s : State) (x : Word × Word) : (s.farTransfer x).draws = s.draws := rfl

@[simp] theorem State.push16_aw (s : State) (v : Word) : (s.push16 v).aw = s.aw := by simp [State.push16]
@[simp] theorem State.push16_bw (s : State) (v : Word) : (s.push16 v).bw = s.bw := by simp [State.push16]
@[simp] theorem State.push16_cw (s : State) (v : Word) : (s.push16 v).cw = s.cw := by simp [State.push16]
@[simp] theorem State.push16_dw (s : State) (v : Word) : (s.push16 v).dw = s.dw := by simp [State.push16]
@[simp] theorem State.push16_sp (s : State) (v : Word) : (s.push16 v).sp = s.sp - 2 := by simp [State.push16]
@[simp] theorem State.push16_bp (s : State) (v : Word) : (s.push16 v).bp = s.bp := by simp [State.push16]
@[simp] theorem State.push16_ix (s : State) (v : Word) : (s.push16 v).ix = s.ix := by simp [State.push16]
@[simp] theorem State.push16_iy (s : State) (v : Word) : (s.push16 v).iy = s.iy := by simp [State.push16]
@[simp] theorem State.push16_ps (s : State) (v : Word) : (s.push16 v).ps = s.ps := by simp [State.push16]
@[simp] theorem State.push16_ss (s : State) (v : Word) : (s.push16 v).ss = s.ss := by simp [State.push16]
@[simp] theorem State.push16_ds0 (s : State) (v : Word) : (s.push16 v).ds0 = s.ds0 := by simp [State.push16]
@[simp] theorem State.push16_ds1 (s : State) (v : Word) : (s.push16 v).ds1 = s.ds1 := by simp [State.push16]
@[simp] theorem State.push16_pc (s : State) (v : Word) : (s.push16 v).pc = s.pc := by simp [State.push16]
@[simp] theorem State.push16_psw (s : State) (v : Word) : (s.push16 v).psw = s.psw := by simp [State.push16]
@[simp] theorem State.push16_platform (s : State) (v : Word) : (s.push16 v).platform = s.platform := by simp [State.push16]
@[simp] theorem State.push16_chip (s : State) (v : Word) : (s.push16 v).chip = s.chip := by simp [State.push16]
@[simp] theorem State.push16_wiring (s : State) (v : Word) : (s.push16 v).wiring = s.wiring := by simp [State.push16]
@[simp] theorem State.push16_pfp (s : State) (v : Word) : (s.push16 v).pfp = s.pfp := by simp [State.push16]
@[simp] theorem State.push16_queue (s : State) (v : Word) : (s.push16 v).queue = s.queue := by simp [State.push16]
@[simp] theorem State.push16_seen (s : State) (v : Word) : (s.push16 v).seen = s.seen := by simp [State.push16]
@[simp] theorem State.push16_nmiLatch (s : State) (v : Word) : (s.push16 v).nmiLatch = s.nmiLatch := by simp [State.push16]
@[simp] theorem State.push16_window (s : State) (v : Word) : (s.push16 v).window = s.window := by simp [State.push16]
@[simp] theorem State.push16_stepArmed (s : State) (v : Word) : (s.push16 v).stepArmed = s.stepArmed := by simp [State.push16]
@[simp] theorem State.push16_stepPending (s : State) (v : Word) : (s.push16 v).stepPending = s.stepPending := by simp [State.push16]
@[simp] theorem State.push16_prefixes (s : State) (v : Word) : (s.push16 v).prefixes = s.prefixes := by simp [State.push16]
@[simp] theorem State.push16_standby (s : State) (v : Word) : (s.push16 v).standby = s.standby := by simp [State.push16]
@[simp] theorem State.push16_haltLocked (s : State) (v : Word) : (s.push16 v).haltLocked = s.haltLocked := by simp [State.push16]
@[simp] theorem State.push16_mdwe (s : State) (v : Word) : (s.push16 v).mdwe = s.mdwe := by simp [State.push16]
@[simp] theorem State.push16_inProgress (s : State) (v : Word) : (s.push16 v).inProgress = s.inProgress := by simp [State.push16]
@[simp] theorem State.push16_pins (s : State) (v : Word) : (s.push16 v).pins = s.pins := by simp [State.push16]
@[simp] theorem State.push16_inputs (s : State) (v : Word) : (s.push16 v).inputs = s.inputs := by simp [State.push16]
@[simp] theorem State.push16_fetchLog (s : State) (v : Word) : (s.push16 v).fetchLog = s.fetchLog := by simp [State.push16]
@[simp] theorem State.push16_draws (s : State) (v : Word) : (s.push16 v).draws = s.draws := by simp [State.push16]

@[simp] theorem State.pushFrame_aw (s : State) (ret : Word) : (s.pushFrame ret).aw = s.aw := by simp [State.pushFrame]
@[simp] theorem State.pushFrame_bw (s : State) (ret : Word) : (s.pushFrame ret).bw = s.bw := by simp [State.pushFrame]
@[simp] theorem State.pushFrame_cw (s : State) (ret : Word) : (s.pushFrame ret).cw = s.cw := by simp [State.pushFrame]
@[simp] theorem State.pushFrame_dw (s : State) (ret : Word) : (s.pushFrame ret).dw = s.dw := by simp [State.pushFrame]
@[simp] theorem State.pushFrame_sp (s : State) (ret : Word) : (s.pushFrame ret).sp = s.sp - 2 - 2 - 2 := by simp [State.pushFrame]
@[simp] theorem State.pushFrame_bp (s : State) (ret : Word) : (s.pushFrame ret).bp = s.bp := by simp [State.pushFrame]
@[simp] theorem State.pushFrame_ix (s : State) (ret : Word) : (s.pushFrame ret).ix = s.ix := by simp [State.pushFrame]
@[simp] theorem State.pushFrame_iy (s : State) (ret : Word) : (s.pushFrame ret).iy = s.iy := by simp [State.pushFrame]
@[simp] theorem State.pushFrame_ps (s : State) (ret : Word) : (s.pushFrame ret).ps = s.ps := by simp [State.pushFrame]
@[simp] theorem State.pushFrame_ss (s : State) (ret : Word) : (s.pushFrame ret).ss = s.ss := by simp [State.pushFrame]
@[simp] theorem State.pushFrame_ds0 (s : State) (ret : Word) : (s.pushFrame ret).ds0 = s.ds0 := by simp [State.pushFrame]
@[simp] theorem State.pushFrame_ds1 (s : State) (ret : Word) : (s.pushFrame ret).ds1 = s.ds1 := by simp [State.pushFrame]
@[simp] theorem State.pushFrame_pc (s : State) (ret : Word) : (s.pushFrame ret).pc = s.pc := by simp [State.pushFrame]
@[simp] theorem State.pushFrame_psw (s : State) (ret : Word) : (s.pushFrame ret).psw = s.psw := by simp [State.pushFrame]
@[simp] theorem State.pushFrame_platform (s : State) (ret : Word) : (s.pushFrame ret).platform = s.platform := by simp [State.pushFrame]
@[simp] theorem State.pushFrame_chip (s : State) (ret : Word) : (s.pushFrame ret).chip = s.chip := by simp [State.pushFrame]
@[simp] theorem State.pushFrame_wiring (s : State) (ret : Word) : (s.pushFrame ret).wiring = s.wiring := by simp [State.pushFrame]
@[simp] theorem State.pushFrame_pfp (s : State) (ret : Word) : (s.pushFrame ret).pfp = s.pfp := by simp [State.pushFrame]
@[simp] theorem State.pushFrame_queue (s : State) (ret : Word) : (s.pushFrame ret).queue = s.queue := by simp [State.pushFrame]
@[simp] theorem State.pushFrame_seen (s : State) (ret : Word) : (s.pushFrame ret).seen = s.seen := by simp [State.pushFrame]
@[simp] theorem State.pushFrame_nmiLatch (s : State) (ret : Word) : (s.pushFrame ret).nmiLatch = s.nmiLatch := by simp [State.pushFrame]
@[simp] theorem State.pushFrame_window (s : State) (ret : Word) : (s.pushFrame ret).window = s.window := by simp [State.pushFrame]
@[simp] theorem State.pushFrame_stepArmed (s : State) (ret : Word) : (s.pushFrame ret).stepArmed = s.stepArmed := by simp [State.pushFrame]
@[simp] theorem State.pushFrame_stepPending (s : State) (ret : Word) : (s.pushFrame ret).stepPending = s.stepPending := by simp [State.pushFrame]
@[simp] theorem State.pushFrame_prefixes (s : State) (ret : Word) : (s.pushFrame ret).prefixes = s.prefixes := by simp [State.pushFrame]
@[simp] theorem State.pushFrame_standby (s : State) (ret : Word) : (s.pushFrame ret).standby = s.standby := by simp [State.pushFrame]
@[simp] theorem State.pushFrame_haltLocked (s : State) (ret : Word) : (s.pushFrame ret).haltLocked = s.haltLocked := by simp [State.pushFrame]
@[simp] theorem State.pushFrame_mdwe (s : State) (ret : Word) : (s.pushFrame ret).mdwe = s.mdwe := by simp [State.pushFrame]
@[simp] theorem State.pushFrame_inProgress (s : State) (ret : Word) : (s.pushFrame ret).inProgress = s.inProgress := by simp [State.pushFrame]
@[simp] theorem State.pushFrame_pins (s : State) (ret : Word) : (s.pushFrame ret).pins = s.pins := by simp [State.pushFrame]
@[simp] theorem State.pushFrame_inputs (s : State) (ret : Word) : (s.pushFrame ret).inputs = s.inputs := by simp [State.pushFrame]
@[simp] theorem State.pushFrame_fetchLog (s : State) (ret : Word) : (s.pushFrame ret).fetchLog = s.fetchLog := by simp [State.pushFrame]
@[simp] theorem State.pushFrame_draws (s : State) (ret : Word) : (s.pushFrame ret).draws = s.draws := by simp [State.pushFrame]

@[simp] theorem State.dropWords_aw (s : State) (n : Nat) : (s.dropWords n).aw = s.aw := rfl
@[simp] theorem State.dropWords_bw (s : State) (n : Nat) : (s.dropWords n).bw = s.bw := rfl
@[simp] theorem State.dropWords_cw (s : State) (n : Nat) : (s.dropWords n).cw = s.cw := rfl
@[simp] theorem State.dropWords_dw (s : State) (n : Nat) : (s.dropWords n).dw = s.dw := rfl
@[simp] theorem State.dropWords_sp (s : State) (n : Nat) : (s.dropWords n).sp = s.sp + BitVec.ofNat 16 (2 * n) := rfl
@[simp] theorem State.dropWords_bp (s : State) (n : Nat) : (s.dropWords n).bp = s.bp := rfl
@[simp] theorem State.dropWords_ix (s : State) (n : Nat) : (s.dropWords n).ix = s.ix := rfl
@[simp] theorem State.dropWords_iy (s : State) (n : Nat) : (s.dropWords n).iy = s.iy := rfl
@[simp] theorem State.dropWords_ps (s : State) (n : Nat) : (s.dropWords n).ps = s.ps := rfl
@[simp] theorem State.dropWords_ss (s : State) (n : Nat) : (s.dropWords n).ss = s.ss := rfl
@[simp] theorem State.dropWords_ds0 (s : State) (n : Nat) : (s.dropWords n).ds0 = s.ds0 := rfl
@[simp] theorem State.dropWords_ds1 (s : State) (n : Nat) : (s.dropWords n).ds1 = s.ds1 := rfl
@[simp] theorem State.dropWords_pc (s : State) (n : Nat) : (s.dropWords n).pc = s.pc := rfl
@[simp] theorem State.dropWords_psw (s : State) (n : Nat) : (s.dropWords n).psw = s.psw := rfl
@[simp] theorem State.dropWords_mem (s : State) (n : Nat) : (s.dropWords n).mem = s.mem := rfl
@[simp] theorem State.dropWords_platform (s : State) (n : Nat) : (s.dropWords n).platform = s.platform := rfl
@[simp] theorem State.dropWords_chip (s : State) (n : Nat) : (s.dropWords n).chip = s.chip := rfl
@[simp] theorem State.dropWords_wiring (s : State) (n : Nat) : (s.dropWords n).wiring = s.wiring := rfl
@[simp] theorem State.dropWords_pfp (s : State) (n : Nat) : (s.dropWords n).pfp = s.pfp := rfl
@[simp] theorem State.dropWords_queue (s : State) (n : Nat) : (s.dropWords n).queue = s.queue := rfl
@[simp] theorem State.dropWords_seen (s : State) (n : Nat) : (s.dropWords n).seen = s.seen := rfl
@[simp] theorem State.dropWords_nmiLatch (s : State) (n : Nat) : (s.dropWords n).nmiLatch = s.nmiLatch := rfl
@[simp] theorem State.dropWords_window (s : State) (n : Nat) : (s.dropWords n).window = s.window := rfl
@[simp] theorem State.dropWords_stepArmed (s : State) (n : Nat) : (s.dropWords n).stepArmed = s.stepArmed := rfl
@[simp] theorem State.dropWords_stepPending (s : State) (n : Nat) : (s.dropWords n).stepPending = s.stepPending := rfl
@[simp] theorem State.dropWords_prefixes (s : State) (n : Nat) : (s.dropWords n).prefixes = s.prefixes := rfl
@[simp] theorem State.dropWords_standby (s : State) (n : Nat) : (s.dropWords n).standby = s.standby := rfl
@[simp] theorem State.dropWords_haltLocked (s : State) (n : Nat) : (s.dropWords n).haltLocked = s.haltLocked := rfl
@[simp] theorem State.dropWords_mdwe (s : State) (n : Nat) : (s.dropWords n).mdwe = s.mdwe := rfl
@[simp] theorem State.dropWords_inProgress (s : State) (n : Nat) : (s.dropWords n).inProgress = s.inProgress := rfl
@[simp] theorem State.dropWords_pins (s : State) (n : Nat) : (s.dropWords n).pins = s.pins := rfl
@[simp] theorem State.dropWords_inputs (s : State) (n : Nat) : (s.dropWords n).inputs = s.inputs := rfl
@[simp] theorem State.dropWords_bus (s : State) (n : Nat) : (s.dropWords n).bus = s.bus := rfl
@[simp] theorem State.dropWords_fetchLog (s : State) (n : Nat) : (s.dropWords n).fetchLog = s.fetchLog := rfl
@[simp] theorem State.dropWords_draws (s : State) (n : Nat) : (s.dropWords n).draws = s.draws := rfl

@[simp] theorem State.popWords_aw (s : State) (n : Nat) : (s.popWords n).aw = s.aw := rfl
@[simp] theorem State.popWords_bw (s : State) (n : Nat) : (s.popWords n).bw = s.bw := rfl
@[simp] theorem State.popWords_cw (s : State) (n : Nat) : (s.popWords n).cw = s.cw := rfl
@[simp] theorem State.popWords_dw (s : State) (n : Nat) : (s.popWords n).dw = s.dw := rfl
@[simp] theorem State.popWords_sp (s : State) (n : Nat) : (s.popWords n).sp = s.sp + BitVec.ofNat 16 (2 * n) := rfl
@[simp] theorem State.popWords_bp (s : State) (n : Nat) : (s.popWords n).bp = s.bp := rfl
@[simp] theorem State.popWords_ix (s : State) (n : Nat) : (s.popWords n).ix = s.ix := rfl
@[simp] theorem State.popWords_iy (s : State) (n : Nat) : (s.popWords n).iy = s.iy := rfl
@[simp] theorem State.popWords_ps (s : State) (n : Nat) : (s.popWords n).ps = s.ps := rfl
@[simp] theorem State.popWords_ss (s : State) (n : Nat) : (s.popWords n).ss = s.ss := rfl
@[simp] theorem State.popWords_ds0 (s : State) (n : Nat) : (s.popWords n).ds0 = s.ds0 := rfl
@[simp] theorem State.popWords_ds1 (s : State) (n : Nat) : (s.popWords n).ds1 = s.ds1 := rfl
@[simp] theorem State.popWords_pc (s : State) (n : Nat) : (s.popWords n).pc = s.pc := rfl
@[simp] theorem State.popWords_psw (s : State) (n : Nat) : (s.popWords n).psw = s.psw := rfl
@[simp] theorem State.popWords_mem (s : State) (n : Nat) : (s.popWords n).mem = s.mem := rfl
@[simp] theorem State.popWords_platform (s : State) (n : Nat) : (s.popWords n).platform = s.platform := rfl
@[simp] theorem State.popWords_chip (s : State) (n : Nat) : (s.popWords n).chip = s.chip := rfl
@[simp] theorem State.popWords_wiring (s : State) (n : Nat) : (s.popWords n).wiring = s.wiring := rfl
@[simp] theorem State.popWords_pfp (s : State) (n : Nat) : (s.popWords n).pfp = s.pfp := rfl
@[simp] theorem State.popWords_queue (s : State) (n : Nat) : (s.popWords n).queue = s.queue := rfl
@[simp] theorem State.popWords_seen (s : State) (n : Nat) : (s.popWords n).seen = s.seen := rfl
@[simp] theorem State.popWords_nmiLatch (s : State) (n : Nat) : (s.popWords n).nmiLatch = s.nmiLatch := rfl
@[simp] theorem State.popWords_window (s : State) (n : Nat) : (s.popWords n).window = s.window := rfl
@[simp] theorem State.popWords_stepArmed (s : State) (n : Nat) : (s.popWords n).stepArmed = s.stepArmed := rfl
@[simp] theorem State.popWords_stepPending (s : State) (n : Nat) : (s.popWords n).stepPending = s.stepPending := rfl
@[simp] theorem State.popWords_prefixes (s : State) (n : Nat) : (s.popWords n).prefixes = s.prefixes := rfl
@[simp] theorem State.popWords_standby (s : State) (n : Nat) : (s.popWords n).standby = s.standby := rfl
@[simp] theorem State.popWords_haltLocked (s : State) (n : Nat) : (s.popWords n).haltLocked = s.haltLocked := rfl
@[simp] theorem State.popWords_mdwe (s : State) (n : Nat) : (s.popWords n).mdwe = s.mdwe := rfl
@[simp] theorem State.popWords_inProgress (s : State) (n : Nat) : (s.popWords n).inProgress = s.inProgress := rfl
@[simp] theorem State.popWords_pins (s : State) (n : Nat) : (s.popWords n).pins = s.pins := rfl
@[simp] theorem State.popWords_inputs (s : State) (n : Nat) : (s.popWords n).inputs = s.inputs := rfl
@[simp] theorem State.popWords_bus (s : State) (n : Nat) : (s.popWords n).bus = (s.afterStack (List.range n)).bus := rfl
@[simp] theorem State.popWords_fetchLog (s : State) (n : Nat) : (s.popWords n).fetchLog = s.fetchLog := rfl
@[simp] theorem State.popWords_draws (s : State) (n : Nat) : (s.popWords n).draws = s.draws := rfl

@[simp] theorem State.loadPsw_aw (s : State) (x : Word) : (s.loadPsw x).aw = s.aw := rfl
@[simp] theorem State.loadPsw_bw (s : State) (x : Word) : (s.loadPsw x).bw = s.bw := rfl
@[simp] theorem State.loadPsw_cw (s : State) (x : Word) : (s.loadPsw x).cw = s.cw := rfl
@[simp] theorem State.loadPsw_dw (s : State) (x : Word) : (s.loadPsw x).dw = s.dw := rfl
@[simp] theorem State.loadPsw_sp (s : State) (x : Word) : (s.loadPsw x).sp = s.sp := rfl
@[simp] theorem State.loadPsw_bp (s : State) (x : Word) : (s.loadPsw x).bp = s.bp := rfl
@[simp] theorem State.loadPsw_ix (s : State) (x : Word) : (s.loadPsw x).ix = s.ix := rfl
@[simp] theorem State.loadPsw_iy (s : State) (x : Word) : (s.loadPsw x).iy = s.iy := rfl
@[simp] theorem State.loadPsw_ps (s : State) (x : Word) : (s.loadPsw x).ps = s.ps := rfl
@[simp] theorem State.loadPsw_ss (s : State) (x : Word) : (s.loadPsw x).ss = s.ss := rfl
@[simp] theorem State.loadPsw_ds0 (s : State) (x : Word) : (s.loadPsw x).ds0 = s.ds0 := rfl
@[simp] theorem State.loadPsw_ds1 (s : State) (x : Word) : (s.loadPsw x).ds1 = s.ds1 := rfl
@[simp] theorem State.loadPsw_pc (s : State) (x : Word) : (s.loadPsw x).pc = s.pc := rfl
@[simp] theorem State.loadPsw_mem (s : State) (x : Word) : (s.loadPsw x).mem = s.mem := rfl
@[simp] theorem State.loadPsw_platform (s : State) (x : Word) : (s.loadPsw x).platform = s.platform := rfl
@[simp] theorem State.loadPsw_chip (s : State) (x : Word) : (s.loadPsw x).chip = s.chip := rfl
@[simp] theorem State.loadPsw_wiring (s : State) (x : Word) : (s.loadPsw x).wiring = s.wiring := rfl
@[simp] theorem State.loadPsw_pfp (s : State) (x : Word) : (s.loadPsw x).pfp = s.pfp := rfl
@[simp] theorem State.loadPsw_queue (s : State) (x : Word) : (s.loadPsw x).queue = s.queue := rfl
@[simp] theorem State.loadPsw_seen (s : State) (x : Word) : (s.loadPsw x).seen = s.seen := rfl
@[simp] theorem State.loadPsw_nmiLatch (s : State) (x : Word) : (s.loadPsw x).nmiLatch = s.nmiLatch := rfl
@[simp] theorem State.loadPsw_window (s : State) (x : Word) : (s.loadPsw x).window = s.window := rfl
@[simp] theorem State.loadPsw_stepArmed (s : State) (x : Word) : (s.loadPsw x).stepArmed = s.stepArmed := rfl
@[simp] theorem State.loadPsw_stepPending (s : State) (x : Word) : (s.loadPsw x).stepPending = s.stepPending := rfl
@[simp] theorem State.loadPsw_prefixes (s : State) (x : Word) : (s.loadPsw x).prefixes = s.prefixes := rfl
@[simp] theorem State.loadPsw_standby (s : State) (x : Word) : (s.loadPsw x).standby = s.standby := rfl
@[simp] theorem State.loadPsw_haltLocked (s : State) (x : Word) : (s.loadPsw x).haltLocked = s.haltLocked := rfl
@[simp] theorem State.loadPsw_mdwe (s : State) (x : Word) : (s.loadPsw x).mdwe = s.mdwe := rfl
@[simp] theorem State.loadPsw_inProgress (s : State) (x : Word) : (s.loadPsw x).inProgress = s.inProgress := rfl
@[simp] theorem State.loadPsw_pins (s : State) (x : Word) : (s.loadPsw x).pins = s.pins := rfl
@[simp] theorem State.loadPsw_inputs (s : State) (x : Word) : (s.loadPsw x).inputs = s.inputs := rfl
@[simp] theorem State.loadPsw_bus (s : State) (x : Word) : (s.loadPsw x).bus = s.bus := rfl
@[simp] theorem State.loadPsw_fetchLog (s : State) (x : Word) : (s.loadPsw x).fetchLog = s.fetchLog := rfl
@[simp] theorem State.loadPsw_draws (s : State) (x : Word) : (s.loadPsw x).draws = s.draws := rfl

@[simp] theorem State.setStatus_aw (s : State) (f : Status) : (s.setStatus f).aw = s.aw := rfl
@[simp] theorem State.setStatus_bw (s : State) (f : Status) : (s.setStatus f).bw = s.bw := rfl
@[simp] theorem State.setStatus_cw (s : State) (f : Status) : (s.setStatus f).cw = s.cw := rfl
@[simp] theorem State.setStatus_dw (s : State) (f : Status) : (s.setStatus f).dw = s.dw := rfl
@[simp] theorem State.setStatus_sp (s : State) (f : Status) : (s.setStatus f).sp = s.sp := rfl
@[simp] theorem State.setStatus_bp (s : State) (f : Status) : (s.setStatus f).bp = s.bp := rfl
@[simp] theorem State.setStatus_ix (s : State) (f : Status) : (s.setStatus f).ix = s.ix := rfl
@[simp] theorem State.setStatus_iy (s : State) (f : Status) : (s.setStatus f).iy = s.iy := rfl
@[simp] theorem State.setStatus_ps (s : State) (f : Status) : (s.setStatus f).ps = s.ps := rfl
@[simp] theorem State.setStatus_ss (s : State) (f : Status) : (s.setStatus f).ss = s.ss := rfl
@[simp] theorem State.setStatus_ds0 (s : State) (f : Status) : (s.setStatus f).ds0 = s.ds0 := rfl
@[simp] theorem State.setStatus_ds1 (s : State) (f : Status) : (s.setStatus f).ds1 = s.ds1 := rfl
@[simp] theorem State.setStatus_pc (s : State) (f : Status) : (s.setStatus f).pc = s.pc := rfl
@[simp] theorem State.setStatus_psw (s : State) (f : Status) : (s.setStatus f).psw = s.psw.withStatus f := rfl
@[simp] theorem State.setStatus_mem (s : State) (f : Status) : (s.setStatus f).mem = s.mem := rfl
@[simp] theorem State.setStatus_platform (s : State) (f : Status) : (s.setStatus f).platform = s.platform := rfl
@[simp] theorem State.setStatus_chip (s : State) (f : Status) : (s.setStatus f).chip = s.chip := rfl
@[simp] theorem State.setStatus_wiring (s : State) (f : Status) : (s.setStatus f).wiring = s.wiring := rfl
@[simp] theorem State.setStatus_pfp (s : State) (f : Status) : (s.setStatus f).pfp = s.pfp := rfl
@[simp] theorem State.setStatus_queue (s : State) (f : Status) : (s.setStatus f).queue = s.queue := rfl
@[simp] theorem State.setStatus_seen (s : State) (f : Status) : (s.setStatus f).seen = s.seen := rfl
@[simp] theorem State.setStatus_nmiLatch (s : State) (f : Status) : (s.setStatus f).nmiLatch = s.nmiLatch := rfl
@[simp] theorem State.setStatus_window (s : State) (f : Status) : (s.setStatus f).window = s.window := rfl
@[simp] theorem State.setStatus_stepArmed (s : State) (f : Status) : (s.setStatus f).stepArmed = s.stepArmed := rfl
@[simp] theorem State.setStatus_stepPending (s : State) (f : Status) : (s.setStatus f).stepPending = s.stepPending := rfl
@[simp] theorem State.setStatus_prefixes (s : State) (f : Status) : (s.setStatus f).prefixes = s.prefixes := rfl
@[simp] theorem State.setStatus_standby (s : State) (f : Status) : (s.setStatus f).standby = s.standby := rfl
@[simp] theorem State.setStatus_haltLocked (s : State) (f : Status) : (s.setStatus f).haltLocked = s.haltLocked := rfl
@[simp] theorem State.setStatus_mdwe (s : State) (f : Status) : (s.setStatus f).mdwe = s.mdwe := rfl
@[simp] theorem State.setStatus_inProgress (s : State) (f : Status) : (s.setStatus f).inProgress = s.inProgress := rfl
@[simp] theorem State.setStatus_pins (s : State) (f : Status) : (s.setStatus f).pins = s.pins := rfl
@[simp] theorem State.setStatus_inputs (s : State) (f : Status) : (s.setStatus f).inputs = s.inputs := rfl
@[simp] theorem State.setStatus_bus (s : State) (f : Status) : (s.setStatus f).bus = s.bus := rfl
@[simp] theorem State.setStatus_fetchLog (s : State) (f : Status) : (s.setStatus f).fetchLog = s.fetchLog := rfl
@[simp] theorem State.setStatus_draws (s : State) (f : Status) : (s.setStatus f).draws = s.draws := rfl

@[simp] theorem State.toVector_aw (s : State) (n : Byte) : (s.toVector n).aw = s.aw := rfl
@[simp] theorem State.toVector_bw (s : State) (n : Byte) : (s.toVector n).bw = s.bw := rfl
@[simp] theorem State.toVector_cw (s : State) (n : Byte) : (s.toVector n).cw = s.cw := rfl
@[simp] theorem State.toVector_dw (s : State) (n : Byte) : (s.toVector n).dw = s.dw := rfl
@[simp] theorem State.toVector_sp (s : State) (n : Byte) : (s.toVector n).sp = s.sp := rfl
@[simp] theorem State.toVector_bp (s : State) (n : Byte) : (s.toVector n).bp = s.bp := rfl
@[simp] theorem State.toVector_ix (s : State) (n : Byte) : (s.toVector n).ix = s.ix := rfl
@[simp] theorem State.toVector_iy (s : State) (n : Byte) : (s.toVector n).iy = s.iy := rfl
@[simp] theorem State.toVector_ps (s : State) (n : Byte) : (s.toVector n).ps = s.loadPhysical (4 * n.toNat + 2) := rfl
@[simp] theorem State.toVector_ss (s : State) (n : Byte) : (s.toVector n).ss = s.ss := rfl
@[simp] theorem State.toVector_ds0 (s : State) (n : Byte) : (s.toVector n).ds0 = s.ds0 := rfl
@[simp] theorem State.toVector_ds1 (s : State) (n : Byte) : (s.toVector n).ds1 = s.ds1 := rfl
@[simp] theorem State.toVector_pc (s : State) (n : Byte) : (s.toVector n).pc = s.loadPhysical (4 * n.toNat) := rfl
@[simp] theorem State.toVector_psw (s : State) (n : Byte) : (s.toVector n).psw = s.psw := rfl
@[simp] theorem State.toVector_mem (s : State) (n : Byte) : (s.toVector n).mem = s.mem := rfl
@[simp] theorem State.toVector_platform (s : State) (n : Byte) : (s.toVector n).platform = s.platform := rfl
@[simp] theorem State.toVector_chip (s : State) (n : Byte) : (s.toVector n).chip = s.chip := rfl
@[simp] theorem State.toVector_wiring (s : State) (n : Byte) : (s.toVector n).wiring = s.wiring := rfl
@[simp] theorem State.toVector_pfp (s : State) (n : Byte) : (s.toVector n).pfp = s.loadPhysical (4 * n.toNat) := rfl
@[simp] theorem State.toVector_queue (s : State) (n : Byte) : (s.toVector n).queue = [] := rfl
@[simp] theorem State.toVector_seen (s : State) (n : Byte) : (s.toVector n).seen = [] := rfl
@[simp] theorem State.toVector_nmiLatch (s : State) (n : Byte) : (s.toVector n).nmiLatch = s.nmiLatch := rfl
@[simp] theorem State.toVector_window (s : State) (n : Byte) : (s.toVector n).window = s.window := rfl
@[simp] theorem State.toVector_stepArmed (s : State) (n : Byte) : (s.toVector n).stepArmed = s.stepArmed := rfl
@[simp] theorem State.toVector_stepPending (s : State) (n : Byte) : (s.toVector n).stepPending = s.stepPending := rfl
@[simp] theorem State.toVector_prefixes (s : State) (n : Byte) : (s.toVector n).prefixes = s.prefixes := rfl
@[simp] theorem State.toVector_standby (s : State) (n : Byte) : (s.toVector n).standby = s.standby := rfl
@[simp] theorem State.toVector_haltLocked (s : State) (n : Byte) : (s.toVector n).haltLocked = s.haltLocked := rfl
@[simp] theorem State.toVector_mdwe (s : State) (n : Byte) : (s.toVector n).mdwe = s.mdwe := rfl
@[simp] theorem State.toVector_inProgress (s : State) (n : Byte) : (s.toVector n).inProgress = s.inProgress := rfl
@[simp] theorem State.toVector_pins (s : State) (n : Byte) : (s.toVector n).pins = s.pins := rfl
@[simp] theorem State.toVector_inputs (s : State) (n : Byte) : (s.toVector n).inputs = s.inputs := rfl
@[simp] theorem State.toVector_bus (s : State) (n : Byte) : (s.toVector n).bus = ((s.vectorCycles (4 * n.toNat)).map BusEvent.cycle).reverse ++ s.bus := rfl
@[simp] theorem State.toVector_fetchLog (s : State) (n : Byte) : (s.toVector n).fetchLog = .queue .flushed :: s.fetchLog := rfl
@[simp] theorem State.toVector_draws (s : State) (n : Byte) : (s.toVector n).draws = s.draws := rfl

@[simp] theorem State.openWindow_aw (s : State) (w : Window) : (s.openWindow w).aw = s.aw := rfl
@[simp] theorem State.openWindow_bw (s : State) (w : Window) : (s.openWindow w).bw = s.bw := rfl
@[simp] theorem State.openWindow_cw (s : State) (w : Window) : (s.openWindow w).cw = s.cw := rfl
@[simp] theorem State.openWindow_dw (s : State) (w : Window) : (s.openWindow w).dw = s.dw := rfl
@[simp] theorem State.openWindow_sp (s : State) (w : Window) : (s.openWindow w).sp = s.sp := rfl
@[simp] theorem State.openWindow_bp (s : State) (w : Window) : (s.openWindow w).bp = s.bp := rfl
@[simp] theorem State.openWindow_ix (s : State) (w : Window) : (s.openWindow w).ix = s.ix := rfl
@[simp] theorem State.openWindow_iy (s : State) (w : Window) : (s.openWindow w).iy = s.iy := rfl
@[simp] theorem State.openWindow_ps (s : State) (w : Window) : (s.openWindow w).ps = s.ps := rfl
@[simp] theorem State.openWindow_ss (s : State) (w : Window) : (s.openWindow w).ss = s.ss := rfl
@[simp] theorem State.openWindow_ds0 (s : State) (w : Window) : (s.openWindow w).ds0 = s.ds0 := rfl
@[simp] theorem State.openWindow_ds1 (s : State) (w : Window) : (s.openWindow w).ds1 = s.ds1 := rfl
@[simp] theorem State.openWindow_pc (s : State) (w : Window) : (s.openWindow w).pc = s.pc := rfl
@[simp] theorem State.openWindow_psw (s : State) (w : Window) : (s.openWindow w).psw = s.psw := rfl
@[simp] theorem State.openWindow_mem (s : State) (w : Window) : (s.openWindow w).mem = s.mem := rfl
@[simp] theorem State.openWindow_platform (s : State) (w : Window) : (s.openWindow w).platform = s.platform := rfl
@[simp] theorem State.openWindow_chip (s : State) (w : Window) : (s.openWindow w).chip = s.chip := rfl
@[simp] theorem State.openWindow_wiring (s : State) (w : Window) : (s.openWindow w).wiring = s.wiring := rfl
@[simp] theorem State.openWindow_pfp (s : State) (w : Window) : (s.openWindow w).pfp = s.pfp := rfl
@[simp] theorem State.openWindow_queue (s : State) (w : Window) : (s.openWindow w).queue = s.queue := rfl
@[simp] theorem State.openWindow_seen (s : State) (w : Window) : (s.openWindow w).seen = s.seen := rfl
@[simp] theorem State.openWindow_nmiLatch (s : State) (w : Window) : (s.openWindow w).nmiLatch = s.nmiLatch := rfl
@[simp] theorem State.openWindow_window (s : State) (w : Window) : (s.openWindow w).window = w := rfl
@[simp] theorem State.openWindow_stepArmed (s : State) (w : Window) : (s.openWindow w).stepArmed = s.stepArmed := rfl
@[simp] theorem State.openWindow_stepPending (s : State) (w : Window) : (s.openWindow w).stepPending = s.stepPending := rfl
@[simp] theorem State.openWindow_prefixes (s : State) (w : Window) : (s.openWindow w).prefixes = s.prefixes := rfl
@[simp] theorem State.openWindow_standby (s : State) (w : Window) : (s.openWindow w).standby = s.standby := rfl
@[simp] theorem State.openWindow_haltLocked (s : State) (w : Window) : (s.openWindow w).haltLocked = s.haltLocked := rfl
@[simp] theorem State.openWindow_mdwe (s : State) (w : Window) : (s.openWindow w).mdwe = s.mdwe := rfl
@[simp] theorem State.openWindow_inProgress (s : State) (w : Window) : (s.openWindow w).inProgress = s.inProgress := rfl
@[simp] theorem State.openWindow_pins (s : State) (w : Window) : (s.openWindow w).pins = s.pins := rfl
@[simp] theorem State.openWindow_inputs (s : State) (w : Window) : (s.openWindow w).inputs = s.inputs := rfl
@[simp] theorem State.openWindow_bus (s : State) (w : Window) : (s.openWindow w).bus = s.bus := rfl
@[simp] theorem State.openWindow_fetchLog (s : State) (w : Window) : (s.openWindow w).fetchLog = s.fetchLog := rfl
@[simp] theorem State.openWindow_draws (s : State) (w : Window) : (s.openWindow w).draws = s.draws := rfl

@[simp] theorem State.setIe_aw (s : State) (b : Bool) : (s.setIe b).aw = s.aw := rfl
@[simp] theorem State.setIe_bw (s : State) (b : Bool) : (s.setIe b).bw = s.bw := rfl
@[simp] theorem State.setIe_cw (s : State) (b : Bool) : (s.setIe b).cw = s.cw := rfl
@[simp] theorem State.setIe_dw (s : State) (b : Bool) : (s.setIe b).dw = s.dw := rfl
@[simp] theorem State.setIe_sp (s : State) (b : Bool) : (s.setIe b).sp = s.sp := rfl
@[simp] theorem State.setIe_bp (s : State) (b : Bool) : (s.setIe b).bp = s.bp := rfl
@[simp] theorem State.setIe_ix (s : State) (b : Bool) : (s.setIe b).ix = s.ix := rfl
@[simp] theorem State.setIe_iy (s : State) (b : Bool) : (s.setIe b).iy = s.iy := rfl
@[simp] theorem State.setIe_ps (s : State) (b : Bool) : (s.setIe b).ps = s.ps := rfl
@[simp] theorem State.setIe_ss (s : State) (b : Bool) : (s.setIe b).ss = s.ss := rfl
@[simp] theorem State.setIe_ds0 (s : State) (b : Bool) : (s.setIe b).ds0 = s.ds0 := rfl
@[simp] theorem State.setIe_ds1 (s : State) (b : Bool) : (s.setIe b).ds1 = s.ds1 := rfl
@[simp] theorem State.setIe_pc (s : State) (b : Bool) : (s.setIe b).pc = s.pc := rfl
@[simp] theorem State.setIe_mem (s : State) (b : Bool) : (s.setIe b).mem = s.mem := rfl
@[simp] theorem State.setIe_platform (s : State) (b : Bool) : (s.setIe b).platform = s.platform := rfl
@[simp] theorem State.setIe_chip (s : State) (b : Bool) : (s.setIe b).chip = s.chip := rfl
@[simp] theorem State.setIe_wiring (s : State) (b : Bool) : (s.setIe b).wiring = s.wiring := rfl
@[simp] theorem State.setIe_pfp (s : State) (b : Bool) : (s.setIe b).pfp = s.pfp := rfl
@[simp] theorem State.setIe_queue (s : State) (b : Bool) : (s.setIe b).queue = s.queue := rfl
@[simp] theorem State.setIe_seen (s : State) (b : Bool) : (s.setIe b).seen = s.seen := rfl
@[simp] theorem State.setIe_nmiLatch (s : State) (b : Bool) : (s.setIe b).nmiLatch = s.nmiLatch := rfl
@[simp] theorem State.setIe_window (s : State) (b : Bool) : (s.setIe b).window = s.window := rfl
@[simp] theorem State.setIe_stepArmed (s : State) (b : Bool) : (s.setIe b).stepArmed = s.stepArmed := rfl
@[simp] theorem State.setIe_stepPending (s : State) (b : Bool) : (s.setIe b).stepPending = s.stepPending := rfl
@[simp] theorem State.setIe_prefixes (s : State) (b : Bool) : (s.setIe b).prefixes = s.prefixes := rfl
@[simp] theorem State.setIe_standby (s : State) (b : Bool) : (s.setIe b).standby = s.standby := rfl
@[simp] theorem State.setIe_haltLocked (s : State) (b : Bool) : (s.setIe b).haltLocked = s.haltLocked := rfl
@[simp] theorem State.setIe_mdwe (s : State) (b : Bool) : (s.setIe b).mdwe = s.mdwe := rfl
@[simp] theorem State.setIe_inProgress (s : State) (b : Bool) : (s.setIe b).inProgress = s.inProgress := rfl
@[simp] theorem State.setIe_pins (s : State) (b : Bool) : (s.setIe b).pins = s.pins := rfl
@[simp] theorem State.setIe_inputs (s : State) (b : Bool) : (s.setIe b).inputs = s.inputs := rfl
@[simp] theorem State.setIe_bus (s : State) (b : Bool) : (s.setIe b).bus = s.bus := rfl
@[simp] theorem State.setIe_fetchLog (s : State) (b : Bool) : (s.setIe b).fetchLog = s.fetchLog := rfl
@[simp] theorem State.setIe_draws (s : State) (b : Bool) : (s.setIe b).draws = s.draws := rfl

@[simp] theorem State.setDir_aw (s : State) (b : Bool) : (s.setDir b).aw = s.aw := rfl
@[simp] theorem State.setDir_bw (s : State) (b : Bool) : (s.setDir b).bw = s.bw := rfl
@[simp] theorem State.setDir_cw (s : State) (b : Bool) : (s.setDir b).cw = s.cw := rfl
@[simp] theorem State.setDir_dw (s : State) (b : Bool) : (s.setDir b).dw = s.dw := rfl
@[simp] theorem State.setDir_sp (s : State) (b : Bool) : (s.setDir b).sp = s.sp := rfl
@[simp] theorem State.setDir_bp (s : State) (b : Bool) : (s.setDir b).bp = s.bp := rfl
@[simp] theorem State.setDir_ix (s : State) (b : Bool) : (s.setDir b).ix = s.ix := rfl
@[simp] theorem State.setDir_iy (s : State) (b : Bool) : (s.setDir b).iy = s.iy := rfl
@[simp] theorem State.setDir_ps (s : State) (b : Bool) : (s.setDir b).ps = s.ps := rfl
@[simp] theorem State.setDir_ss (s : State) (b : Bool) : (s.setDir b).ss = s.ss := rfl
@[simp] theorem State.setDir_ds0 (s : State) (b : Bool) : (s.setDir b).ds0 = s.ds0 := rfl
@[simp] theorem State.setDir_ds1 (s : State) (b : Bool) : (s.setDir b).ds1 = s.ds1 := rfl
@[simp] theorem State.setDir_pc (s : State) (b : Bool) : (s.setDir b).pc = s.pc := rfl
@[simp] theorem State.setDir_mem (s : State) (b : Bool) : (s.setDir b).mem = s.mem := rfl
@[simp] theorem State.setDir_platform (s : State) (b : Bool) : (s.setDir b).platform = s.platform := rfl
@[simp] theorem State.setDir_chip (s : State) (b : Bool) : (s.setDir b).chip = s.chip := rfl
@[simp] theorem State.setDir_wiring (s : State) (b : Bool) : (s.setDir b).wiring = s.wiring := rfl
@[simp] theorem State.setDir_pfp (s : State) (b : Bool) : (s.setDir b).pfp = s.pfp := rfl
@[simp] theorem State.setDir_queue (s : State) (b : Bool) : (s.setDir b).queue = s.queue := rfl
@[simp] theorem State.setDir_seen (s : State) (b : Bool) : (s.setDir b).seen = s.seen := rfl
@[simp] theorem State.setDir_nmiLatch (s : State) (b : Bool) : (s.setDir b).nmiLatch = s.nmiLatch := rfl
@[simp] theorem State.setDir_window (s : State) (b : Bool) : (s.setDir b).window = s.window := rfl
@[simp] theorem State.setDir_stepArmed (s : State) (b : Bool) : (s.setDir b).stepArmed = s.stepArmed := rfl
@[simp] theorem State.setDir_stepPending (s : State) (b : Bool) : (s.setDir b).stepPending = s.stepPending := rfl
@[simp] theorem State.setDir_prefixes (s : State) (b : Bool) : (s.setDir b).prefixes = s.prefixes := rfl
@[simp] theorem State.setDir_standby (s : State) (b : Bool) : (s.setDir b).standby = s.standby := rfl
@[simp] theorem State.setDir_haltLocked (s : State) (b : Bool) : (s.setDir b).haltLocked = s.haltLocked := rfl
@[simp] theorem State.setDir_mdwe (s : State) (b : Bool) : (s.setDir b).mdwe = s.mdwe := rfl
@[simp] theorem State.setDir_inProgress (s : State) (b : Bool) : (s.setDir b).inProgress = s.inProgress := rfl
@[simp] theorem State.setDir_pins (s : State) (b : Bool) : (s.setDir b).pins = s.pins := rfl
@[simp] theorem State.setDir_inputs (s : State) (b : Bool) : (s.setDir b).inputs = s.inputs := rfl
@[simp] theorem State.setDir_bus (s : State) (b : Bool) : (s.setDir b).bus = s.bus := rfl
@[simp] theorem State.setDir_fetchLog (s : State) (b : Bool) : (s.setDir b).fetchLog = s.fetchLog := rfl
@[simp] theorem State.setDir_draws (s : State) (b : Bool) : (s.setDir b).draws = s.draws := rfl

@[simp] theorem State.recordBus_aw (s : State) (e : BusEvent) : (s.recordBus e).aw = s.aw := rfl
@[simp] theorem State.recordBus_bw (s : State) (e : BusEvent) : (s.recordBus e).bw = s.bw := rfl
@[simp] theorem State.recordBus_cw (s : State) (e : BusEvent) : (s.recordBus e).cw = s.cw := rfl
@[simp] theorem State.recordBus_dw (s : State) (e : BusEvent) : (s.recordBus e).dw = s.dw := rfl
@[simp] theorem State.recordBus_sp (s : State) (e : BusEvent) : (s.recordBus e).sp = s.sp := rfl
@[simp] theorem State.recordBus_bp (s : State) (e : BusEvent) : (s.recordBus e).bp = s.bp := rfl
@[simp] theorem State.recordBus_ix (s : State) (e : BusEvent) : (s.recordBus e).ix = s.ix := rfl
@[simp] theorem State.recordBus_iy (s : State) (e : BusEvent) : (s.recordBus e).iy = s.iy := rfl
@[simp] theorem State.recordBus_ps (s : State) (e : BusEvent) : (s.recordBus e).ps = s.ps := rfl
@[simp] theorem State.recordBus_ss (s : State) (e : BusEvent) : (s.recordBus e).ss = s.ss := rfl
@[simp] theorem State.recordBus_ds0 (s : State) (e : BusEvent) : (s.recordBus e).ds0 = s.ds0 := rfl
@[simp] theorem State.recordBus_ds1 (s : State) (e : BusEvent) : (s.recordBus e).ds1 = s.ds1 := rfl
@[simp] theorem State.recordBus_pc (s : State) (e : BusEvent) : (s.recordBus e).pc = s.pc := rfl
@[simp] theorem State.recordBus_psw (s : State) (e : BusEvent) : (s.recordBus e).psw = s.psw := rfl
@[simp] theorem State.recordBus_mem (s : State) (e : BusEvent) : (s.recordBus e).mem = s.mem := rfl
@[simp] theorem State.recordBus_platform (s : State) (e : BusEvent) : (s.recordBus e).platform = s.platform := rfl
@[simp] theorem State.recordBus_chip (s : State) (e : BusEvent) : (s.recordBus e).chip = s.chip := rfl
@[simp] theorem State.recordBus_wiring (s : State) (e : BusEvent) : (s.recordBus e).wiring = s.wiring := rfl
@[simp] theorem State.recordBus_pfp (s : State) (e : BusEvent) : (s.recordBus e).pfp = s.pfp := rfl
@[simp] theorem State.recordBus_queue (s : State) (e : BusEvent) : (s.recordBus e).queue = s.queue := rfl
@[simp] theorem State.recordBus_seen (s : State) (e : BusEvent) : (s.recordBus e).seen = s.seen := rfl
@[simp] theorem State.recordBus_nmiLatch (s : State) (e : BusEvent) : (s.recordBus e).nmiLatch = s.nmiLatch := rfl
@[simp] theorem State.recordBus_window (s : State) (e : BusEvent) : (s.recordBus e).window = s.window := rfl
@[simp] theorem State.recordBus_stepArmed (s : State) (e : BusEvent) : (s.recordBus e).stepArmed = s.stepArmed := rfl
@[simp] theorem State.recordBus_stepPending (s : State) (e : BusEvent) : (s.recordBus e).stepPending = s.stepPending := rfl
@[simp] theorem State.recordBus_prefixes (s : State) (e : BusEvent) : (s.recordBus e).prefixes = s.prefixes := rfl
@[simp] theorem State.recordBus_standby (s : State) (e : BusEvent) : (s.recordBus e).standby = s.standby := rfl
@[simp] theorem State.recordBus_haltLocked (s : State) (e : BusEvent) : (s.recordBus e).haltLocked = s.haltLocked := rfl
@[simp] theorem State.recordBus_mdwe (s : State) (e : BusEvent) : (s.recordBus e).mdwe = s.mdwe := rfl
@[simp] theorem State.recordBus_inProgress (s : State) (e : BusEvent) : (s.recordBus e).inProgress = s.inProgress := rfl
@[simp] theorem State.recordBus_pins (s : State) (e : BusEvent) : (s.recordBus e).pins = s.pins := rfl
@[simp] theorem State.recordBus_inputs (s : State) (e : BusEvent) : (s.recordBus e).inputs = s.inputs := rfl
@[simp] theorem State.recordBus_bus (s : State) (e : BusEvent) : (s.recordBus e).bus = e :: s.bus := rfl
@[simp] theorem State.recordBus_fetchLog (s : State) (e : BusEvent) : (s.recordBus e).fetchLog = s.fetchLog := rfl
@[simp] theorem State.recordBus_draws (s : State) (e : BusEvent) : (s.recordBus e).draws = s.draws := rfl

@[simp] theorem State.ioWrite_aw (s : State) (w : Width) (port : Word) (v : Val w) : (s.ioWrite w port v).aw = s.aw := rfl
@[simp] theorem State.ioWrite_bw (s : State) (w : Width) (port : Word) (v : Val w) : (s.ioWrite w port v).bw = s.bw := rfl
@[simp] theorem State.ioWrite_cw (s : State) (w : Width) (port : Word) (v : Val w) : (s.ioWrite w port v).cw = s.cw := rfl
@[simp] theorem State.ioWrite_dw (s : State) (w : Width) (port : Word) (v : Val w) : (s.ioWrite w port v).dw = s.dw := rfl
@[simp] theorem State.ioWrite_sp (s : State) (w : Width) (port : Word) (v : Val w) : (s.ioWrite w port v).sp = s.sp := rfl
@[simp] theorem State.ioWrite_bp (s : State) (w : Width) (port : Word) (v : Val w) : (s.ioWrite w port v).bp = s.bp := rfl
@[simp] theorem State.ioWrite_ix (s : State) (w : Width) (port : Word) (v : Val w) : (s.ioWrite w port v).ix = s.ix := rfl
@[simp] theorem State.ioWrite_iy (s : State) (w : Width) (port : Word) (v : Val w) : (s.ioWrite w port v).iy = s.iy := rfl
@[simp] theorem State.ioWrite_ps (s : State) (w : Width) (port : Word) (v : Val w) : (s.ioWrite w port v).ps = s.ps := rfl
@[simp] theorem State.ioWrite_ss (s : State) (w : Width) (port : Word) (v : Val w) : (s.ioWrite w port v).ss = s.ss := rfl
@[simp] theorem State.ioWrite_ds0 (s : State) (w : Width) (port : Word) (v : Val w) : (s.ioWrite w port v).ds0 = s.ds0 := rfl
@[simp] theorem State.ioWrite_ds1 (s : State) (w : Width) (port : Word) (v : Val w) : (s.ioWrite w port v).ds1 = s.ds1 := rfl
@[simp] theorem State.ioWrite_pc (s : State) (w : Width) (port : Word) (v : Val w) : (s.ioWrite w port v).pc = s.pc := rfl
@[simp] theorem State.ioWrite_psw (s : State) (w : Width) (port : Word) (v : Val w) : (s.ioWrite w port v).psw = s.psw := rfl
@[simp] theorem State.ioWrite_mem (s : State) (w : Width) (port : Word) (v : Val w) : (s.ioWrite w port v).mem = s.mem := rfl
@[simp] theorem State.ioWrite_platform (s : State) (w : Width) (port : Word) (v : Val w) : (s.ioWrite w port v).platform = s.platform := rfl
@[simp] theorem State.ioWrite_chip (s : State) (w : Width) (port : Word) (v : Val w) : (s.ioWrite w port v).chip = s.chip := rfl
@[simp] theorem State.ioWrite_wiring (s : State) (w : Width) (port : Word) (v : Val w) : (s.ioWrite w port v).wiring = s.wiring := rfl
@[simp] theorem State.ioWrite_pfp (s : State) (w : Width) (port : Word) (v : Val w) : (s.ioWrite w port v).pfp = s.pfp := rfl
@[simp] theorem State.ioWrite_queue (s : State) (w : Width) (port : Word) (v : Val w) : (s.ioWrite w port v).queue = s.queue := rfl
@[simp] theorem State.ioWrite_seen (s : State) (w : Width) (port : Word) (v : Val w) : (s.ioWrite w port v).seen = s.seen := rfl
@[simp] theorem State.ioWrite_nmiLatch (s : State) (w : Width) (port : Word) (v : Val w) : (s.ioWrite w port v).nmiLatch = s.nmiLatch := rfl
@[simp] theorem State.ioWrite_window (s : State) (w : Width) (port : Word) (v : Val w) : (s.ioWrite w port v).window = s.window := rfl
@[simp] theorem State.ioWrite_stepArmed (s : State) (w : Width) (port : Word) (v : Val w) : (s.ioWrite w port v).stepArmed = s.stepArmed := rfl
@[simp] theorem State.ioWrite_stepPending (s : State) (w : Width) (port : Word) (v : Val w) : (s.ioWrite w port v).stepPending = s.stepPending := rfl
@[simp] theorem State.ioWrite_prefixes (s : State) (w : Width) (port : Word) (v : Val w) : (s.ioWrite w port v).prefixes = s.prefixes := rfl
@[simp] theorem State.ioWrite_standby (s : State) (w : Width) (port : Word) (v : Val w) : (s.ioWrite w port v).standby = s.standby := rfl
@[simp] theorem State.ioWrite_haltLocked (s : State) (w : Width) (port : Word) (v : Val w) : (s.ioWrite w port v).haltLocked = s.haltLocked := rfl
@[simp] theorem State.ioWrite_mdwe (s : State) (w : Width) (port : Word) (v : Val w) : (s.ioWrite w port v).mdwe = s.mdwe := rfl
@[simp] theorem State.ioWrite_inProgress (s : State) (w : Width) (port : Word) (v : Val w) : (s.ioWrite w port v).inProgress = s.inProgress := rfl
@[simp] theorem State.ioWrite_pins (s : State) (w : Width) (port : Word) (v : Val w) : (s.ioWrite w port v).pins = s.pins := rfl
@[simp] theorem State.ioWrite_inputs (s : State) (w : Width) (port : Word) (v : Val w) : (s.ioWrite w port v).inputs = s.inputs := rfl
@[simp] theorem State.ioWrite_bus (s : State) (w : Width) (port : Word) (v : Val w) : (s.ioWrite w port v).bus = ((s.ioCycles .ioWrite w port v).map BusEvent.cycle).reverse ++ s.bus := rfl
@[simp] theorem State.ioWrite_fetchLog (s : State) (w : Width) (port : Word) (v : Val w) : (s.ioWrite w port v).fetchLog = s.fetchLog := rfl
@[simp] theorem State.ioWrite_draws (s : State) (w : Width) (port : Word) (v : Val w) : (s.ioWrite w port v).draws = s.draws := rfl

@[simp] theorem State.advanceIx_aw (s : State) (w : Width) : (s.advanceIx w).aw = s.aw := rfl
@[simp] theorem State.advanceIx_bw (s : State) (w : Width) : (s.advanceIx w).bw = s.bw := rfl
@[simp] theorem State.advanceIx_cw (s : State) (w : Width) : (s.advanceIx w).cw = s.cw := rfl
@[simp] theorem State.advanceIx_dw (s : State) (w : Width) : (s.advanceIx w).dw = s.dw := rfl
@[simp] theorem State.advanceIx_sp (s : State) (w : Width) : (s.advanceIx w).sp = s.sp := rfl
@[simp] theorem State.advanceIx_bp (s : State) (w : Width) : (s.advanceIx w).bp = s.bp := rfl
@[simp] theorem State.advanceIx_ix (s : State) (w : Width) : (s.advanceIx w).ix = s.stepIndex w s.ix := rfl
@[simp] theorem State.advanceIx_iy (s : State) (w : Width) : (s.advanceIx w).iy = s.iy := rfl
@[simp] theorem State.advanceIx_ps (s : State) (w : Width) : (s.advanceIx w).ps = s.ps := rfl
@[simp] theorem State.advanceIx_ss (s : State) (w : Width) : (s.advanceIx w).ss = s.ss := rfl
@[simp] theorem State.advanceIx_ds0 (s : State) (w : Width) : (s.advanceIx w).ds0 = s.ds0 := rfl
@[simp] theorem State.advanceIx_ds1 (s : State) (w : Width) : (s.advanceIx w).ds1 = s.ds1 := rfl
@[simp] theorem State.advanceIx_pc (s : State) (w : Width) : (s.advanceIx w).pc = s.pc := rfl
@[simp] theorem State.advanceIx_psw (s : State) (w : Width) : (s.advanceIx w).psw = s.psw := rfl
@[simp] theorem State.advanceIx_mem (s : State) (w : Width) : (s.advanceIx w).mem = s.mem := rfl
@[simp] theorem State.advanceIx_platform (s : State) (w : Width) : (s.advanceIx w).platform = s.platform := rfl
@[simp] theorem State.advanceIx_chip (s : State) (w : Width) : (s.advanceIx w).chip = s.chip := rfl
@[simp] theorem State.advanceIx_wiring (s : State) (w : Width) : (s.advanceIx w).wiring = s.wiring := rfl
@[simp] theorem State.advanceIx_pfp (s : State) (w : Width) : (s.advanceIx w).pfp = s.pfp := rfl
@[simp] theorem State.advanceIx_queue (s : State) (w : Width) : (s.advanceIx w).queue = s.queue := rfl
@[simp] theorem State.advanceIx_seen (s : State) (w : Width) : (s.advanceIx w).seen = s.seen := rfl
@[simp] theorem State.advanceIx_nmiLatch (s : State) (w : Width) : (s.advanceIx w).nmiLatch = s.nmiLatch := rfl
@[simp] theorem State.advanceIx_window (s : State) (w : Width) : (s.advanceIx w).window = s.window := rfl
@[simp] theorem State.advanceIx_stepArmed (s : State) (w : Width) : (s.advanceIx w).stepArmed = s.stepArmed := rfl
@[simp] theorem State.advanceIx_stepPending (s : State) (w : Width) : (s.advanceIx w).stepPending = s.stepPending := rfl
@[simp] theorem State.advanceIx_prefixes (s : State) (w : Width) : (s.advanceIx w).prefixes = s.prefixes := rfl
@[simp] theorem State.advanceIx_standby (s : State) (w : Width) : (s.advanceIx w).standby = s.standby := rfl
@[simp] theorem State.advanceIx_haltLocked (s : State) (w : Width) : (s.advanceIx w).haltLocked = s.haltLocked := rfl
@[simp] theorem State.advanceIx_mdwe (s : State) (w : Width) : (s.advanceIx w).mdwe = s.mdwe := rfl
@[simp] theorem State.advanceIx_inProgress (s : State) (w : Width) : (s.advanceIx w).inProgress = s.inProgress := rfl
@[simp] theorem State.advanceIx_pins (s : State) (w : Width) : (s.advanceIx w).pins = s.pins := rfl
@[simp] theorem State.advanceIx_inputs (s : State) (w : Width) : (s.advanceIx w).inputs = s.inputs := rfl
@[simp] theorem State.advanceIx_bus (s : State) (w : Width) : (s.advanceIx w).bus = s.bus := rfl
@[simp] theorem State.advanceIx_fetchLog (s : State) (w : Width) : (s.advanceIx w).fetchLog = s.fetchLog := rfl
@[simp] theorem State.advanceIx_draws (s : State) (w : Width) : (s.advanceIx w).draws = s.draws := rfl

@[simp] theorem State.advanceIy_aw (s : State) (w : Width) : (s.advanceIy w).aw = s.aw := rfl
@[simp] theorem State.advanceIy_bw (s : State) (w : Width) : (s.advanceIy w).bw = s.bw := rfl
@[simp] theorem State.advanceIy_cw (s : State) (w : Width) : (s.advanceIy w).cw = s.cw := rfl
@[simp] theorem State.advanceIy_dw (s : State) (w : Width) : (s.advanceIy w).dw = s.dw := rfl
@[simp] theorem State.advanceIy_sp (s : State) (w : Width) : (s.advanceIy w).sp = s.sp := rfl
@[simp] theorem State.advanceIy_bp (s : State) (w : Width) : (s.advanceIy w).bp = s.bp := rfl
@[simp] theorem State.advanceIy_ix (s : State) (w : Width) : (s.advanceIy w).ix = s.ix := rfl
@[simp] theorem State.advanceIy_iy (s : State) (w : Width) : (s.advanceIy w).iy = s.stepIndex w s.iy := rfl
@[simp] theorem State.advanceIy_ps (s : State) (w : Width) : (s.advanceIy w).ps = s.ps := rfl
@[simp] theorem State.advanceIy_ss (s : State) (w : Width) : (s.advanceIy w).ss = s.ss := rfl
@[simp] theorem State.advanceIy_ds0 (s : State) (w : Width) : (s.advanceIy w).ds0 = s.ds0 := rfl
@[simp] theorem State.advanceIy_ds1 (s : State) (w : Width) : (s.advanceIy w).ds1 = s.ds1 := rfl
@[simp] theorem State.advanceIy_pc (s : State) (w : Width) : (s.advanceIy w).pc = s.pc := rfl
@[simp] theorem State.advanceIy_psw (s : State) (w : Width) : (s.advanceIy w).psw = s.psw := rfl
@[simp] theorem State.advanceIy_mem (s : State) (w : Width) : (s.advanceIy w).mem = s.mem := rfl
@[simp] theorem State.advanceIy_platform (s : State) (w : Width) : (s.advanceIy w).platform = s.platform := rfl
@[simp] theorem State.advanceIy_chip (s : State) (w : Width) : (s.advanceIy w).chip = s.chip := rfl
@[simp] theorem State.advanceIy_wiring (s : State) (w : Width) : (s.advanceIy w).wiring = s.wiring := rfl
@[simp] theorem State.advanceIy_pfp (s : State) (w : Width) : (s.advanceIy w).pfp = s.pfp := rfl
@[simp] theorem State.advanceIy_queue (s : State) (w : Width) : (s.advanceIy w).queue = s.queue := rfl
@[simp] theorem State.advanceIy_seen (s : State) (w : Width) : (s.advanceIy w).seen = s.seen := rfl
@[simp] theorem State.advanceIy_nmiLatch (s : State) (w : Width) : (s.advanceIy w).nmiLatch = s.nmiLatch := rfl
@[simp] theorem State.advanceIy_window (s : State) (w : Width) : (s.advanceIy w).window = s.window := rfl
@[simp] theorem State.advanceIy_stepArmed (s : State) (w : Width) : (s.advanceIy w).stepArmed = s.stepArmed := rfl
@[simp] theorem State.advanceIy_stepPending (s : State) (w : Width) : (s.advanceIy w).stepPending = s.stepPending := rfl
@[simp] theorem State.advanceIy_prefixes (s : State) (w : Width) : (s.advanceIy w).prefixes = s.prefixes := rfl
@[simp] theorem State.advanceIy_standby (s : State) (w : Width) : (s.advanceIy w).standby = s.standby := rfl
@[simp] theorem State.advanceIy_haltLocked (s : State) (w : Width) : (s.advanceIy w).haltLocked = s.haltLocked := rfl
@[simp] theorem State.advanceIy_mdwe (s : State) (w : Width) : (s.advanceIy w).mdwe = s.mdwe := rfl
@[simp] theorem State.advanceIy_inProgress (s : State) (w : Width) : (s.advanceIy w).inProgress = s.inProgress := rfl
@[simp] theorem State.advanceIy_pins (s : State) (w : Width) : (s.advanceIy w).pins = s.pins := rfl
@[simp] theorem State.advanceIy_inputs (s : State) (w : Width) : (s.advanceIy w).inputs = s.inputs := rfl
@[simp] theorem State.advanceIy_bus (s : State) (w : Width) : (s.advanceIy w).bus = s.bus := rfl
@[simp] theorem State.advanceIy_fetchLog (s : State) (w : Width) : (s.advanceIy w).fetchLog = s.fetchLog := rfl
@[simp] theorem State.advanceIy_draws (s : State) (w : Width) : (s.advanceIy w).draws = s.draws := rfl

@[simp] theorem State.enterInterrupt_aw (s : State) (n : Byte) (ret : Word) : (s.enterInterrupt n ret).aw = s.aw := by simp [State.enterInterrupt]
@[simp] theorem State.enterInterrupt_bw (s : State) (n : Byte) (ret : Word) : (s.enterInterrupt n ret).bw = s.bw := by simp [State.enterInterrupt]
@[simp] theorem State.enterInterrupt_cw (s : State) (n : Byte) (ret : Word) : (s.enterInterrupt n ret).cw = s.cw := by simp [State.enterInterrupt]
@[simp] theorem State.enterInterrupt_dw (s : State) (n : Byte) (ret : Word) : (s.enterInterrupt n ret).dw = s.dw := by simp [State.enterInterrupt]
@[simp] theorem State.enterInterrupt_sp (s : State) (n : Byte) (ret : Word) : (s.enterInterrupt n ret).sp = s.sp - 2 - 2 - 2 := by simp [State.enterInterrupt]
@[simp] theorem State.enterInterrupt_bp (s : State) (n : Byte) (ret : Word) : (s.enterInterrupt n ret).bp = s.bp := by simp [State.enterInterrupt]
@[simp] theorem State.enterInterrupt_ix (s : State) (n : Byte) (ret : Word) : (s.enterInterrupt n ret).ix = s.ix := by simp [State.enterInterrupt]
@[simp] theorem State.enterInterrupt_iy (s : State) (n : Byte) (ret : Word) : (s.enterInterrupt n ret).iy = s.iy := by simp [State.enterInterrupt]
@[simp] theorem State.enterInterrupt_ss (s : State) (n : Byte) (ret : Word) : (s.enterInterrupt n ret).ss = s.ss := by simp [State.enterInterrupt]
@[simp] theorem State.enterInterrupt_ds0 (s : State) (n : Byte) (ret : Word) : (s.enterInterrupt n ret).ds0 = s.ds0 := by simp [State.enterInterrupt]
@[simp] theorem State.enterInterrupt_ds1 (s : State) (n : Byte) (ret : Word) : (s.enterInterrupt n ret).ds1 = s.ds1 := by simp [State.enterInterrupt]
@[simp] theorem State.enterInterrupt_psw (s : State) (n : Byte) (ret : Word) : (s.enterInterrupt n ret).psw = { s.psw with ie := false, brk := false, md := true } := by simp [State.enterInterrupt]
@[simp] theorem State.enterInterrupt_mem (s : State) (n : Byte) (ret : Word) : (s.enterInterrupt n ret).mem = (s.pushFrame ret).mem := by simp [State.enterInterrupt]
@[simp] theorem State.enterInterrupt_platform (s : State) (n : Byte) (ret : Word) : (s.enterInterrupt n ret).platform = s.platform := by simp [State.enterInterrupt]
@[simp] theorem State.enterInterrupt_chip (s : State) (n : Byte) (ret : Word) : (s.enterInterrupt n ret).chip = s.chip := by simp [State.enterInterrupt]
@[simp] theorem State.enterInterrupt_wiring (s : State) (n : Byte) (ret : Word) : (s.enterInterrupt n ret).wiring = s.wiring := by simp [State.enterInterrupt]
@[simp] theorem State.enterInterrupt_queue (s : State) (n : Byte) (ret : Word) : (s.enterInterrupt n ret).queue = [] := by simp [State.enterInterrupt]
@[simp] theorem State.enterInterrupt_seen (s : State) (n : Byte) (ret : Word) : (s.enterInterrupt n ret).seen = [] := by simp [State.enterInterrupt]
@[simp] theorem State.enterInterrupt_nmiLatch (s : State) (n : Byte) (ret : Word) : (s.enterInterrupt n ret).nmiLatch = s.nmiLatch := by simp [State.enterInterrupt]
@[simp] theorem State.enterInterrupt_window (s : State) (n : Byte) (ret : Word) : (s.enterInterrupt n ret).window = s.window := by simp [State.enterInterrupt]
@[simp] theorem State.enterInterrupt_stepArmed (s : State) (n : Byte) (ret : Word) : (s.enterInterrupt n ret).stepArmed = s.stepArmed := by simp [State.enterInterrupt]
@[simp] theorem State.enterInterrupt_stepPending (s : State) (n : Byte) (ret : Word) : (s.enterInterrupt n ret).stepPending = s.stepPending := by simp [State.enterInterrupt]
@[simp] theorem State.enterInterrupt_prefixes (s : State) (n : Byte) (ret : Word) : (s.enterInterrupt n ret).prefixes = s.prefixes := by simp [State.enterInterrupt]
@[simp] theorem State.enterInterrupt_standby (s : State) (n : Byte) (ret : Word) : (s.enterInterrupt n ret).standby = s.standby := by simp [State.enterInterrupt]
@[simp] theorem State.enterInterrupt_haltLocked (s : State) (n : Byte) (ret : Word) : (s.enterInterrupt n ret).haltLocked = s.haltLocked := by simp [State.enterInterrupt]
@[simp] theorem State.enterInterrupt_mdwe (s : State) (n : Byte) (ret : Word) : (s.enterInterrupt n ret).mdwe = s.mdwe := by simp [State.enterInterrupt]
@[simp] theorem State.enterInterrupt_inProgress (s : State) (n : Byte) (ret : Word) : (s.enterInterrupt n ret).inProgress = s.inProgress := by simp [State.enterInterrupt]
@[simp] theorem State.enterInterrupt_pins (s : State) (n : Byte) (ret : Word) : (s.enterInterrupt n ret).pins = s.pins := by simp [State.enterInterrupt]
@[simp] theorem State.enterInterrupt_inputs (s : State) (n : Byte) (ret : Word) : (s.enterInterrupt n ret).inputs = s.inputs := by simp [State.enterInterrupt]
@[simp] theorem State.enterInterrupt_fetchLog (s : State) (n : Byte) (ret : Word) : (s.enterInterrupt n ret).fetchLog = .queue .flushed :: s.fetchLog := by simp [State.enterInterrupt]
@[simp] theorem State.enterInterrupt_draws (s : State) (n : Byte) (ret : Word) : (s.enterInterrupt n ret).draws = s.draws := by simp [State.enterInterrupt]

@[simp] theorem State.nextDraw_aw (s : State) : (s.nextDraw).aw = s.aw := rfl
@[simp] theorem State.nextDraw_bw (s : State) : (s.nextDraw).bw = s.bw := rfl
@[simp] theorem State.nextDraw_cw (s : State) : (s.nextDraw).cw = s.cw := rfl
@[simp] theorem State.nextDraw_dw (s : State) : (s.nextDraw).dw = s.dw := rfl
@[simp] theorem State.nextDraw_sp (s : State) : (s.nextDraw).sp = s.sp := rfl
@[simp] theorem State.nextDraw_bp (s : State) : (s.nextDraw).bp = s.bp := rfl
@[simp] theorem State.nextDraw_ix (s : State) : (s.nextDraw).ix = s.ix := rfl
@[simp] theorem State.nextDraw_iy (s : State) : (s.nextDraw).iy = s.iy := rfl
@[simp] theorem State.nextDraw_ps (s : State) : (s.nextDraw).ps = s.ps := rfl
@[simp] theorem State.nextDraw_ss (s : State) : (s.nextDraw).ss = s.ss := rfl
@[simp] theorem State.nextDraw_ds0 (s : State) : (s.nextDraw).ds0 = s.ds0 := rfl
@[simp] theorem State.nextDraw_ds1 (s : State) : (s.nextDraw).ds1 = s.ds1 := rfl
@[simp] theorem State.nextDraw_pc (s : State) : (s.nextDraw).pc = s.pc := rfl
@[simp] theorem State.nextDraw_psw (s : State) : (s.nextDraw).psw = s.psw := rfl
@[simp] theorem State.nextDraw_mem (s : State) : (s.nextDraw).mem = s.mem := rfl
@[simp] theorem State.nextDraw_platform (s : State) : (s.nextDraw).platform = s.platform := rfl
@[simp] theorem State.nextDraw_chip (s : State) : (s.nextDraw).chip = s.chip := rfl
@[simp] theorem State.nextDraw_wiring (s : State) : (s.nextDraw).wiring = s.wiring := rfl
@[simp] theorem State.nextDraw_pfp (s : State) : (s.nextDraw).pfp = s.pfp := rfl
@[simp] theorem State.nextDraw_queue (s : State) : (s.nextDraw).queue = s.queue := rfl
@[simp] theorem State.nextDraw_seen (s : State) : (s.nextDraw).seen = s.seen := rfl
@[simp] theorem State.nextDraw_nmiLatch (s : State) : (s.nextDraw).nmiLatch = s.nmiLatch := rfl
@[simp] theorem State.nextDraw_window (s : State) : (s.nextDraw).window = s.window := rfl
@[simp] theorem State.nextDraw_stepArmed (s : State) : (s.nextDraw).stepArmed = s.stepArmed := rfl
@[simp] theorem State.nextDraw_stepPending (s : State) : (s.nextDraw).stepPending = s.stepPending := rfl
@[simp] theorem State.nextDraw_prefixes (s : State) : (s.nextDraw).prefixes = s.prefixes := rfl
@[simp] theorem State.nextDraw_standby (s : State) : (s.nextDraw).standby = s.standby := rfl
@[simp] theorem State.nextDraw_haltLocked (s : State) : (s.nextDraw).haltLocked = s.haltLocked := rfl
@[simp] theorem State.nextDraw_mdwe (s : State) : (s.nextDraw).mdwe = s.mdwe := rfl
@[simp] theorem State.nextDraw_inProgress (s : State) : (s.nextDraw).inProgress = s.inProgress := rfl
@[simp] theorem State.nextDraw_pins (s : State) : (s.nextDraw).pins = s.pins := rfl
@[simp] theorem State.nextDraw_inputs (s : State) : (s.nextDraw).inputs = s.inputs := rfl
@[simp] theorem State.nextDraw_bus (s : State) : (s.nextDraw).bus = s.bus := rfl
@[simp] theorem State.nextDraw_fetchLog (s : State) : (s.nextDraw).fetchLog = s.fetchLog := rfl
@[simp] theorem State.nextDraw_draws (s : State) : (s.nextDraw).draws = s.draws + 1 := rfl

@[simp] theorem State.branchIf_aw (s : State) (c : Bool) (d : Byte) : (s.branchIf c d).aw = s.aw := by cases c <;> rfl
@[simp] theorem State.branchIf_bw (s : State) (c : Bool) (d : Byte) : (s.branchIf c d).bw = s.bw := by cases c <;> rfl
@[simp] theorem State.branchIf_cw (s : State) (c : Bool) (d : Byte) : (s.branchIf c d).cw = s.cw := by cases c <;> rfl
@[simp] theorem State.branchIf_dw (s : State) (c : Bool) (d : Byte) : (s.branchIf c d).dw = s.dw := by cases c <;> rfl
@[simp] theorem State.branchIf_sp (s : State) (c : Bool) (d : Byte) : (s.branchIf c d).sp = s.sp := by cases c <;> rfl
@[simp] theorem State.branchIf_bp (s : State) (c : Bool) (d : Byte) : (s.branchIf c d).bp = s.bp := by cases c <;> rfl
@[simp] theorem State.branchIf_ix (s : State) (c : Bool) (d : Byte) : (s.branchIf c d).ix = s.ix := by cases c <;> rfl
@[simp] theorem State.branchIf_iy (s : State) (c : Bool) (d : Byte) : (s.branchIf c d).iy = s.iy := by cases c <;> rfl
@[simp] theorem State.branchIf_ps (s : State) (c : Bool) (d : Byte) : (s.branchIf c d).ps = s.ps := by cases c <;> rfl
@[simp] theorem State.branchIf_ss (s : State) (c : Bool) (d : Byte) : (s.branchIf c d).ss = s.ss := by cases c <;> rfl
@[simp] theorem State.branchIf_ds0 (s : State) (c : Bool) (d : Byte) : (s.branchIf c d).ds0 = s.ds0 := by cases c <;> rfl
@[simp] theorem State.branchIf_ds1 (s : State) (c : Bool) (d : Byte) : (s.branchIf c d).ds1 = s.ds1 := by cases c <;> rfl
@[simp] theorem State.branchIf_psw (s : State) (c : Bool) (d : Byte) : (s.branchIf c d).psw = s.psw := by cases c <;> rfl
@[simp] theorem State.branchIf_mem (s : State) (c : Bool) (d : Byte) : (s.branchIf c d).mem = s.mem := by cases c <;> rfl
@[simp] theorem State.branchIf_platform (s : State) (c : Bool) (d : Byte) : (s.branchIf c d).platform = s.platform := by cases c <;> rfl
@[simp] theorem State.branchIf_chip (s : State) (c : Bool) (d : Byte) : (s.branchIf c d).chip = s.chip := by cases c <;> rfl
@[simp] theorem State.branchIf_wiring (s : State) (c : Bool) (d : Byte) : (s.branchIf c d).wiring = s.wiring := by cases c <;> rfl
@[simp] theorem State.branchIf_nmiLatch (s : State) (c : Bool) (d : Byte) : (s.branchIf c d).nmiLatch = s.nmiLatch := by cases c <;> rfl
@[simp] theorem State.branchIf_window (s : State) (c : Bool) (d : Byte) : (s.branchIf c d).window = s.window := by cases c <;> rfl
@[simp] theorem State.branchIf_stepArmed (s : State) (c : Bool) (d : Byte) : (s.branchIf c d).stepArmed = s.stepArmed := by cases c <;> rfl
@[simp] theorem State.branchIf_stepPending (s : State) (c : Bool) (d : Byte) : (s.branchIf c d).stepPending = s.stepPending := by cases c <;> rfl
@[simp] theorem State.branchIf_prefixes (s : State) (c : Bool) (d : Byte) : (s.branchIf c d).prefixes = s.prefixes := by cases c <;> rfl
@[simp] theorem State.branchIf_standby (s : State) (c : Bool) (d : Byte) : (s.branchIf c d).standby = s.standby := by cases c <;> rfl
@[simp] theorem State.branchIf_haltLocked (s : State) (c : Bool) (d : Byte) : (s.branchIf c d).haltLocked = s.haltLocked := by cases c <;> rfl
@[simp] theorem State.branchIf_mdwe (s : State) (c : Bool) (d : Byte) : (s.branchIf c d).mdwe = s.mdwe := by cases c <;> rfl
@[simp] theorem State.branchIf_inProgress (s : State) (c : Bool) (d : Byte) : (s.branchIf c d).inProgress = s.inProgress := by cases c <;> rfl
@[simp] theorem State.branchIf_pins (s : State) (c : Bool) (d : Byte) : (s.branchIf c d).pins = s.pins := by cases c <;> rfl
@[simp] theorem State.branchIf_inputs (s : State) (c : Bool) (d : Byte) : (s.branchIf c d).inputs = s.inputs := by cases c <;> rfl
@[simp] theorem State.branchIf_bus (s : State) (c : Bool) (d : Byte) : (s.branchIf c d).bus = s.bus := by cases c <;> rfl
@[simp] theorem State.branchIf_draws (s : State) (c : Bool) (d : Byte) : (s.branchIf c d).draws = s.draws := by cases c <;> rfl

@[simp] theorem State.withByte_aw (s : State) : (s.withByte).aw = s.aw := by unfold State.withByte State.prefetch; split <;> first | rfl | (split <;> rfl)
@[simp] theorem State.withByte_bw (s : State) : (s.withByte).bw = s.bw := by unfold State.withByte State.prefetch; split <;> first | rfl | (split <;> rfl)
@[simp] theorem State.withByte_cw (s : State) : (s.withByte).cw = s.cw := by unfold State.withByte State.prefetch; split <;> first | rfl | (split <;> rfl)
@[simp] theorem State.withByte_dw (s : State) : (s.withByte).dw = s.dw := by unfold State.withByte State.prefetch; split <;> first | rfl | (split <;> rfl)
@[simp] theorem State.withByte_sp (s : State) : (s.withByte).sp = s.sp := by unfold State.withByte State.prefetch; split <;> first | rfl | (split <;> rfl)
@[simp] theorem State.withByte_bp (s : State) : (s.withByte).bp = s.bp := by unfold State.withByte State.prefetch; split <;> first | rfl | (split <;> rfl)
@[simp] theorem State.withByte_ix (s : State) : (s.withByte).ix = s.ix := by unfold State.withByte State.prefetch; split <;> first | rfl | (split <;> rfl)
@[simp] theorem State.withByte_iy (s : State) : (s.withByte).iy = s.iy := by unfold State.withByte State.prefetch; split <;> first | rfl | (split <;> rfl)
@[simp] theorem State.withByte_ps (s : State) : (s.withByte).ps = s.ps := by unfold State.withByte State.prefetch; split <;> first | rfl | (split <;> rfl)
@[simp] theorem State.withByte_ss (s : State) : (s.withByte).ss = s.ss := by unfold State.withByte State.prefetch; split <;> first | rfl | (split <;> rfl)
@[simp] theorem State.withByte_ds0 (s : State) : (s.withByte).ds0 = s.ds0 := by unfold State.withByte State.prefetch; split <;> first | rfl | (split <;> rfl)
@[simp] theorem State.withByte_ds1 (s : State) : (s.withByte).ds1 = s.ds1 := by unfold State.withByte State.prefetch; split <;> first | rfl | (split <;> rfl)
@[simp] theorem State.withByte_pc (s : State) : (s.withByte).pc = s.pc := by unfold State.withByte State.prefetch; split <;> first | rfl | (split <;> rfl)
@[simp] theorem State.withByte_psw (s : State) : (s.withByte).psw = s.psw := by unfold State.withByte State.prefetch; split <;> first | rfl | (split <;> rfl)
@[simp] theorem State.withByte_mem (s : State) : (s.withByte).mem = s.mem := by unfold State.withByte State.prefetch; split <;> first | rfl | (split <;> rfl)
@[simp] theorem State.withByte_platform (s : State) : (s.withByte).platform = s.platform := by unfold State.withByte State.prefetch; split <;> first | rfl | (split <;> rfl)
@[simp] theorem State.withByte_chip (s : State) : (s.withByte).chip = s.chip := by unfold State.withByte State.prefetch; split <;> first | rfl | (split <;> rfl)
@[simp] theorem State.withByte_wiring (s : State) : (s.withByte).wiring = s.wiring := by unfold State.withByte State.prefetch; split <;> first | rfl | (split <;> rfl)
@[simp] theorem State.withByte_seen (s : State) : (s.withByte).seen = s.seen := by unfold State.withByte State.prefetch; split <;> first | rfl | (split <;> rfl)
@[simp] theorem State.withByte_nmiLatch (s : State) : (s.withByte).nmiLatch = s.nmiLatch := by unfold State.withByte State.prefetch; split <;> first | rfl | (split <;> rfl)
@[simp] theorem State.withByte_window (s : State) : (s.withByte).window = s.window := by unfold State.withByte State.prefetch; split <;> first | rfl | (split <;> rfl)
@[simp] theorem State.withByte_stepArmed (s : State) : (s.withByte).stepArmed = s.stepArmed := by unfold State.withByte State.prefetch; split <;> first | rfl | (split <;> rfl)
@[simp] theorem State.withByte_stepPending (s : State) : (s.withByte).stepPending = s.stepPending := by unfold State.withByte State.prefetch; split <;> first | rfl | (split <;> rfl)
@[simp] theorem State.withByte_prefixes (s : State) : (s.withByte).prefixes = s.prefixes := by unfold State.withByte State.prefetch; split <;> first | rfl | (split <;> rfl)
@[simp] theorem State.withByte_standby (s : State) : (s.withByte).standby = s.standby := by unfold State.withByte State.prefetch; split <;> first | rfl | (split <;> rfl)
@[simp] theorem State.withByte_haltLocked (s : State) : (s.withByte).haltLocked = s.haltLocked := by unfold State.withByte State.prefetch; split <;> first | rfl | (split <;> rfl)
@[simp] theorem State.withByte_mdwe (s : State) : (s.withByte).mdwe = s.mdwe := by unfold State.withByte State.prefetch; split <;> first | rfl | (split <;> rfl)
@[simp] theorem State.withByte_inProgress (s : State) : (s.withByte).inProgress = s.inProgress := by unfold State.withByte State.prefetch; split <;> first | rfl | (split <;> rfl)
@[simp] theorem State.withByte_pins (s : State) : (s.withByte).pins = s.pins := by unfold State.withByte State.prefetch; split <;> first | rfl | (split <;> rfl)
@[simp] theorem State.withByte_inputs (s : State) : (s.withByte).inputs = s.inputs := by unfold State.withByte State.prefetch; split <;> first | rfl | (split <;> rfl)
@[simp] theorem State.withByte_bus (s : State) : (s.withByte).bus = s.bus := by unfold State.withByte State.prefetch; split <;> first | rfl | (split <;> rfl)
@[simp] theorem State.withByte_draws (s : State) : (s.withByte).draws = s.draws := by unfold State.withByte State.prefetch; split <;> first | rfl | (split <;> rfl)

@[simp] theorem State.takeByte_aw (s : State) (a : QueueAction) : (s.takeByte a).aw = s.aw := by simp [State.takeByte]
@[simp] theorem State.takeByte_bw (s : State) (a : QueueAction) : (s.takeByte a).bw = s.bw := by simp [State.takeByte]
@[simp] theorem State.takeByte_cw (s : State) (a : QueueAction) : (s.takeByte a).cw = s.cw := by simp [State.takeByte]
@[simp] theorem State.takeByte_dw (s : State) (a : QueueAction) : (s.takeByte a).dw = s.dw := by simp [State.takeByte]
@[simp] theorem State.takeByte_sp (s : State) (a : QueueAction) : (s.takeByte a).sp = s.sp := by simp [State.takeByte]
@[simp] theorem State.takeByte_bp (s : State) (a : QueueAction) : (s.takeByte a).bp = s.bp := by simp [State.takeByte]
@[simp] theorem State.takeByte_ix (s : State) (a : QueueAction) : (s.takeByte a).ix = s.ix := by simp [State.takeByte]
@[simp] theorem State.takeByte_iy (s : State) (a : QueueAction) : (s.takeByte a).iy = s.iy := by simp [State.takeByte]
@[simp] theorem State.takeByte_ps (s : State) (a : QueueAction) : (s.takeByte a).ps = s.ps := by simp [State.takeByte]
@[simp] theorem State.takeByte_ss (s : State) (a : QueueAction) : (s.takeByte a).ss = s.ss := by simp [State.takeByte]
@[simp] theorem State.takeByte_ds0 (s : State) (a : QueueAction) : (s.takeByte a).ds0 = s.ds0 := by simp [State.takeByte]
@[simp] theorem State.takeByte_ds1 (s : State) (a : QueueAction) : (s.takeByte a).ds1 = s.ds1 := by simp [State.takeByte]
@[simp] theorem State.takeByte_pc (s : State) (a : QueueAction) : (s.takeByte a).pc = s.pc + 1 := by simp [State.takeByte]
@[simp] theorem State.takeByte_psw (s : State) (a : QueueAction) : (s.takeByte a).psw = s.psw := by simp [State.takeByte]
@[simp] theorem State.takeByte_mem (s : State) (a : QueueAction) : (s.takeByte a).mem = s.mem := by simp [State.takeByte]
@[simp] theorem State.takeByte_platform (s : State) (a : QueueAction) : (s.takeByte a).platform = s.platform := by simp [State.takeByte]
@[simp] theorem State.takeByte_chip (s : State) (a : QueueAction) : (s.takeByte a).chip = s.chip := by simp [State.takeByte]
@[simp] theorem State.takeByte_wiring (s : State) (a : QueueAction) : (s.takeByte a).wiring = s.wiring := by simp [State.takeByte]
@[simp] theorem State.takeByte_seen (s : State) (a : QueueAction) : (s.takeByte a).seen = s.seen.tail := by simp [State.takeByte]
@[simp] theorem State.takeByte_nmiLatch (s : State) (a : QueueAction) : (s.takeByte a).nmiLatch = s.nmiLatch := by simp [State.takeByte]
@[simp] theorem State.takeByte_window (s : State) (a : QueueAction) : (s.takeByte a).window = s.window := by simp [State.takeByte]
@[simp] theorem State.takeByte_stepArmed (s : State) (a : QueueAction) : (s.takeByte a).stepArmed = s.stepArmed := by simp [State.takeByte]
@[simp] theorem State.takeByte_stepPending (s : State) (a : QueueAction) : (s.takeByte a).stepPending = s.stepPending := by simp [State.takeByte]
@[simp] theorem State.takeByte_prefixes (s : State) (a : QueueAction) : (s.takeByte a).prefixes = s.prefixes := by simp [State.takeByte]
@[simp] theorem State.takeByte_standby (s : State) (a : QueueAction) : (s.takeByte a).standby = s.standby := by simp [State.takeByte]
@[simp] theorem State.takeByte_haltLocked (s : State) (a : QueueAction) : (s.takeByte a).haltLocked = s.haltLocked := by simp [State.takeByte]
@[simp] theorem State.takeByte_mdwe (s : State) (a : QueueAction) : (s.takeByte a).mdwe = s.mdwe := by simp [State.takeByte]
@[simp] theorem State.takeByte_inProgress (s : State) (a : QueueAction) : (s.takeByte a).inProgress = s.inProgress := by simp [State.takeByte]
@[simp] theorem State.takeByte_pins (s : State) (a : QueueAction) : (s.takeByte a).pins = s.pins := by simp [State.takeByte]
@[simp] theorem State.takeByte_inputs (s : State) (a : QueueAction) : (s.takeByte a).inputs = s.inputs := by simp [State.takeByte]
@[simp] theorem State.takeByte_bus (s : State) (a : QueueAction) : (s.takeByte a).bus = s.bus := by simp [State.takeByte]
@[simp] theorem State.takeByte_draws (s : State) (a : QueueAction) : (s.takeByte a).draws = s.draws := by simp [State.takeByte]

end Sys2Proof.Machine
end

