-- ==== Sys2Proof/Laws/Memory.lean ====
section
/-! SUPPORT. The laws of memory: reading after writing, the canonical form, and what each store leaves. -/

namespace Sys2Proof.Machine

/-- A read after a write to the same address gives the byte written. -/
@[simp] theorem Memory.read_write_same (m : Memory) (a : Nat) (v : Byte) : (Memory.write m a v).read a = v := by
  induction m with
  | nil => by_cases h : v = 0#8 <;> simp [Memory.write, Memory.read, h]
  | cons c rest ih =>
    obtain ⟨b, w⟩ := c
    simp only [Memory.write]
    split
    · rename_i h
      simp [Memory.read, ih, Nat.ne_of_gt h]
    · split
      · split
        · exact ih
        · simp [Memory.read]
      · rename_i h2
        split
        · simp [Memory.read, ih, h2]
        · simp [Memory.read]

/-- A write leaves every other address alone. -/
theorem Memory.read_write_other (m : Memory) {a b : Nat} (v : Byte) (h : b ≠ a) :
    (Memory.write m a v).read b = m.read b := by
  induction m with
  | nil => by_cases hv : v = 0#8 <;> simp [Memory.write, Memory.read, hv, h]
  | cons c rest ih =>
    obtain ⟨d, w⟩ := c
    simp only [Memory.write]
    split
    · simp [Memory.read, ih]
    · split
      · rename_i had
        subst had
        split
        · simp [Memory.read, ih, h]
        · simp [Memory.read, h]
      · split
        · simp [Memory.read, ih]
        · simp [Memory.read, h]

/-- A canonical memory is canonical from every lower bound below its own. -/
theorem Memory.wfFrom_mono {m : Memory} {k l : Nat} (hkl : k ≤ l) (h : Memory.wfFrom l m = true) :
    Memory.wfFrom k m = true := by
  cases m with
  | nil => rfl
  | cons c rest =>
    obtain ⟨a, v⟩ := c
    simp only [Memory.wfFrom, Bool.and_eq_true, decide_eq_true_eq] at h ⊢
    exact ⟨⟨⟨by omega, h.1.1.2⟩, h.1.2⟩, h.2⟩

/-- Removing an address below the bound keeps the canonical form. -/
theorem Memory.wfFrom_write_below {m : Memory} {l a : Nat} (hal : a < l) (h : Memory.wfFrom l m = true) :
    Memory.wfFrom l (Memory.write m a 0) = true := by
  induction m generalizing l with
  | nil => simp [Memory.write, Memory.wfFrom]
  | cons c rest ih =>
    obtain ⟨b, w⟩ := c
    simp only [Memory.wfFrom, Bool.and_eq_true, decide_eq_true_eq] at h
    obtain ⟨⟨⟨hlb, hb⟩, hw⟩, hrest⟩ := h
    have h1 : ¬ b < a := by omega
    have h2 : a ≠ b := by omega
    simp only [Memory.write, h1, h2, if_false, if_true, Memory.wfFrom, Bool.and_eq_true, decide_eq_true_eq]
    exact ⟨⟨⟨hlb, hb⟩, hw⟩, ih (by omega) hrest⟩

/-- A write keeps the canonical form. -/
theorem Memory.wfFrom_write {m : Memory} {k a : Nat} {v : Byte} (hk : k ≤ a) (ha : a < 2 ^ 20)
    (h : Memory.wfFrom k m = true) : Memory.wfFrom k (Memory.write m a v) = true := by
  induction m generalizing k with
  | nil =>
    by_cases hv : v = 0#8
    · simp [Memory.write, hv, Memory.wfFrom]
    · simpa [Memory.write, hv, Memory.wfFrom, hk] using ha
  | cons c rest ih =>
    obtain ⟨b, w⟩ := c
    simp only [Memory.wfFrom, Bool.and_eq_true, decide_eq_true_eq] at h
    obtain ⟨⟨⟨hkb, hb⟩, hw⟩, hrest⟩ := h
    simp only [Memory.write]
    split
    · rename_i hba
      simp only [Memory.wfFrom, Bool.and_eq_true, decide_eq_true_eq]
      exact ⟨⟨⟨hkb, hb⟩, hw⟩, ih (by omega) hrest⟩
    · rename_i hba
      split
      · rename_i hab
        subst hab
        split
        · exact ih hk (Memory.wfFrom_mono (by omega) hrest)
        · rename_i hv
          simp only [Memory.wfFrom, Bool.and_eq_true, decide_eq_true_eq]
          exact ⟨⟨⟨hk, ha⟩, by simpa using hv⟩, hrest⟩
      · rename_i hab
        split
        · rename_i hv
          subst hv
          have : Memory.wfFrom (b + 1) (Memory.write rest a 0) = true :=
            Memory.wfFrom_write_below (by omega) hrest
          simp only [Memory.wfFrom, Bool.and_eq_true, decide_eq_true_eq]
          exact ⟨⟨⟨hkb, hb⟩, hw⟩, this⟩
        · rename_i hv
          simp only [Memory.wfFrom, Bool.and_eq_true, decide_eq_true_eq]
          exact ⟨⟨⟨hk, ha⟩, by simpa using hv⟩, ⟨⟨by omega, hb⟩, hw⟩, hrest⟩

/-- A write below 2^20 keeps the canonical form of memory. -/
theorem Memory.wf_write {m : Memory} {a : Nat} {v : Byte} (ha : a < 2 ^ 20) (h : m.wf = true) :
    (Memory.write m a v).wf = true := Memory.wfFrom_write (Nat.zero_le a) ha h

/-- The reset memory is in canonical form. -/
theorem State.reset_mem_wf : State.reset.mem.wf = true := rfl

/-- Canonical memories that read the same are the same list. -/
theorem Memory.ext_of_wfFrom {m n : Memory} {k : Nat} (hm : Memory.wfFrom k m = true) (hn : Memory.wfFrom k n = true)
    (h : ∀ a, m.read a = n.read a) : m = n := by
  induction m generalizing n k with
  | nil =>
    cases n with
    | nil => rfl
    | cons c rest =>
      obtain ⟨b, w⟩ := c
      simp only [Memory.wfFrom, Bool.and_eq_true, decide_eq_true_eq] at hn
      have hb := h b
      simp only [Memory.read, if_true] at hb
      have := hn.1.2
      simp [← hb] at this
  | cons c rest ih =>
    obtain ⟨b, w⟩ := c
    simp only [Memory.wfFrom, Bool.and_eq_true, decide_eq_true_eq] at hm
    cases n with
    | nil =>
      have hb := h b
      simp only [Memory.read, if_true] at hb
      have := hm.1.2
      simp [hb] at this
    | cons d rest2 =>
      obtain ⟨e, x⟩ := d
      simp only [Memory.wfFrom, Bool.and_eq_true, decide_eq_true_eq] at hn
      have below : ∀ {l : Nat} {p : Memory} {a : Nat}, Memory.wfFrom l p = true → a < l → p.read a = 0 := by
        intro l p
        induction p generalizing l with
        | nil => intros; rfl
        | cons q p ih2 =>
          intro a hp hal
          simp only [Memory.wfFrom, Bool.and_eq_true, decide_eq_true_eq] at hp
          have hne : a ≠ q.1 := by omega
          simp only [Memory.read, if_neg hne]
          exact ih2 hp.2 (by omega)
      have hbe : b = e := by
        rcases Nat.lt_trichotomy b e with hlt | heq | hgt
        · have hb := h b
          simp only [Memory.read, if_true, if_neg (Nat.ne_of_lt hlt)] at hb
          rw [below hn.2 (by omega)] at hb
          simp [hb] at hm
        · exact heq
        · have hb := h e
          simp only [Memory.read, if_true, if_neg (Nat.ne_of_lt hgt)] at hb
          rw [below hm.2 (by omega)] at hb
          simp [← hb] at hn
      subst hbe
      have hwx : w = x := by
        have hb := h b
        simpa [Memory.read] using hb
      subst hwx
      have : rest = rest2 := by
        refine ih hm.2 hn.2 fun a => ?_
        by_cases hab : a = b
        · subst hab
          rw [below hm.2 (by omega), below hn.2 (by omega)]
        · have ha := h a
          simpa [Memory.read, hab] using ha
      rw [this]

/-- The address of a byte of an operand is below 2^20. -/
theorem byteAddr_lt (seg off : Word) (k : Nat) : byteAddr seg off k < 2 ^ 20 := by
  unfold byteAddr
  split
  · exact Nat.mod_lt _ (by decide)
  · split <;> exact Nat.mod_lt _ (by decide)

/-- A physical address is below 2^20. -/
theorem phys_lt (seg off : Word) : phys seg off < 2 ^ 20 := Nat.mod_lt _ (by decide)

/-- The two bytes of a word have different addresses. -/
theorem byteAddr_ne (seg off : Word) : byteAddr seg off 0 ≠ byteAddr seg off 1 := by
  have h1 := seg.isLt
  have h2 := off.isLt
  unfold byteAddr
  split
  · split
    · omega
    · split <;> omega
  · omega

/-- What a byte write leaves: the byte in RAM, nothing elsewhere. -/
theorem State.readByte_writeByte (s : State) (a b : Nat) (v : Byte) :
    (s.writeByte a v).readByte b = if b = a ∧ kindAt s.platform a = .ram then v else s.readByte b := by
  unfold State.readByte State.byteOr State.writeByte
  cases hk : kindAt s.platform a <;> by_cases hb : b = a
  · subst hb; simp [hk]
  · simp [hb, Memory.read_write_other _ _ hb]
  · subst hb; simp [hk]
  · simp [hb]
  · subst hb; simp [hk]
  · simp [hb]

/-- A byte write keeps the canonical form. -/
theorem State.writeByte_wf {s : State} {a : Nat} {v : Byte} (ha : a < 2 ^ 20) (h : s.mem.wf = true) :
    (s.writeByte a v).mem.wf = true := by
  unfold State.writeByte
  split
  · exact Memory.wf_write ha h
  · exact h
  · exact h

/-- A store keeps the canonical form. -/
theorem State.store_wf {s : State} (w : Width) (g : SReg) (off : Word) (v : Val w) (h : s.mem.wf = true) :
    (s.store w g off v).mem.wf = true := by
  cases w with
  | byte => exact State.writeByte_wf (byteAddr_lt _ _ _) h
  | word => exact State.writeByte_wf (byteAddr_lt _ _ _) (State.writeByte_wf (byteAddr_lt _ _ _) h)

/-- The bytes of a write cycle keep the canonical form. -/
theorem State.writeBytes_wf {s : State} (a : Nat) (bs : List Byte) (h : s.mem.wf = true) :
    (s.writeBytes a bs).mem.wf = true := by
  induction bs generalizing s a with
  | nil => exact h
  | cons b bs ih => exact ih _ (State.writeByte_wf (Nat.mod_lt _ (by decide)) h)

/-- A replayed event keeps the canonical form. -/
theorem State.replay_wf {s : State} (e : BusEvent) (h : s.mem.wf = true) : (s.replay e).mem.wf = true := by
  unfold State.replay
  split
  · split
    · exact State.writeBytes_wf _ _ h
    · exact h
  · exact h
  · exact h

/-- A step cut short keeps the canonical form. -/
theorem State.cutShort_wf {s : State} (o : Host.Outcome State Fault Refusal) (h : s.mem.wf = true) :
    (s.cutShort o).mem.wf = true := by
  have all : ∀ (es : List BusEvent) (t : State), t.mem.wf = true → (es.foldl State.replay t).mem.wf = true := by
    intro es
    induction es with
    | nil => intro t ht; exact ht
    | cons e es ih => intro t ht; exact ih _ (State.replay_wf e ht)
  unfold State.cutShort
  split
  · exact all _ _ h
  · exact h
  · exact h

/-- A push keeps the canonical form. -/
theorem State.push16_wf {s : State} (v : Word) (h : s.mem.wf = true) : (s.push16 v).mem.wf = true :=
  State.store_wf (s := { s with sp := s.sp - 2 }) .word .ss _ v h

/-- Writing an operand keeps the canonical form. -/
theorem State.writeOperand_wf {s : State} (w : Width) (o : Operand) (v : Val w) (h : s.mem.wf = true) :
    (s.writeOperand w o v).mem.wf = true := by
  cases o with
  | reg r => cases w <;> cases r <;> exact h
  | mem m => exact State.store_wf w (s.memSreg m) (s.ea m) v h

/-- The three pushes of an interrupt entry keep the canonical form. -/
theorem State.pushFrame_wf {s : State} (ret : Word) (h : s.mem.wf = true) : (s.pushFrame ret).mem.wf = true :=
  State.push16_wf ret (State.push16_wf s.ps (State.push16_wf s.psw.image h))

/-- The interrupt entry keeps the canonical form. -/
theorem State.enterInterrupt_wf {s : State} (n : Byte) (ret : Word) (h : s.mem.wf = true) :
    (s.enterInterrupt n ret).mem.wf = true := by
  rw [State.enterInterrupt_mem]
  exact State.pushFrame_wf ret h

/-- The byte that two lists of stores leave at an address. -/
theorem storedAt_append (xs ys : List (Nat × Byte)) (a : Nat) :
    storedAt (xs ++ ys) a = match storedAt ys a with | some v => some v | none => storedAt xs a := by
  induction xs with
  | nil => simp only [List.nil_append, storedAt]; cases storedAt ys a <;> rfl
  | cons c xs ih =>
    obtain ⟨b, v⟩ := c
    simp only [List.cons_append, storedAt, ih]
    cases storedAt ys a <;> rfl

/-- The bytes of memory depend on memory and the platform, and where a device answers on the bus record. -/
theorem State.readByte_congr {s t : State} (hm : t.mem = s.mem) (hp : t.platform = s.platform) (hb : t.bus = s.bus)
    (a : Nat) : t.readByte a = s.readByte a := by
  unfold State.readByte State.byteOr
  rw [hm, hp, hb]

/-- Away from the devices they depend on memory and the platform alone. -/
theorem State.readByte_congr_of_ne {s t : State} (hm : t.mem = s.mem) (hp : t.platform = s.platform) {a : Nat}
    (ha : kindAt s.platform a ≠ .device) : t.readByte a = s.readByte a := by
  unfold State.readByte State.byteOr
  rw [hm, hp]
  cases h : kindAt s.platform a <;> simp_all

/-- No byte stored. -/
theorem StoresCells.nil (s : State) : StoresCells s s [] :=
  ⟨fun _ _ _ => rfl, fun a v h => by simp [storedAt] at h, fun _ _ => rfl⟩

/-- One byte stored. -/
theorem State.writeByte_cells (s : State) (a : Nat) (v : Byte) : StoresCells s (s.writeByte a v) [(a, v)] := by
  refine ⟨fun b _ h => ?_, fun b x h hk => ?_, fun b hk => ?_⟩
  · have : b ≠ a := by intro e; simp [storedAt, e] at h
    simp [State.readByte_writeByte, this]
  · simp only [storedAt] at h
    split at h
    · rename_i e; subst e; simp_all [State.readByte_writeByte]
    · simp at h
  · rw [State.readByte_writeByte, if_neg]
    rintro ⟨rfl, h⟩
    rw [hk] at h
    cases h

/-- Bytes stored one after another. -/
theorem StoresCells.trans {s t u : State} {xs ys : List (Nat × Byte)} (h1 : StoresCells s t xs)
    (h2 : StoresCells t u ys) (hp : t.platform = s.platform) : StoresCells s u (xs ++ ys) := by
  refine ⟨fun a hk h => ?_, fun a v h hk => ?_, fun a hk => ?_⟩
  · rw [storedAt_append] at h
    cases hy : storedAt ys a with
    | some v => simp [hy] at h
    | none => rw [hy] at h; rw [h2.frame a (by rw [hp]; exact hk) hy, h1.frame a hk h]
  · rw [storedAt_append] at h
    cases hy : storedAt ys a with
    | some x =>
      rw [hy] at h
      obtain rfl : x = v := by simpa using h
      exact h2.stored a x hy (by rw [hp]; exact hk)
    | none =>
      rw [hy] at h
      rw [h2.frame a (by rw [hp, hk]; simp) hy]
      exact h1.stored a v h hk
  · rw [h2.kept a (by rw [hp]; exact hk), h1.kept a hk]

/-- `StoresCells` between states that agree with two others on memory and the platform. -/
theorem StoresCells.congr {s t s' t' : State} {xs : List (Nat × Byte)} (h : StoresCells s t xs)
    (hm : s'.mem = s.mem) (hp : s'.platform = s.platform) (tm : t'.mem = t.mem) (tp : t'.platform = t.platform)
    (st : t.platform = s.platform) : StoresCells s' t' xs := by
  have e1 : ∀ a, kindAt s.platform a ≠ .device → s'.readByte a = s.readByte a :=
    fun a ha => State.readByte_congr_of_ne hm hp ha
  have e2 : ∀ a, kindAt s.platform a ≠ .device → t'.readByte a = t.readByte a :=
    fun a ha => State.readByte_congr_of_ne tm tp (by rw [st]; exact ha)
  refine ⟨fun a hk ha => ?_, fun a v ha hk => ?_, fun a hk => ?_⟩
  · rw [hp] at hk
    rw [e1 a hk, e2 a hk]
    exact h.frame a hk ha
  · rw [hp] at hk
    rw [e2 a (by rw [hk]; simp)]
    exact h.stored a v ha hk
  · rw [hp] at hk
    rw [e1 a (by rw [hk]; simp), e2 a (by rw [hk]; simp)]
    exact h.kept a hk

/-- What the bytes of a value leave in memory. -/
theorem State.storeBytes_cells (s : State) (w : Width) (seg off : Word) (v : Val w) :
    StoresCells s (s.storeBytes w seg off v) (cellsOf w seg off v) := by
  cases w with
  | byte => exact State.writeByte_cells s _ v
  | word =>
    exact StoresCells.trans (State.writeByte_cells s _ _) (State.writeByte_cells _ _ _) (State.writeByte_platform s _ _)

/-- No store. -/
theorem Stores.nil (s : State) : Stores s s [] := ⟨StoresCells.nil s, rfl⟩

/-- Stores one after another, with what their addresses and cycles depend on as it was. -/
theorem Stores.trans {s t u : State} {xs ys : List StoreOp} (h1 : Stores s t xs) (h2 : Stores t u ys)
    (hp : t.platform = s.platform) (hc : t.cellsOfStores ys = s.cellsOfStores ys)
    (hb : t.cyclesOfStores ys = s.cyclesOfStores ys) : Stores s u (xs ++ ys) := by
  refine ⟨?_, ?_⟩
  · have h := StoresCells.trans h1.memory h2.memory hp
    rw [hc] at h
    simpa [State.cellsOfStores] using h
  · rw [h2.onBus, h1.onBus, hb]
    simp [State.cyclesOfStores]

/-- What a store of a byte or word leaves in memory and on the bus. -/
theorem State.store_stores (s : State) (w : Width) (g : SReg) (off : Word) (v : Val w) :
    Stores s (s.store w g off v) [⟨w, g, off, v⟩] := by
  refine ⟨?_, by simp [State.cyclesOfStores]⟩
  have h := (State.storeBytes_cells s w (s.readSreg g) off v).congr (s' := s) (t' := s.store w g off v) rfl rfl
    (by simp) (by simp) (by simp)
  simpa [State.cellsOfStores] using h

/-- `Stores` between states that agree with two others on memory, platform and bus, the addresses and cycles of the stores
being the same. -/
theorem Stores.congr {s t s' t' : State} {xs : List StoreOp} (h : Stores s t xs) (hm : s'.mem = s.mem)
    (hp : s'.platform = s.platform) (hb : s'.bus = s.bus) (tm : t'.mem = t.mem) (tp : t'.platform = t.platform)
    (tb : t'.bus = t.bus) (st : t.platform = s.platform) (hc : s'.cellsOfStores xs = s.cellsOfStores xs)
    (hy : s'.cyclesOfStores xs = s.cyclesOfStores xs) : Stores s' t' xs :=
  ⟨by rw [hc]; exact h.memory.congr hm hp tm tp st, by rw [tb, hb, hy]; exact h.onBus⟩

/-- A push: the word below SS:SP. -/
theorem State.push16_stores (s : State) (v : Word) : Stores s (s.push16 v) [⟨.word, .ss, s.sp - 2, v⟩] :=
  Stores.congr (State.store_stores { s with sp := s.sp - 2 } .word .ss (s.sp - 2) v) rfl rfl rfl rfl rfl rfl (by simp)
    rfl rfl

end Sys2Proof.Machine
end

