-- ==== Sys2Proof/Laws/Flags.lean ====
section
/-! SUPPORT. The flag computations and the writes of operands, each with one lemma that says all it does. -/

namespace Sys2Proof.Machine

/-- The parity computed is that of the number of 1 bits. -/
theorem evenParity_iff {n : Nat} (r : BitVec n) : evenParity r = true ↔ EvenOnes r := by
  have h : ∀ b0 b1 b2 b3 b4 b5 b6 b7 : Bool,
      ((!(b0 ^^ b1 ^^ b2 ^^ b3 ^^ b4 ^^ b5 ^^ b6 ^^ b7)) = true ↔
        ([b0, b1, b2, b3, b4, b5, b6, b7].countP id) % 2 = 0) := by decide
  have e : (List.range 8).countP (fun k => r.getLsbD k) =
      ([r.getLsbD 0, r.getLsbD 1, r.getLsbD 2, r.getLsbD 3, r.getLsbD 4, r.getLsbD 5, r.getLsbD 6,
        r.getLsbD 7].countP id) := by
    rw [show List.range 8 = [0, 1, 2, 3, 4, 5, 6, 7] by decide]
    simp only [List.countP_cons, List.countP_nil, id]
  unfold evenParity EvenOnes
  rw [e]
  exact h _ _ _ _ _ _ _ _

/-- The sign flag as a comparison. -/
theorem msb_iff {n : Nat} (r : BitVec n) : r.msb = true ↔ 2 ^ (n - 1) ≤ r.toNat := by
  rw [BitVec.msb_eq_decide]
  simp

/-- S, Z and P of a status computed from a result. -/
theorem resultFlags_of {n : Nat} (p : Psw) (r : BitVec n) (hs : p.s = r.msb) (hz : p.z = (r == 0))
    (hp : p.p = evenParity r) : ResultFlags p r := by
  refine ⟨by rw [hs]; exact msb_iff r, ?_, by rw [hp]; exact evenParity_iff r⟩
  rw [hz, beq_iff_eq]
  constructor
  · intro h; simp [h]
  · intro h; exact BitVec.eq_of_toNat_eq (by simpa using h)

/-- An operand has 8 or 16 bits. -/
theorem width_bits_cases (w : Width) : w.bits = 8 ∨ w.bits = 16 := by cases w <;> simp [Width.bits]

/-- CY, AC and V of a sum. -/
theorem addFlags_carries {n : Nat} (hn : n = 8 ∨ n = 16) {p : Psw} {a b : BitVec n} {c : Bool}
    (hcy : p.cy = (addFlags a b c).cy) (hac : p.ac = (addFlags a b c).ac) (hv : p.v = (addFlags a b c).v) :
    SumCarries p a b c := by
  refine ⟨by rw [hcy]; simp [addFlags], by rw [hac]; simp [addFlags], ?_⟩
  rw [hv]
  have ha := a.isLt
  have hb := b.isLt
  have hc : c.toNat ≤ 1 := by cases c <;> decide
  have hr : (addValue a b c).toNat = (a.toNat + b.toNat + c.toNat) % 2 ^ n := by simp [addValue]
  have ma := msb_iff a
  have mb := msb_iff b
  have mr := msb_iff (addValue a b c)
  simp only [addFlags, Overflows, Bool.and_eq_true, beq_iff_eq, bne_iff_ne, ne_eq]
  rw [BitVec.toInt_eq_msb_cond, BitVec.toInt_eq_msb_cond]
  rw [hr] at mr
  generalize (addValue a b c).msb = x at *
  generalize a.msb = y at *
  generalize b.msb = z at *
  rcases hn with rfl | rfl <;> cases x <;> cases y <;> cases z <;> simp at ma mb mr ⊢ <;> omega

/-- CY, AC and V of a difference. -/
theorem subFlags_borrows {n : Nat} (hn : n = 8 ∨ n = 16) {p : Psw} {a b : BitVec n} {c : Bool}
    (hcy : p.cy = (subFlags a b c).cy) (hac : p.ac = (subFlags a b c).ac) (hv : p.v = (subFlags a b c).v) :
    DifferenceBorrows p a b c := by
  refine ⟨by rw [hcy]; simp [subFlags], by rw [hac]; simp [subFlags], ?_⟩
  rw [hv]
  have ha := a.isLt
  have hb := b.isLt
  have hc : c.toNat ≤ 1 := by cases c <;> decide
  have hr : (subValue a b c).toNat = (((a.toNat : Int) - b.toNat - c.toNat) % 2 ^ n).toNat := by
    simp [subValue]
  have ma := msb_iff a
  have mb := msb_iff b
  have mr := msb_iff (subValue a b c)
  simp only [subFlags, Overflows, Bool.and_eq_true, bne_iff_ne, ne_eq]
  rw [BitVec.toInt_eq_msb_cond, BitVec.toInt_eq_msb_cond]
  rw [hr] at mr
  generalize (subValue a b c).msb = x at *
  generalize a.msb = y at *
  generalize b.msb = z at *
  rcases hn with rfl | rfl <;> cases x <;> cases y <;> cases z <;> simp at ma mb mr ⊢ <;> omega

/-- The difference is that of bit vectors. -/
theorem subValue_eq {n : Nat} (hn : n = 8 ∨ n = 16) (a b : BitVec n) (c : Bool) :
    subValue a b c = a - b - BitVec.ofNat n c.toNat := by
  apply BitVec.eq_of_toNat_eq
  have ha := a.isLt
  have hb := b.isLt
  have hc : c.toNat ≤ 1 := by cases c <;> decide
  rcases hn with rfl | rfl <;> simp [subValue, BitVec.toNat_sub] <;> omega

end Sys2Proof.Machine
end

