-- ==== Sys2Proof/Laws/Operands.lean ====
section
/-! SUPPORT. What writing a register, an operand and the flags leaves: one lemma for each shared operation. -/

namespace Sys2Proof.Machine

/-- The low half of a word put together from halves. -/
@[simp] theorem lowByte_append (x y : Byte) : lowByte (x ++ y) = y := by
  apply BitVec.eq_of_getLsbD_eq
  intro i hi
  have h : (BitVec.getLsbD (w := 8 + 8) (x ++ y) i) = y.getLsbD i := by rw [BitVec.getLsbD_append, if_pos hi]
  simpa [lowByte, hi] using h

/-- The high half of a word put together from halves. -/
@[simp] theorem highByte_append (x y : Byte) : highByte (x ++ y) = x := by
  apply BitVec.eq_of_getLsbD_eq
  intro i hi
  have h : (BitVec.getLsbD (w := 8 + 8) (x ++ y) (8 + i)) = x.getLsbD i := by
    rw [BitVec.getLsbD_append, if_neg (by omega), Nat.add_sub_cancel_left]
  simpa [highByte, hi] using h

/-- A word is its two halves. -/
theorem halves_append (x : Word) : highByte x ++ lowByte x = x := by
  apply BitVec.eq_of_getLsbD_eq
  intro i hi
  have e : BitVec.getLsbD (w := 8 + 8) (highByte x ++ lowByte x) i = x.getLsbD i := by
    rw [BitVec.getLsbD_append]
    simp only [highByte, lowByte, BitVec.getLsbD_extractLsb']
    by_cases h : i < 8
    · simp [h]
    · rw [if_neg h, show 8 + (i - 8) = i by omega, show decide (i - 8 < 8) = true by simp; omega, Bool.true_and]
  exact e

/-- A register written reads back. -/
@[simp] theorem State.readReg_writeReg (s : State) (w : Width) (r : Reg) (v : Val w) :
    (s.writeReg w r v).readReg w r = v := by
  cases w <;> cases r <;>
    simp [State.writeReg, State.readReg, State.writeReg8, State.readReg8, State.writeReg16, State.readReg16, setLow,
      setHigh]

/-- Writing a register changes that register only. -/
theorem State.writeReg_frame (s : State) (w : Width) (r : Reg) (v : Val w) :
    SameRegistersBut w r s (s.writeReg w r v) ∧ SameMemory s (s.writeReg w r v) ∧ SameRest s (s.writeReg w r v) := by
  refine ⟨?_, ⟨by simp, by simp, fun a => State.readByte_congr (by simp) (by simp) (by simp) a⟩, ?_⟩
  · cases w with
    | byte =>
      refine ⟨fun q hq => ?_, ?_, ?_, ?_, ?_⟩
      · cases r <;> cases q <;>
          simp_all [State.writeReg, State.writeReg8, State.readReg8, setLow, setHigh]
      all_goals cases r <;> rfl
    | word =>
      intro q hq
      cases r <;> cases q <;> simp_all [State.writeReg, State.writeReg16, State.readReg16]
  · cases w <;> cases r <;> rfl

/-- `SameRest` only looks at the rest. -/
theorem SameRest.refl (s : State) : SameRest s s := rfl

/-- `SameRest` step by step. -/
theorem SameRest.trans {s t u : State} (h1 : SameRest s t) (h2 : SameRest t u) : SameRest s u := by
  unfold SameRest at *
  rw [h1] at h2
  rw [h2]

/-- Writing the flags changes nothing else. -/
theorem SameRest.setStatus {s t : State} (h : SameRest s t) (f : Status) : SameRest s (t.setStatus f) :=
  h.trans rfl

/-- Nothing stored, nothing changed. -/
theorem SameMemory.refl (s : State) : SameMemory s s := ⟨rfl, rfl, fun _ => rfl⟩

/-- What writing an operand leaves. -/
theorem State.writeOperand_becomes (s : State) (w : Width) (o : Operand) (v : Val w) :
    OperandBecomes s (s.writeOperand w o v) w o v := by
  cases o with
  | reg r => exact ⟨State.readReg_writeReg s w r v, (State.writeReg_frame s w r v).1, (State.writeReg_frame s w r v).2.1⟩
  | mem m =>
    refine ⟨fun r => ?_, State.store_stores s w _ _ v⟩
    cases r <;> simp [State.writeOperand, State.readReg16]

/-- A store changes memory and the bus record only. -/
theorem State.store_eq (s : State) (w : Width) (g : SReg) (off : Word) (v : Val w) :
    s.store w g off v = { s with mem := (s.store w g off v).mem, bus := (s.store w g off v).bus } := by
  cases w with
  | byte => unfold State.store State.storeBytes State.writeByte; simp only; split <;> rfl
  | word => unfold State.store State.storeBytes State.writeByte; simp only; split <;> split <;> rfl

/-- Writing an operand leaves the rest of the state. -/
theorem State.writeOperand_rest (s : State) (w : Width) (o : Operand) (v : Val w) :
    SameRest s (s.writeOperand w o v) := by
  cases o with
  | reg r => exact (State.writeReg_frame s w r v).2.2
  | mem m =>
    have h : ∀ t : State, t = { s with mem := t.mem, bus := t.bus } → SameRest s t := by
      intro t ht
      unfold SameRest
      rw [ht]
    exact h _ (State.store_eq s w (s.memSreg m) (s.ea m) v)

/-- Writing an operand leaves the flags. -/
theorem OperandBecomes.setStatus {s t : State} {w : Width} {o : Operand} {v : Val w} (h : OperandBecomes s t w o v)
    (ht : t.platform = s.platform) (f : Status) : OperandBecomes s (t.setStatus f) w o v := by
  cases o with
  | reg r =>
    obtain ⟨h1, h2, h3, h4, h5⟩ := h
    refine ⟨?_, ?_, h3, h4, fun a => by rw [← h5 a]; exact State.readByte_congr rfl rfl rfl a⟩
    · cases w <;> cases r <;> exact h1
    · cases w with
      | byte =>
        refine ⟨fun q hq => ?_, h2.2⟩
        rw [← h2.1 q hq]
        cases q <;> rfl
      | word =>
        intro q hq
        rw [← h2 q hq]
        cases q <;> rfl
  | mem m =>
    refine ⟨fun r => ?_, h.2.congr rfl rfl rfl rfl rfl rfl ht rfl rfl⟩
    rw [← h.1 r]
    cases r <;> rfl

/-- A status written leaves the control flags. -/
theorem Psw.withStatus_control (p : Psw) (f : Status) : SameControlFlags p (p.withStatus f) := ⟨rfl, rfl, rfl, rfl⟩

/-- The state after an operand was read differs in the bus record only. -/
theorem State.afterOperand_eq (s : State) (w : Width) (o : Operand) :
    s.afterOperand w o = { s with bus := (s.afterOperand w o).bus } := by
  cases o <;> rfl

/-- The state after an operand was read has the same rest. -/
theorem State.afterOperand_rest (s : State) (w : Width) (o : Operand) : SameRest s (s.afterOperand w o) := by
  unfold SameRest
  rw [State.afterOperand_eq]

/-- An operand read and then written together with the status flags. -/
theorem State.writeOperand_setStatus (s : State) (w : Width) (o : Operand) (v : Val w) (f : Status) :
    OperandBecomes (s.afterOperand w o) (((s.afterOperand w o).writeOperand w o v).setStatus f) w o v ∧
      (((s.afterOperand w o).writeOperand w o v).setStatus f).psw = s.psw.withStatus f ∧
      SameControlFlags s.psw (((s.afterOperand w o).writeOperand w o v).setStatus f).psw ∧
      SameRest s (((s.afterOperand w o).writeOperand w o v).setStatus f) := by
  have e : (((s.afterOperand w o).writeOperand w o v).setStatus f).psw = s.psw.withStatus f := by simp
  refine ⟨(State.writeOperand_becomes _ w o v).setStatus (by simp) f, e, ?_,
    ((State.afterOperand_rest s w o).trans (State.writeOperand_rest _ w o v)).setStatus f⟩
  rw [e]
  exact Psw.withStatus_control _ _

/-- The status flags written alone. -/
theorem State.setStatus_frame (s : State) (f : Status) :
    SameControlFlags s.psw (s.setStatus f).psw ∧ SameRegisters s (s.setStatus f) ∧ SameMemory s (s.setStatus f) ∧
      SameRest s (s.setStatus f) := by
  refine ⟨Psw.withStatus_control _ _, fun r => ?_, ⟨rfl, rfl, fun a => State.readByte_congr rfl rfl rfl a⟩, rfl⟩
  cases r <;> rfl

/-- Addition: what `addWith` leaves. -/
theorem State.addWith_spec (s : State) (w : Width) (o : Operand) (src : Val w) (c : Bool) :
    OperandBecomes (s.afterOperand w o) (s.addWith w o src c) w o
        (BitVec.ofNat _ ((s.readOperand w o).toNat + src.toNat + c.toNat)) ∧
      SumCarries (s.addWith w o src c).psw (s.readOperand w o) src c ∧
      ResultFlags (s.addWith w o src c).psw
        (BitVec.ofNat w.bits ((s.readOperand w o).toNat + src.toNat + c.toNat)) ∧
      SameControlFlags s.psw (s.addWith w o src c).psw ∧ SameRest s (s.addWith w o src c) := by
  obtain ⟨h1, h2, h3, h4⟩ := State.writeOperand_setStatus s w o (addValue (s.readOperand w o) src c)
    (addFlags (s.readOperand w o) src c)
  exact ⟨h1, addFlags_carries (width_bits_cases w) (by rw [State.addWith, h2]; rfl) (by rw [State.addWith, h2]; rfl)
    (by rw [State.addWith, h2]; rfl), resultFlags_of _ _ (by rw [State.addWith, h2]; rfl)
    (by rw [State.addWith, h2]; rfl) (by rw [State.addWith, h2]; rfl), h3, h4⟩

/-- Subtraction: what `subWith` leaves. -/
theorem State.subWith_spec (s : State) (w : Width) (o : Operand) (src : Val w) (c : Bool) :
    OperandBecomes (s.afterOperand w o) (s.subWith w o src c) w o (s.readOperand w o - src - BitVec.ofNat w.bits c.toNat) ∧
      DifferenceBorrows (s.subWith w o src c).psw (s.readOperand w o) src c ∧
      ResultFlags (s.subWith w o src c).psw (s.readOperand w o - src - BitVec.ofNat w.bits c.toNat) ∧
      SameControlFlags s.psw (s.subWith w o src c).psw ∧ SameRest s (s.subWith w o src c) := by
  rw [← subValue_eq (width_bits_cases w)]
  obtain ⟨h1, h2, h3, h4⟩ := State.writeOperand_setStatus s w o (subValue (s.readOperand w o) src c)
    (subFlags (s.readOperand w o) src c)
  exact ⟨h1, subFlags_borrows (width_bits_cases w) (by rw [State.subWith, h2]; rfl) (by rw [State.subWith, h2]; rfl)
    (by rw [State.subWith, h2]; rfl), resultFlags_of _ _ (by rw [State.subWith, h2]; rfl)
    (by rw [State.subWith, h2]; rfl) (by rw [State.subWith, h2]; rfl), h3, h4⟩

/-- Comparison: the flags of a difference, and nothing else. -/
theorem State.setSubFlags_spec (s : State) (w : Width) (a b : Val w) :
    DifferenceBorrows (s.setStatus (subFlags a b false)).psw a b false ∧
      ResultFlags (s.setStatus (subFlags a b false)).psw (a - b) := by
  have e : a - b = subValue a b false := by rw [subValue_eq (width_bits_cases w)]; simp
  rw [e]
  exact ⟨subFlags_borrows (width_bits_cases w) rfl rfl rfl, resultFlags_of _ _ rfl rfl rfl⟩

/-- Logic: the flags of a result. -/
theorem State.logicFlags_spec {n : Nat} (s t : State) (r : BitVec n) (h : t.psw = s.psw.withStatus (s.logicFlags r)) :
    LogicFlags s t r := by
  unfold LogicFlags
  rw [h]
  exact ⟨rfl, rfl, rfl, resultFlags_of _ _ rfl rfl rfl, Psw.withStatus_control _ _⟩

/-- Logic: what `logicTo` leaves. -/
theorem State.logicTo_spec (s : State) (w : Width) (o : Operand) (r : Val w) :
    OperandBecomes (s.afterOperand w o) (s.logicTo w o r) w o r ∧ LogicFlags s (s.logicTo w o r) r ∧
      SameRest s (s.logicTo w o r) := by
  obtain ⟨h1, h2, _, h4⟩ := State.writeOperand_setStatus s w o r (s.logicFlags r)
  exact ⟨h1, State.logicFlags_spec s _ r h2, h4⟩

/-- A move: what `writeOperand` leaves. -/
theorem State.writeOperand_moves (s : State) (w : Width) (o : Operand) (v : Val w) :
    OperandBecomes s (s.writeOperand w o v) w o v ∧ (s.writeOperand w o v).psw = s.psw ∧
      SameRest s (s.writeOperand w o v) :=
  ⟨State.writeOperand_becomes s w o v, by simp, State.writeOperand_rest s w o v⟩

end Sys2Proof.Machine
end

