-- ==== Sys2Proof/Laws/Operations.lean ====
section
/-! SUPPORT. The stack, the transfers of control and the interrupt entry: one lemma for each shared operation, which says
what the operation leaves. -/

namespace Sys2Proof.Machine

/-- A push lowers SP by two and stores one word. -/
theorem State.push16_eq (s : State) (v : Word) :
    s.push16 v = { s with sp := s.sp - 2, mem := (s.push16 v).mem, bus := (s.push16 v).bus } := by
  unfold State.push16
  exact State.store_eq { s with sp := s.sp - 2 } .word .ss (s.sp - 2) v

/-- The words pushed one after another, the first one first. -/
def State.pushWords (s : State) : List Word → State
  | [] => s
  | v :: rest => (s.push16 v).pushWords rest

/-- The bytes of pushed words depend on SS only. -/
theorem State.stackStores_cells {s t : State} (h : t.ss = s.ss) (sp : Word) (vs : List Word) :
    t.cellsOfStores (stackStores sp vs) = s.cellsOfStores (stackStores sp vs) := by
  induction vs generalizing sp with
  | nil => simp [State.cellsOfStores, stackStores]
  | cons v vs ih =>
    have := ih (sp - 2)
    simp only [State.cellsOfStores, stackStores, List.flatMap_cons] at this ⊢
    rw [this, show t.readSreg .ss = s.readSreg .ss from h]

/-- The write cycles of pushed words depend on SS, the chip, the PSW and the prefixes only. -/
theorem State.stackStores_cycles {s t : State} (h : t.ss = s.ss) (hc : t.chip = s.chip) (hp : t.psw = s.psw)
    (hx : t.prefixes = s.prefixes) (sp : Word) (vs : List Word) :
    t.cyclesOfStores (stackStores sp vs) = s.cyclesOfStores (stackStores sp vs) := by
  induction vs generalizing sp with
  | nil => simp [State.cyclesOfStores, stackStores]
  | cons v vs ih =>
    have := ih (sp - 2)
    simp only [State.cyclesOfStores, stackStores, List.flatMap_cons] at this ⊢
    rw [this]
    simp only [State.writeCycles, State.cyclesOf, State.busCycle, hc, hp, hx,
      show t.readSreg .ss = s.readSreg .ss from h]

/-- What pushing a list of words leaves in memory and on the bus. -/
theorem State.pushWords_stores (s : State) (vs : List Word) : Stores s (s.pushWords vs) (stackStores s.sp vs) := by
  induction vs generalizing s with
  | nil => exact Stores.nil s
  | cons v vs ih =>
    have h := ih (s.push16 v)
    rw [State.push16_sp] at h
    exact Stores.trans (State.push16_stores s v) h (State.push16_platform s v)
      (State.stackStores_cells (State.push16_ss s v) _ _)
      (State.stackStores_cycles (State.push16_ss s v) (State.push16_chip s v) (State.push16_psw s v)
        (State.push16_prefixes s v) _ _)

/-- What pushing a list of words leaves in the rest of the state. -/
theorem State.pushWords_eq (s : State) (vs : List Word) :
    s.pushWords vs =
      { s with
        sp := s.sp - BitVec.ofNat 16 (2 * vs.length)
        mem := (s.pushWords vs).mem
        bus := (s.pushWords vs).bus } := by
  induction vs generalizing s with
  | nil => simp [State.pushWords]
  | cons v vs ih =>
    have e : s.sp - 2 - BitVec.ofNat 16 (2 * vs.length) = s.sp - BitVec.ofNat 16 (2 * (v :: vs).length) := by
      simp only [List.length_cons]
      apply BitVec.eq_of_toNat_eq
      simp [BitVec.toNat_sub]
      omega
    rw [State.pushWords, ih (s.push16 v), State.push16_sp, e, State.push16_eq s v]

/-- The frame of an interrupt entry: three words pushed. -/
theorem State.pushFrame_words (s : State) (ret : Word) : s.pushFrame ret = s.pushWords [s.psw.image, s.ps, ret] := rfl

/-- A branch in the words of the claims. -/
theorem State.writePc_eq (s : State) (x : Word) : s.writePc x = s.transferredTo x := rfl

/-- A far transfer changes PS, PC and the prefetch state only. -/
theorem State.farTransfer_eq (s : State) (target : Word × Word) :
    s.farTransfer target = { s with ps := target.2 }.transferredTo target.1 := rfl

/-- The jump to a vector: PC and PS from the two words of the vector, read on the bus. -/
theorem State.toVector_eq (s : State) (n : Byte) :
    s.toVector n =
      { s.recordCycles (s.vectorCycles (4 * n.toNat)) with
        ps := s.readByte (4 * n.toNat + 3) ++ s.readByte (4 * n.toNat + 2) }.transferredTo
        (s.readByte (4 * n.toNat + 1) ++ s.readByte (4 * n.toNat)) := rfl

/-- The frame of an entry lowers SP by six and stores. -/
theorem State.pushFrame_eq (s : State) (ret : Word) :
    s.pushFrame ret = { s with sp := s.sp - 6, mem := (s.pushFrame ret).mem, bus := (s.pushFrame ret).bus } := by
  have e := State.pushWords_eq s [s.psw.image, s.ps, ret]
  rw [← State.pushFrame_words] at e
  generalize s.pushFrame ret = x at e
  exact e

/-- Every entry through a vector: the frame pushed, the PSW and the write enable of MD changed, the jump. -/
theorem State.entersWith (s : State) (n : Byte) (ret : Word) (psw : Psw) (mdwe : Bool) :
    EntersWith s ({ s.pushFrame ret with psw := psw, mdwe := mdwe }.toVector n) n ret psw mdwe := by
  have h := State.pushWords_stores s [s.psw.image, s.ps, ret]
  have e := State.pushFrame_eq s ret
  have hp := State.pushFrame_platform s ret
  rw [← State.pushFrame_words] at h
  generalize s.pushFrame ret = x at h e hp
  refine ⟨{ x with psw := psw, mdwe := mdwe }, ?_, ?_, rfl⟩
  · exact ⟨h.memory.congr rfl rfl rfl rfl hp, h.onBus⟩
  · conv => lhs; rw [e]

/-- The interrupt entry is the entry that clears IE and BRK and sets MD. -/
theorem State.enterInterrupt_enters (s : State) (n : Byte) (ret : Word) : Enters s (s.enterInterrupt n ret) n ret := by
  have h := State.entersWith s n ret { s.psw with ie := false, brk := false, md := true } s.mdwe
  have e1 := State.pushFrame_psw s ret
  have e2 := State.pushFrame_mdwe s ret
  unfold Enters State.enterInterrupt
  generalize s.pushFrame ret = x at h e1 e2
  simp only [e1]
  rw [← e2] at h ⊢
  exact h

end Sys2Proof.Machine
end

