-- ==== Sys2Proof/Laws/Arithmetic.lean ====
section
/-! SUPPORT. Shifts, products and quotients: what each shared operation leaves. -/

namespace Sys2Proof.Machine

/-- A shift or rotate by one: the operand, the flags, and nothing else. -/
theorem State.shiftOnce_spec (s : State) (op : ShiftOp) (w : Width) (o : Operand) :
    let r := op.step (s.readOperand w o) s.psw.cy
    OperandBecomes (s.afterOperand w o) (s.shiftOnce op w o) w o r.1 ∧
      (s.shiftOnce op w o).psw = s.psw.withStatus (s.shiftFlags op r.1 r.2 (op.overflow r.1 r.2)) ∧
      SameControlFlags s.psw (s.shiftOnce op w o).psw ∧ SameRest s (s.shiftOnce op w o) :=
  State.writeOperand_setStatus s w o _ _

/-- A shift or rotate by a count: the operand, the flags, and nothing else. -/
theorem State.shiftBy_spec (s : State) (op : ShiftOp) (w : Width) (o : Operand) (count : Byte) :
    let r := op.steps count.toNat (s.readOperand w o, s.psw.cy)
    OperandBecomes (s.afterOperand w o) (s.shiftBy op w o count) w o r.1 ∧
      (s.shiftBy op w o count).psw = s.psw.withStatus (s.shiftByFlags op count.toNat r.1 r.2) ∧
      SameControlFlags s.psw (s.shiftBy op w o count).psw ∧ SameRest s (s.shiftBy op w o count) :=
  State.writeOperand_setStatus s w o _ _

/-- The last of `k + 1` steps of a shift or rotate. -/
theorem ShiftOp.steps_succ {n : Nat} (op : ShiftOp) (k : Nat) (x : BitVec n × Bool) :
    op.steps (k + 1) x = op.step (op.steps k x).1 (op.steps k x).2 := by
  induction k generalizing x with
  | zero => rfl
  | succ k ih => exact ih (op.step x.1 x.2)

/-- The rotates leave S, Z, AC and P. -/
theorem State.shiftFlags_rotates {n : Nat} (s : State) {op : ShiftOp} (h : op.rotates = true) (r : BitVec n)
    (cy v : Bool) : s.psw.withStatus (s.shiftFlags op r cy v) = { s.psw with v := v, cy := cy } := by
  simp [State.shiftFlags, h, Psw.withStatus, Psw.status]

/-- The shifts set S, Z and P by the result. -/
theorem State.shiftFlags_shifts {n : Nat} (s : State) {op : ShiftOp} (h : op.rotates = false) (r : BitVec n)
    (cy v : Bool) :
    s.psw.withStatus (s.shiftFlags op r cy v) =
      { s.psw with
        v := v, s := r.msb, z := r == 0, ac := Config.freeFlag s.draws .ac, p := evenParity r, cy := cy } := by
  simp [State.shiftFlags, h, Psw.withStatus, State.drawnFlag]

/-- A byte division leaves the remainder above the quotient. -/
theorem State.setQuotient_byte (s : State) (q r : Byte) : s.setQuotient .byte q r = { s with aw := r ++ q } := rfl

/-- A word division leaves the remainder in DW. -/
theorem State.setQuotient_word (s : State) (q r : Word) : s.setQuotient .word q r = { s with aw := q, dw := r } := rfl

/-- An unsigned division: the quotient and remainder where the quotient fits, else the divide error. -/
theorem State.divUnsigned_cases (s : State) (w : Width) (v : Val w) :
    ((v.toNat = 0 ∨ 2 ^ w.bits * v.toNat ≤ (s.dividend w).toNat) ∧ s.divUnsigned w v = s.divideError w) ∨
    (v.toNat ≠ 0 ∧ (s.dividend w).toNat < 2 ^ w.bits * v.toNat ∧
      s.divUnsigned w v =
        (s.setQuotient w (BitVec.ofNat _ ((s.dividend w).toNat / v.toNat))
          (BitVec.ofNat _ ((s.dividend w).toNat % v.toNat))).setStatus s.drawnStatus) := by
  unfold State.divUnsigned
  by_cases h0 : v.toNat = 0
  · exact .inl ⟨.inl h0, if_pos (.inl h0)⟩
  · by_cases h : 2 ^ w.bits * v.toNat ≤ (s.dividend w).toNat
    · exact .inl ⟨.inr h, if_pos (.inr ((Nat.le_div_iff_mul_le (Nat.pos_of_ne_zero h0)).2 h))⟩
    · refine .inr ⟨h0, by omega, if_neg ?_⟩
      rintro (h1 | h1)
      · exact h0 h1
      · exact h ((Nat.le_div_iff_mul_le (Nat.pos_of_ne_zero h0)).1 h1)

/-- A divide error enters vector 0 from a state in which only the quotient's registers and the flags differ. -/
theorem State.divideError_eq (s : State) (w : Width) :
    ∃ q r : Val w, s.divideError w = ((s.setQuotient w q r).setStatus s.drawnStatus).enterInterrupt 0 s.pc :=
  ⟨_, _, rfl⟩

end Sys2Proof.Machine
end

