-- ==== Sys2Proof/Laws/Decode.lean ====
section
/-! SUPPORT. The parts of the decoder read what the parts of the encoder write. -/

namespace Sys2Proof

open Sys2Proof.Machine

/-- The register a register's code names. -/
@[simp] theorem Reg.ofCode_code (r : Reg) : Reg.ofCode r.code = r := by cases r <;> rfl

/-- The code of the register a code names. -/
@[simp] theorem Reg.code_ofCode (c : BitVec 3) : (Reg.ofCode c).code = c := by revert c; decide

/-- The segment register a segment register's code names. -/
@[simp] theorem SReg.ofCode_code (g : SReg) : SReg.ofCode g.code = g := by cases g <;> rfl

/-- The code of the segment register a code names. -/
@[simp] theorem SReg.code_ofCode (c : BitVec 2) : (SReg.ofCode c).code = c := by revert c; decide

/-- The base a base's code names. -/
@[simp] theorem Base.ofCode_code (b : Base) : Base.ofCode b.code = b := by cases b <;> rfl

/-- The code of the base a code names. -/
@[simp] theorem Base.code_ofCode (c : BitVec 3) : (Base.ofCode c).code = c := by revert c; decide

/-- Bits 7 and 6 of an addressing byte. -/
@[simp] theorem modrm_mod (m : BitVec 2) (r k : BitVec 3) : (modrm m r k).extractLsb' 6 2 = m := by
  revert m r k
  decide

/-- Bits 5 to 3 of an addressing byte. -/
@[simp] theorem modrm_reg (m : BitVec 2) (r k : BitVec 3) : (modrm m r k).extractLsb' 3 3 = r := by
  revert m r k
  decide

/-- Bits 2 to 0 of an addressing byte. -/
@[simp] theorem modrm_mem (m : BitVec 2) (r k : BitVec 3) : (modrm m r k).extractLsb' 0 3 = k := by
  revert m r k
  decide

/-- The word that `encodeWord` wrote. -/
@[simp] theorem wordAt_encodeWord (v : Word) (rest : List Byte) : wordAt (encodeWord v ++ rest) 0 = v :=
  halves_append v

/-- The word that `encodeWord` wrote after one byte. -/
@[simp] theorem wordAt_cons_encodeWord (b : Byte) (v : Word) (rest : List Byte) :
    wordAt (b :: (encodeWord v ++ rest)) 1 = v := halves_append v

/-- The register form of the addressing byte is read back. -/
theorem addressing_reg (field : BitVec 3) (r : Reg) (rest : List Byte) :
    addressing (modrm 3 field r.code :: rest) = ⟨field, .reg r, 1⟩ := by
  simp [addressing, byteAt]

/-- The memory forms of the addressing byte, with their displacements, are read back. -/
theorem addressing_mem (field : BitVec 3) (m : MemOp) (rest : List Byte) (h : m.wellFormed = true) :
    addressing (encodeMem field m ++ rest) = ⟨field, .mem m, (encodeMem field m).length⟩ := by
  cases m with
  | direct a => simp [addressing, encodeMem, byteAt]; rfl
  | based b =>
    have hb : ¬ b.code = 6#3 := by cases b <;> simp_all [MemOp.wellFormed, Base.code]
    simp [addressing, encodeMem, byteAt, hb]
  | disp8 b d => simp [addressing, encodeMem, byteAt]
  | disp16 b d => simp [addressing, encodeMem, byteAt]; rfl

/-- A byte immediate is read back where it fits. -/
theorem setWidth_of_immFits {imm : Word} (h : imm.toNat < 256) : (imm.setWidth 8).setWidth 16 = imm := by
  apply BitVec.eq_of_toNat_eq
  simp
  omega

/-- What follows the addressing byte of a register operand. -/
theorem withRm_reg (k : BitVec 3 → Operand → Form) (field : BitVec 3) (r : Reg) (rest : List Byte) :
    withRm k (modrm 3 field r.code :: rest) = Decoded.longer 1 (k field (.reg r) rest) := by
  rw [withRm, addressing_reg]
  rfl

/-- What follows the addressing bytes of a memory operand. -/
theorem withRm_mem (k : BitVec 3 → Operand → Form) (field : BitVec 3) (m : MemOp) (rest : List Byte)
    (h : m.wellFormed = true) :
    withRm k (encodeMem field m ++ rest) = Decoded.longer (encodeMem field m).length (k field (.mem m) rest) := by
  simp [withRm, addressing_mem field m rest h]

/-- An immediate of a form with a `W` bit is read back. -/
theorem withImm_encodeImm (w : Width) (f : Word → Instr) (imm : Word) (rest : List Byte) (h : w.immFits imm = true) :
    withImm w f (encodeImm w imm ++ rest) = .ok (f imm, (encodeImm w imm).length) := by
  cases w with
  | byte =>
    have h' : imm.toNat < 256 := by simpa [Width.immFits] using h
    simp [withImm, encodeImm, byteAt, setWidth_of_immFits h']
  | word => simp [withImm, encodeImm]; rfl

/-- An immediate of the group `100000sW` is read back. -/
theorem withSized_encode (z : ImmSize) (f : Word → Instr) (imm : Word) (rest : List Byte) (h : z.immFits imm = true) :
    withSized z f (z.encode imm ++ rest) = .ok (f imm, (z.encode imm).length) := by
  cases z with
  | byte =>
    have h' : imm.toNat < 256 := by simpa [ImmSize.immFits] using h
    simp [withSized, ImmSize.encode, byteAt, setWidth_of_immFits h']
  | word => simp [withSized, ImmSize.encode]; rfl
  | byteS =>
    have h' : imm.toNat < 256 := by simpa [ImmSize.immFits] using h
    simp [withSized, ImmSize.encode, byteAt, setWidth_of_immFits h']
  | wordS =>
    have h' : imm = (imm.setWidth 8).signExtend 16 := by simpa [ImmSize.immFits] using h
    simp [withSized, ImmSize.encode, byteAt, ← h']

end Sys2Proof
end

