-- ==== Sys2Proof/Laws/PerInstr.lean ====
section
/-! SUPPORT. Statements made instruction by instruction, one lemma for each constructor of `Instr`. -/

namespace Sys2Proof

/-- The addressing byte and its displacement are one to three bytes. -/
theorem encodeMem_length (field : BitVec 3) (m : MemOp) :
    1 ≤ (encodeMem field m).length ∧ (encodeMem field m).length ≤ 3 := by
  cases m <;> simp [encodeMem, encodeWord]

/-- An immediate is one or two bytes. -/
theorem encodeImm_length (w : Width) (imm : Word) :
    1 ≤ (encodeImm w imm).length ∧ (encodeImm w imm).length ≤ 2 := by
  cases w <;> simp [encodeImm, encodeWord]

/-- An immediate of the group `100000sW` is one or two bytes. -/
theorem ImmSize.encode_length (z : ImmSize) (imm : Word) :
    1 ≤ (z.encode imm).length ∧ (z.encode imm).length ≤ 2 := by
  cases z <;> simp [ImmSize.encode, encodeWord]

namespace Laws

/-- An instruction is one to six bytes long (30_encoding.md R101). -/
def EncodingLength.Statement (i : Instr) : Prop := 1 ≤ (encode i).length ∧ (encode i).length ≤ 6

/-- An encoding of a known length. -/
theorem of_length {i : Instr} {n : Nat} (h : (encode i).length = n) (b : 1 ≤ n ∧ n ≤ 6) :
    EncodingLength.Statement i := by
  rw [EncodingLength.Statement, h]
  exact b

/-- `k` opcode bytes and a memory operand. -/
theorem of_mem {i : Instr} {field : BitVec 3} {m : MemOp} (k : Nat)
    (h : (encode i).length = (encodeMem field m).length + k) (b : k ≤ 3) : EncodingLength.Statement i := by
  have := encodeMem_length field m
  rw [EncodingLength.Statement, h]
  omega

/-- `k` opcode bytes and at most `n` bytes more. -/
theorem of_tail {i : Instr} {tail : List Byte} (k n : Nat) (h : (encode i).length = tail.length + k)
    (ht : tail.length ≤ n) (b : 1 ≤ k ∧ k + n ≤ 6) : EncodingLength.Statement i := by
  rw [EncodingLength.Statement, h]
  omega

/-- `k` opcode bytes, a memory operand and at most `n` bytes more. -/
theorem of_memTail {i : Instr} {first : List Byte} {field : BitVec 3} {m : MemOp} {tail : List Byte} (k n : Nat)
    (h : encode i = first ++ encodeMem field m ++ tail) (hk : first.length = k)
    (ht : tail.length ≤ n) (b : k + n ≤ 3) : EncodingLength.Statement i := by
  have := encodeMem_length field m
  rw [EncodingLength.Statement, h, List.length_append, List.length_append, hk]
  omega

theorem EncodingLength.movRegReg (w : Width) (d : Reg) (q : Reg) : EncodingLength.Statement (.movRegReg w d q) :=
  of_length (n := 2) rfl (by decide)

theorem EncodingLength.movMemReg (w : Width) (m : MemOp) (r : Reg) : EncodingLength.Statement (.movMemReg w m r) :=
  of_mem 1 rfl (by decide)

theorem EncodingLength.movRegMem (w : Width) (r : Reg) (m : MemOp) : EncodingLength.Statement (.movRegMem w r m) :=
  of_mem 1 rfl (by decide)

theorem EncodingLength.movMemImm (w : Width) (m : MemOp) (imm : Word) : EncodingLength.Statement (.movMemImm w m imm) :=
  of_memTail (first := [withW 0xC6 w]) 1 2 rfl rfl (encodeImm_length _ _).2 (by decide)

theorem EncodingLength.movRegImm (w : Width) (r : Reg) (imm : Word) : EncodingLength.Statement (.movRegImm w r imm) :=
  of_tail 1 2 rfl (encodeImm_length _ _).2 (by decide)

theorem EncodingLength.movAccDmem (w : Width) (addr : Word) : EncodingLength.Statement (.movAccDmem w addr) :=
  of_length (n := 3) rfl (by decide)

theorem EncodingLength.movDmemAcc (w : Width) (addr : Word) : EncodingLength.Statement (.movDmemAcc w addr) :=
  of_length (n := 3) rfl (by decide)

theorem EncodingLength.movSregReg16 (g : SReg) (r : Reg) : EncodingLength.Statement (.movSregReg16 g r) :=
  of_length (n := 2) rfl (by decide)

theorem EncodingLength.movSregMem16 (g : SReg) (m : MemOp) : EncodingLength.Statement (.movSregMem16 g m) :=
  of_mem 1 rfl (by decide)

theorem EncodingLength.movReg16Sreg (r : Reg) (g : SReg) : EncodingLength.Statement (.movReg16Sreg r g) :=
  of_length (n := 2) rfl (by decide)

theorem EncodingLength.movMem16Sreg (m : MemOp) (g : SReg) : EncodingLength.Statement (.movMem16Sreg m g) :=
  of_mem 1 rfl (by decide)

theorem EncodingLength.movDs0Reg16Mem32 (r : Reg) (m : MemOp) : EncodingLength.Statement (.movDs0Reg16Mem32 r m) :=
  of_mem 1 rfl (by decide)

theorem EncodingLength.movDs1Reg16Mem32 (r : Reg) (m : MemOp) : EncodingLength.Statement (.movDs1Reg16Mem32 r m) :=
  of_mem 1 rfl (by decide)

theorem EncodingLength.movAhPsw : EncodingLength.Statement .movAhPsw :=
  of_length (n := 1) rfl (by decide)

theorem EncodingLength.movPswAh : EncodingLength.Statement .movPswAh :=
  of_length (n := 1) rfl (by decide)

theorem EncodingLength.ldeaReg16Mem16 (r : Reg) (m : MemOp) : EncodingLength.Statement (.ldeaReg16Mem16 r m) :=
  of_mem 1 rfl (by decide)

theorem EncodingLength.trans : EncodingLength.Statement .trans :=
  of_length (n := 1) rfl (by decide)

theorem EncodingLength.xchRegReg (w : Width) (d : Reg) (q : Reg) : EncodingLength.Statement (.xchRegReg w d q) :=
  of_length (n := 2) rfl (by decide)

theorem EncodingLength.xchMemReg (w : Width) (m : MemOp) (r : Reg) : EncodingLength.Statement (.xchMemReg w m r) :=
  of_mem 1 rfl (by decide)

theorem EncodingLength.xchAwReg16 (r : Reg) : EncodingLength.Statement (.xchAwReg16 r) :=
  of_length (n := 1) rfl (by decide)

theorem EncodingLength.repc : EncodingLength.Statement .repc :=
  of_length (n := 1) rfl (by decide)

theorem EncodingLength.repnc : EncodingLength.Statement .repnc :=
  of_length (n := 1) rfl (by decide)

theorem EncodingLength.rep : EncodingLength.Statement .rep :=
  of_length (n := 1) rfl (by decide)

theorem EncodingLength.repne : EncodingLength.Statement .repne :=
  of_length (n := 1) rfl (by decide)

theorem EncodingLength.movbk (w : Width) : EncodingLength.Statement (.movbk w) :=
  of_length (n := 1) rfl (by decide)

theorem EncodingLength.cmpbk (w : Width) : EncodingLength.Statement (.cmpbk w) :=
  of_length (n := 1) rfl (by decide)

theorem EncodingLength.cmpm (w : Width) : EncodingLength.Statement (.cmpm w) :=
  of_length (n := 1) rfl (by decide)

theorem EncodingLength.ldm (w : Width) : EncodingLength.Statement (.ldm w) :=
  of_length (n := 1) rfl (by decide)

theorem EncodingLength.stm (w : Width) : EncodingLength.Statement (.stm w) :=
  of_length (n := 1) rfl (by decide)

theorem EncodingLength.insReg8Reg8 (d : Reg) (q : Reg) : EncodingLength.Statement (.insReg8Reg8 d q) :=
  of_length (n := 3) rfl (by decide)

theorem EncodingLength.insReg8Imm4 (d : Reg) (imm : Byte) : EncodingLength.Statement (.insReg8Imm4 d imm) :=
  of_length (n := 4) rfl (by decide)

theorem EncodingLength.extReg8Reg8 (d : Reg) (q : Reg) : EncodingLength.Statement (.extReg8Reg8 d q) :=
  of_length (n := 3) rfl (by decide)

theorem EncodingLength.extReg8Imm4 (d : Reg) (imm : Byte) : EncodingLength.Statement (.extReg8Imm4 d imm) :=
  of_length (n := 4) rfl (by decide)

theorem EncodingLength.inAccImm8 (w : Width) (imm : Byte) : EncodingLength.Statement (.inAccImm8 w imm) :=
  of_length (n := 2) rfl (by decide)

theorem EncodingLength.inAccDw (w : Width) : EncodingLength.Statement (.inAccDw w) :=
  of_length (n := 1) rfl (by decide)

theorem EncodingLength.outImm8Acc (w : Width) (imm : Byte) : EncodingLength.Statement (.outImm8Acc w imm) :=
  of_length (n := 2) rfl (by decide)

theorem EncodingLength.outDwAcc (w : Width) : EncodingLength.Statement (.outDwAcc w) :=
  of_length (n := 1) rfl (by decide)

theorem EncodingLength.inm (w : Width) : EncodingLength.Statement (.inm w) :=
  of_length (n := 1) rfl (by decide)

theorem EncodingLength.outm (w : Width) : EncodingLength.Statement (.outm w) :=
  of_length (n := 1) rfl (by decide)

theorem EncodingLength.addRegReg (w : Width) (d : Reg) (q : Reg) : EncodingLength.Statement (.addRegReg w d q) :=
  of_length (n := 2) rfl (by decide)

theorem EncodingLength.addMemReg (w : Width) (m : MemOp) (r : Reg) : EncodingLength.Statement (.addMemReg w m r) :=
  of_mem 1 rfl (by decide)

theorem EncodingLength.addRegMem (w : Width) (r : Reg) (m : MemOp) : EncodingLength.Statement (.addRegMem w r m) :=
  of_mem 1 rfl (by decide)

theorem EncodingLength.addRegImm (f : ImmSize) (r : Reg) (imm : Word) : EncodingLength.Statement (.addRegImm f r imm) :=
  of_tail 2 2 rfl (ImmSize.encode_length _ _).2 (by decide)

theorem EncodingLength.addMemImm (f : ImmSize) (m : MemOp) (imm : Word) : EncodingLength.Statement (.addMemImm f m imm) :=
  of_memTail (first := [f.opcode]) 1 2 rfl rfl (ImmSize.encode_length _ _).2 (by decide)

theorem EncodingLength.addAccImm (w : Width) (imm : Word) : EncodingLength.Statement (.addAccImm w imm) :=
  of_tail 1 2 rfl (encodeImm_length _ _).2 (by decide)

theorem EncodingLength.addcRegReg (w : Width) (d : Reg) (q : Reg) : EncodingLength.Statement (.addcRegReg w d q) :=
  of_length (n := 2) rfl (by decide)

theorem EncodingLength.addcMemReg (w : Width) (m : MemOp) (r : Reg) : EncodingLength.Statement (.addcMemReg w m r) :=
  of_mem 1 rfl (by decide)

theorem EncodingLength.addcRegMem (w : Width) (r : Reg) (m : MemOp) : EncodingLength.Statement (.addcRegMem w r m) :=
  of_mem 1 rfl (by decide)

theorem EncodingLength.addcRegImm (f : ImmSize) (r : Reg) (imm : Word) : EncodingLength.Statement (.addcRegImm f r imm) :=
  of_tail 2 2 rfl (ImmSize.encode_length _ _).2 (by decide)

theorem EncodingLength.addcMemImm (f : ImmSize) (m : MemOp) (imm : Word) : EncodingLength.Statement (.addcMemImm f m imm) :=
  of_memTail (first := [f.opcode]) 1 2 rfl rfl (ImmSize.encode_length _ _).2 (by decide)

theorem EncodingLength.addcAccImm (w : Width) (imm : Word) : EncodingLength.Statement (.addcAccImm w imm) :=
  of_tail 1 2 rfl (encodeImm_length _ _).2 (by decide)

theorem EncodingLength.subRegReg (w : Width) (d : Reg) (q : Reg) : EncodingLength.Statement (.subRegReg w d q) :=
  of_length (n := 2) rfl (by decide)

theorem EncodingLength.subMemReg (w : Width) (m : MemOp) (r : Reg) : EncodingLength.Statement (.subMemReg w m r) :=
  of_mem 1 rfl (by decide)

theorem EncodingLength.subRegMem (w : Width) (r : Reg) (m : MemOp) : EncodingLength.Statement (.subRegMem w r m) :=
  of_mem 1 rfl (by decide)

theorem EncodingLength.subRegImm (f : ImmSize) (r : Reg) (imm : Word) : EncodingLength.Statement (.subRegImm f r imm) :=
  of_tail 2 2 rfl (ImmSize.encode_length _ _).2 (by decide)

theorem EncodingLength.subMemImm (f : ImmSize) (m : MemOp) (imm : Word) : EncodingLength.Statement (.subMemImm f m imm) :=
  of_memTail (first := [f.opcode]) 1 2 rfl rfl (ImmSize.encode_length _ _).2 (by decide)

theorem EncodingLength.subAccImm (w : Width) (imm : Word) : EncodingLength.Statement (.subAccImm w imm) :=
  of_tail 1 2 rfl (encodeImm_length _ _).2 (by decide)

theorem EncodingLength.subcRegReg (w : Width) (d : Reg) (q : Reg) : EncodingLength.Statement (.subcRegReg w d q) :=
  of_length (n := 2) rfl (by decide)

theorem EncodingLength.subcMemReg (w : Width) (m : MemOp) (r : Reg) : EncodingLength.Statement (.subcMemReg w m r) :=
  of_mem 1 rfl (by decide)

theorem EncodingLength.subcRegMem (w : Width) (r : Reg) (m : MemOp) : EncodingLength.Statement (.subcRegMem w r m) :=
  of_mem 1 rfl (by decide)

theorem EncodingLength.subcRegImm (f : ImmSize) (r : Reg) (imm : Word) : EncodingLength.Statement (.subcRegImm f r imm) :=
  of_tail 2 2 rfl (ImmSize.encode_length _ _).2 (by decide)

theorem EncodingLength.subcMemImm (f : ImmSize) (m : MemOp) (imm : Word) : EncodingLength.Statement (.subcMemImm f m imm) :=
  of_memTail (first := [f.opcode]) 1 2 rfl rfl (ImmSize.encode_length _ _).2 (by decide)

theorem EncodingLength.subcAccImm (w : Width) (imm : Word) : EncodingLength.Statement (.subcAccImm w imm) :=
  of_tail 1 2 rfl (encodeImm_length _ _).2 (by decide)

theorem EncodingLength.add4s : EncodingLength.Statement .add4s :=
  of_length (n := 2) rfl (by decide)

theorem EncodingLength.sub4s : EncodingLength.Statement .sub4s :=
  of_length (n := 2) rfl (by decide)

theorem EncodingLength.cmp4s : EncodingLength.Statement .cmp4s :=
  of_length (n := 2) rfl (by decide)

theorem EncodingLength.rol4Reg8 (r : Reg) : EncodingLength.Statement (.rol4Reg8 r) :=
  of_length (n := 3) rfl (by decide)

theorem EncodingLength.rol4Mem8 (m : MemOp) : EncodingLength.Statement (.rol4Mem8 m) :=
  of_mem 2 rfl (by decide)

theorem EncodingLength.ror4Reg8 (r : Reg) : EncodingLength.Statement (.ror4Reg8 r) :=
  of_length (n := 3) rfl (by decide)

theorem EncodingLength.ror4Mem8 (m : MemOp) : EncodingLength.Statement (.ror4Mem8 m) :=
  of_mem 2 rfl (by decide)

theorem EncodingLength.incReg8 (r : Reg) : EncodingLength.Statement (.incReg8 r) :=
  of_length (n := 2) rfl (by decide)

theorem EncodingLength.incMem (w : Width) (m : MemOp) : EncodingLength.Statement (.incMem w m) :=
  of_mem 1 rfl (by decide)

theorem EncodingLength.incReg16 (r : Reg) : EncodingLength.Statement (.incReg16 r) :=
  of_length (n := 1) rfl (by decide)

theorem EncodingLength.decReg8 (r : Reg) : EncodingLength.Statement (.decReg8 r) :=
  of_length (n := 2) rfl (by decide)

theorem EncodingLength.decMem (w : Width) (m : MemOp) : EncodingLength.Statement (.decMem w m) :=
  of_mem 1 rfl (by decide)

theorem EncodingLength.decReg16 (r : Reg) : EncodingLength.Statement (.decReg16 r) :=
  of_length (n := 1) rfl (by decide)

theorem EncodingLength.muluReg8 (r : Reg) : EncodingLength.Statement (.muluReg8 r) :=
  of_length (n := 2) rfl (by decide)

theorem EncodingLength.muluMem8 (m : MemOp) : EncodingLength.Statement (.muluMem8 m) :=
  of_mem 1 rfl (by decide)

theorem EncodingLength.muluReg16 (r : Reg) : EncodingLength.Statement (.muluReg16 r) :=
  of_length (n := 2) rfl (by decide)

theorem EncodingLength.muluMem16 (m : MemOp) : EncodingLength.Statement (.muluMem16 m) :=
  of_mem 1 rfl (by decide)

theorem EncodingLength.mulReg8 (r : Reg) : EncodingLength.Statement (.mulReg8 r) :=
  of_length (n := 2) rfl (by decide)

theorem EncodingLength.mulMem8 (m : MemOp) : EncodingLength.Statement (.mulMem8 m) :=
  of_mem 1 rfl (by decide)

theorem EncodingLength.mulReg16 (r : Reg) : EncodingLength.Statement (.mulReg16 r) :=
  of_length (n := 2) rfl (by decide)

theorem EncodingLength.mulMem16 (m : MemOp) : EncodingLength.Statement (.mulMem16 m) :=
  of_mem 1 rfl (by decide)

theorem EncodingLength.mulReg16Reg16Imm8 (d : Reg) (q : Reg) (imm : Byte) : EncodingLength.Statement (.mulReg16Reg16Imm8 d q imm) :=
  of_length (n := 3) rfl (by decide)

theorem EncodingLength.mulReg16Mem16Imm8 (d : Reg) (m : MemOp) (imm : Byte) : EncodingLength.Statement (.mulReg16Mem16Imm8 d m imm) :=
  of_memTail (first := [0x6B]) 1 1 rfl rfl (Nat.le_refl 1) (by decide)

theorem EncodingLength.mulReg16Reg16Imm16 (d : Reg) (q : Reg) (imm : Word) : EncodingLength.Statement (.mulReg16Reg16Imm16 d q imm) :=
  of_length (n := 4) rfl (by decide)

theorem EncodingLength.mulReg16Mem16Imm16 (d : Reg) (m : MemOp) (imm : Word) : EncodingLength.Statement (.mulReg16Mem16Imm16 d m imm) :=
  of_memTail (first := [0x69]) 1 2 rfl rfl (Nat.le_refl 2) (by decide)

theorem EncodingLength.divuReg8 (r : Reg) : EncodingLength.Statement (.divuReg8 r) :=
  of_length (n := 2) rfl (by decide)

theorem EncodingLength.divuMem8 (m : MemOp) : EncodingLength.Statement (.divuMem8 m) :=
  of_mem 1 rfl (by decide)

theorem EncodingLength.divuReg16 (r : Reg) : EncodingLength.Statement (.divuReg16 r) :=
  of_length (n := 2) rfl (by decide)

theorem EncodingLength.divuMem16 (m : MemOp) : EncodingLength.Statement (.divuMem16 m) :=
  of_mem 1 rfl (by decide)

theorem EncodingLength.divReg8 (r : Reg) : EncodingLength.Statement (.divReg8 r) :=
  of_length (n := 2) rfl (by decide)

theorem EncodingLength.divMem8 (m : MemOp) : EncodingLength.Statement (.divMem8 m) :=
  of_mem 1 rfl (by decide)

theorem EncodingLength.divReg16 (r : Reg) : EncodingLength.Statement (.divReg16 r) :=
  of_length (n := 2) rfl (by decide)

theorem EncodingLength.divMem16 (m : MemOp) : EncodingLength.Statement (.divMem16 m) :=
  of_mem 1 rfl (by decide)

theorem EncodingLength.adjba : EncodingLength.Statement .adjba :=
  of_length (n := 1) rfl (by decide)

theorem EncodingLength.adj4a : EncodingLength.Statement .adj4a :=
  of_length (n := 1) rfl (by decide)

theorem EncodingLength.adjbs : EncodingLength.Statement .adjbs :=
  of_length (n := 1) rfl (by decide)

theorem EncodingLength.adj4s : EncodingLength.Statement .adj4s :=
  of_length (n := 1) rfl (by decide)

theorem EncodingLength.cvtbd : EncodingLength.Statement .cvtbd :=
  of_length (n := 2) rfl (by decide)

theorem EncodingLength.cvtdb : EncodingLength.Statement .cvtdb :=
  of_length (n := 2) rfl (by decide)

theorem EncodingLength.cvtbw : EncodingLength.Statement .cvtbw :=
  of_length (n := 1) rfl (by decide)

theorem EncodingLength.cvtwl : EncodingLength.Statement .cvtwl :=
  of_length (n := 1) rfl (by decide)

theorem EncodingLength.cmpRegReg (w : Width) (d : Reg) (q : Reg) : EncodingLength.Statement (.cmpRegReg w d q) :=
  of_length (n := 2) rfl (by decide)

theorem EncodingLength.cmpMemReg (w : Width) (m : MemOp) (r : Reg) : EncodingLength.Statement (.cmpMemReg w m r) :=
  of_mem 1 rfl (by decide)

theorem EncodingLength.cmpRegMem (w : Width) (r : Reg) (m : MemOp) : EncodingLength.Statement (.cmpRegMem w r m) :=
  of_mem 1 rfl (by decide)

theorem EncodingLength.cmpRegImm (f : ImmSize) (r : Reg) (imm : Word) : EncodingLength.Statement (.cmpRegImm f r imm) :=
  of_tail 2 2 rfl (ImmSize.encode_length _ _).2 (by decide)

theorem EncodingLength.cmpMemImm (f : ImmSize) (m : MemOp) (imm : Word) : EncodingLength.Statement (.cmpMemImm f m imm) :=
  of_memTail (first := [f.opcode]) 1 2 rfl rfl (ImmSize.encode_length _ _).2 (by decide)

theorem EncodingLength.cmpAccImm (w : Width) (imm : Word) : EncodingLength.Statement (.cmpAccImm w imm) :=
  of_tail 1 2 rfl (encodeImm_length _ _).2 (by decide)

theorem EncodingLength.notReg (w : Width) (r : Reg) : EncodingLength.Statement (.notReg w r) :=
  of_length (n := 2) rfl (by decide)

theorem EncodingLength.notMem (w : Width) (m : MemOp) : EncodingLength.Statement (.notMem w m) :=
  of_mem 1 rfl (by decide)

theorem EncodingLength.negReg (w : Width) (r : Reg) : EncodingLength.Statement (.negReg w r) :=
  of_length (n := 2) rfl (by decide)

theorem EncodingLength.negMem (w : Width) (m : MemOp) : EncodingLength.Statement (.negMem w m) :=
  of_mem 1 rfl (by decide)

theorem EncodingLength.testRegReg (w : Width) (d : Reg) (q : Reg) : EncodingLength.Statement (.testRegReg w d q) :=
  of_length (n := 2) rfl (by decide)

theorem EncodingLength.testMemReg (w : Width) (m : MemOp) (r : Reg) : EncodingLength.Statement (.testMemReg w m r) :=
  of_mem 1 rfl (by decide)

theorem EncodingLength.testRegImm (w : Width) (r : Reg) (imm : Word) : EncodingLength.Statement (.testRegImm w r imm) :=
  of_tail 2 2 rfl (encodeImm_length _ _).2 (by decide)

theorem EncodingLength.testMemImm (w : Width) (m : MemOp) (imm : Word) : EncodingLength.Statement (.testMemImm w m imm) :=
  of_memTail (first := [withW 0xF6 w]) 1 2 rfl rfl (encodeImm_length _ _).2 (by decide)

theorem EncodingLength.testAccImm (w : Width) (imm : Word) : EncodingLength.Statement (.testAccImm w imm) :=
  of_tail 1 2 rfl (encodeImm_length _ _).2 (by decide)

theorem EncodingLength.andRegReg (w : Width) (d : Reg) (q : Reg) : EncodingLength.Statement (.andRegReg w d q) :=
  of_length (n := 2) rfl (by decide)

theorem EncodingLength.andMemReg (w : Width) (m : MemOp) (r : Reg) : EncodingLength.Statement (.andMemReg w m r) :=
  of_mem 1 rfl (by decide)

theorem EncodingLength.andRegMem (w : Width) (r : Reg) (m : MemOp) : EncodingLength.Statement (.andRegMem w r m) :=
  of_mem 1 rfl (by decide)

theorem EncodingLength.andRegImm (w : Width) (r : Reg) (imm : Word) : EncodingLength.Statement (.andRegImm w r imm) :=
  of_tail 2 2 rfl (encodeImm_length _ _).2 (by decide)

theorem EncodingLength.andMemImm (w : Width) (m : MemOp) (imm : Word) : EncodingLength.Statement (.andMemImm w m imm) :=
  of_memTail (first := [withW 0x80 w]) 1 2 rfl rfl (encodeImm_length _ _).2 (by decide)

theorem EncodingLength.andAccImm (w : Width) (imm : Word) : EncodingLength.Statement (.andAccImm w imm) :=
  of_tail 1 2 rfl (encodeImm_length _ _).2 (by decide)

theorem EncodingLength.orRegReg (w : Width) (d : Reg) (q : Reg) : EncodingLength.Statement (.orRegReg w d q) :=
  of_length (n := 2) rfl (by decide)

theorem EncodingLength.orMemReg (w : Width) (m : MemOp) (r : Reg) : EncodingLength.Statement (.orMemReg w m r) :=
  of_mem 1 rfl (by decide)

theorem EncodingLength.orRegMem (w : Width) (r : Reg) (m : MemOp) : EncodingLength.Statement (.orRegMem w r m) :=
  of_mem 1 rfl (by decide)

theorem EncodingLength.orRegImm (w : Width) (r : Reg) (imm : Word) : EncodingLength.Statement (.orRegImm w r imm) :=
  of_tail 2 2 rfl (encodeImm_length _ _).2 (by decide)

theorem EncodingLength.orMemImm (w : Width) (m : MemOp) (imm : Word) : EncodingLength.Statement (.orMemImm w m imm) :=
  of_memTail (first := [withW 0x80 w]) 1 2 rfl rfl (encodeImm_length _ _).2 (by decide)

theorem EncodingLength.orAccImm (w : Width) (imm : Word) : EncodingLength.Statement (.orAccImm w imm) :=
  of_tail 1 2 rfl (encodeImm_length _ _).2 (by decide)

theorem EncodingLength.xorRegReg (w : Width) (d : Reg) (q : Reg) : EncodingLength.Statement (.xorRegReg w d q) :=
  of_length (n := 2) rfl (by decide)

theorem EncodingLength.xorMemReg (w : Width) (m : MemOp) (r : Reg) : EncodingLength.Statement (.xorMemReg w m r) :=
  of_mem 1 rfl (by decide)

theorem EncodingLength.xorRegMem (w : Width) (r : Reg) (m : MemOp) : EncodingLength.Statement (.xorRegMem w r m) :=
  of_mem 1 rfl (by decide)

theorem EncodingLength.xorRegImm (w : Width) (r : Reg) (imm : Word) : EncodingLength.Statement (.xorRegImm w r imm) :=
  of_tail 2 2 rfl (encodeImm_length _ _).2 (by decide)

theorem EncodingLength.xorMemImm (w : Width) (m : MemOp) (imm : Word) : EncodingLength.Statement (.xorMemImm w m imm) :=
  of_memTail (first := [withW 0x80 w]) 1 2 rfl rfl (encodeImm_length _ _).2 (by decide)

theorem EncodingLength.xorAccImm (w : Width) (imm : Word) : EncodingLength.Statement (.xorAccImm w imm) :=
  of_tail 1 2 rfl (encodeImm_length _ _).2 (by decide)

theorem EncodingLength.test1Reg8Cl (r : Reg) : EncodingLength.Statement (.test1Reg8Cl r) :=
  of_length (n := 3) rfl (by decide)

theorem EncodingLength.test1Mem8Cl (m : MemOp) : EncodingLength.Statement (.test1Mem8Cl m) :=
  of_mem 2 rfl (by decide)

theorem EncodingLength.test1Reg16Cl (r : Reg) : EncodingLength.Statement (.test1Reg16Cl r) :=
  of_length (n := 3) rfl (by decide)

theorem EncodingLength.test1Mem16Cl (m : MemOp) : EncodingLength.Statement (.test1Mem16Cl m) :=
  of_mem 2 rfl (by decide)

theorem EncodingLength.test1Reg8Imm3 (r : Reg) (imm : Byte) : EncodingLength.Statement (.test1Reg8Imm3 r imm) :=
  of_length (n := 4) rfl (by decide)

theorem EncodingLength.test1Mem8Imm3 (m : MemOp) (imm : Byte) : EncodingLength.Statement (.test1Mem8Imm3 m imm) :=
  of_memTail (first := [0x0F, 0x18]) 2 1 rfl rfl (Nat.le_refl 1) (by decide)

theorem EncodingLength.test1Reg16Imm4 (r : Reg) (imm : Byte) : EncodingLength.Statement (.test1Reg16Imm4 r imm) :=
  of_length (n := 4) rfl (by decide)

theorem EncodingLength.test1Mem16Imm4 (m : MemOp) (imm : Byte) : EncodingLength.Statement (.test1Mem16Imm4 m imm) :=
  of_memTail (first := [0x0F, 0x19]) 2 1 rfl rfl (Nat.le_refl 1) (by decide)

theorem EncodingLength.not1Reg8Cl (r : Reg) : EncodingLength.Statement (.not1Reg8Cl r) :=
  of_length (n := 3) rfl (by decide)

theorem EncodingLength.not1Mem8Cl (m : MemOp) : EncodingLength.Statement (.not1Mem8Cl m) :=
  of_mem 2 rfl (by decide)

theorem EncodingLength.not1Reg16Cl (r : Reg) : EncodingLength.Statement (.not1Reg16Cl r) :=
  of_length (n := 3) rfl (by decide)

theorem EncodingLength.not1Mem16Cl (m : MemOp) : EncodingLength.Statement (.not1Mem16Cl m) :=
  of_mem 2 rfl (by decide)

theorem EncodingLength.not1Reg8Imm3 (r : Reg) (imm : Byte) : EncodingLength.Statement (.not1Reg8Imm3 r imm) :=
  of_length (n := 4) rfl (by decide)

theorem EncodingLength.not1Mem8Imm3 (m : MemOp) (imm : Byte) : EncodingLength.Statement (.not1Mem8Imm3 m imm) :=
  of_memTail (first := [0x0F, 0x1E]) 2 1 rfl rfl (Nat.le_refl 1) (by decide)

theorem EncodingLength.not1Reg16Imm4 (r : Reg) (imm : Byte) : EncodingLength.Statement (.not1Reg16Imm4 r imm) :=
  of_length (n := 4) rfl (by decide)

theorem EncodingLength.not1Mem16Imm4 (m : MemOp) (imm : Byte) : EncodingLength.Statement (.not1Mem16Imm4 m imm) :=
  of_memTail (first := [0x0F, 0x1F]) 2 1 rfl rfl (Nat.le_refl 1) (by decide)

theorem EncodingLength.clr1Reg8Cl (r : Reg) : EncodingLength.Statement (.clr1Reg8Cl r) :=
  of_length (n := 3) rfl (by decide)

theorem EncodingLength.clr1Mem8Cl (m : MemOp) : EncodingLength.Statement (.clr1Mem8Cl m) :=
  of_mem 2 rfl (by decide)

theorem EncodingLength.clr1Reg16Cl (r : Reg) : EncodingLength.Statement (.clr1Reg16Cl r) :=
  of_length (n := 3) rfl (by decide)

theorem EncodingLength.clr1Mem16Cl (m : MemOp) : EncodingLength.Statement (.clr1Mem16Cl m) :=
  of_mem 2 rfl (by decide)

theorem EncodingLength.clr1Reg8Imm3 (r : Reg) (imm : Byte) : EncodingLength.Statement (.clr1Reg8Imm3 r imm) :=
  of_length (n := 4) rfl (by decide)

theorem EncodingLength.clr1Mem8Imm3 (m : MemOp) (imm : Byte) : EncodingLength.Statement (.clr1Mem8Imm3 m imm) :=
  of_memTail (first := [0x0F, 0x1A]) 2 1 rfl rfl (Nat.le_refl 1) (by decide)

theorem EncodingLength.clr1Reg16Imm4 (r : Reg) (imm : Byte) : EncodingLength.Statement (.clr1Reg16Imm4 r imm) :=
  of_length (n := 4) rfl (by decide)

theorem EncodingLength.clr1Mem16Imm4 (m : MemOp) (imm : Byte) : EncodingLength.Statement (.clr1Mem16Imm4 m imm) :=
  of_memTail (first := [0x0F, 0x1B]) 2 1 rfl rfl (Nat.le_refl 1) (by decide)

theorem EncodingLength.set1Reg8Cl (r : Reg) : EncodingLength.Statement (.set1Reg8Cl r) :=
  of_length (n := 3) rfl (by decide)

theorem EncodingLength.set1Mem8Cl (m : MemOp) : EncodingLength.Statement (.set1Mem8Cl m) :=
  of_mem 2 rfl (by decide)

theorem EncodingLength.set1Reg16Cl (r : Reg) : EncodingLength.Statement (.set1Reg16Cl r) :=
  of_length (n := 3) rfl (by decide)

theorem EncodingLength.set1Mem16Cl (m : MemOp) : EncodingLength.Statement (.set1Mem16Cl m) :=
  of_mem 2 rfl (by decide)

theorem EncodingLength.set1Reg8Imm3 (r : Reg) (imm : Byte) : EncodingLength.Statement (.set1Reg8Imm3 r imm) :=
  of_length (n := 4) rfl (by decide)

theorem EncodingLength.set1Mem8Imm3 (m : MemOp) (imm : Byte) : EncodingLength.Statement (.set1Mem8Imm3 m imm) :=
  of_memTail (first := [0x0F, 0x1C]) 2 1 rfl rfl (Nat.le_refl 1) (by decide)

theorem EncodingLength.set1Reg16Imm4 (r : Reg) (imm : Byte) : EncodingLength.Statement (.set1Reg16Imm4 r imm) :=
  of_length (n := 4) rfl (by decide)

theorem EncodingLength.set1Mem16Imm4 (m : MemOp) (imm : Byte) : EncodingLength.Statement (.set1Mem16Imm4 m imm) :=
  of_memTail (first := [0x0F, 0x1D]) 2 1 rfl rfl (Nat.le_refl 1) (by decide)

theorem EncodingLength.not1Cy : EncodingLength.Statement .not1Cy :=
  of_length (n := 1) rfl (by decide)

theorem EncodingLength.clr1Cy : EncodingLength.Statement .clr1Cy :=
  of_length (n := 1) rfl (by decide)

theorem EncodingLength.set1Cy : EncodingLength.Statement .set1Cy :=
  of_length (n := 1) rfl (by decide)

theorem EncodingLength.clr1Dir : EncodingLength.Statement .clr1Dir :=
  of_length (n := 1) rfl (by decide)

theorem EncodingLength.set1Dir : EncodingLength.Statement .set1Dir :=
  of_length (n := 1) rfl (by decide)

theorem EncodingLength.shlReg1 (w : Width) (r : Reg) : EncodingLength.Statement (.shlReg1 w r) :=
  of_length (n := 2) rfl (by decide)

theorem EncodingLength.shlMem1 (w : Width) (m : MemOp) : EncodingLength.Statement (.shlMem1 w m) :=
  of_mem 1 rfl (by decide)

theorem EncodingLength.shlRegCl (w : Width) (r : Reg) : EncodingLength.Statement (.shlRegCl w r) :=
  of_length (n := 2) rfl (by decide)

theorem EncodingLength.shlMemCl (w : Width) (m : MemOp) : EncodingLength.Statement (.shlMemCl w m) :=
  of_mem 1 rfl (by decide)

theorem EncodingLength.shlRegImm8 (w : Width) (r : Reg) (imm : Byte) : EncodingLength.Statement (.shlRegImm8 w r imm) :=
  of_length (n := 3) rfl (by decide)

theorem EncodingLength.shlMemImm8 (w : Width) (m : MemOp) (imm : Byte) : EncodingLength.Statement (.shlMemImm8 w m imm) :=
  of_memTail (first := [withW 0xC0 w]) 1 1 rfl rfl (Nat.le_refl 1) (by decide)

theorem EncodingLength.shrReg1 (w : Width) (r : Reg) : EncodingLength.Statement (.shrReg1 w r) :=
  of_length (n := 2) rfl (by decide)

theorem EncodingLength.shrMem1 (w : Width) (m : MemOp) : EncodingLength.Statement (.shrMem1 w m) :=
  of_mem 1 rfl (by decide)

theorem EncodingLength.shrRegCl (w : Width) (r : Reg) : EncodingLength.Statement (.shrRegCl w r) :=
  of_length (n := 2) rfl (by decide)

theorem EncodingLength.shrMemCl (w : Width) (m : MemOp) : EncodingLength.Statement (.shrMemCl w m) :=
  of_mem 1 rfl (by decide)

theorem EncodingLength.shrRegImm8 (w : Width) (r : Reg) (imm : Byte) : EncodingLength.Statement (.shrRegImm8 w r imm) :=
  of_length (n := 3) rfl (by decide)

theorem EncodingLength.shrMemImm8 (w : Width) (m : MemOp) (imm : Byte) : EncodingLength.Statement (.shrMemImm8 w m imm) :=
  of_memTail (first := [withW 0xC0 w]) 1 1 rfl rfl (Nat.le_refl 1) (by decide)

theorem EncodingLength.shraReg1 (w : Width) (r : Reg) : EncodingLength.Statement (.shraReg1 w r) :=
  of_length (n := 2) rfl (by decide)

theorem EncodingLength.shraMem1 (w : Width) (m : MemOp) : EncodingLength.Statement (.shraMem1 w m) :=
  of_mem 1 rfl (by decide)

theorem EncodingLength.shraRegCl (w : Width) (r : Reg) : EncodingLength.Statement (.shraRegCl w r) :=
  of_length (n := 2) rfl (by decide)

theorem EncodingLength.shraMemCl (w : Width) (m : MemOp) : EncodingLength.Statement (.shraMemCl w m) :=
  of_mem 1 rfl (by decide)

theorem EncodingLength.shraRegImm8 (w : Width) (r : Reg) (imm : Byte) : EncodingLength.Statement (.shraRegImm8 w r imm) :=
  of_length (n := 3) rfl (by decide)

theorem EncodingLength.shraMemImm8 (w : Width) (m : MemOp) (imm : Byte) : EncodingLength.Statement (.shraMemImm8 w m imm) :=
  of_memTail (first := [withW 0xC0 w]) 1 1 rfl rfl (Nat.le_refl 1) (by decide)

theorem EncodingLength.rolReg1 (w : Width) (r : Reg) : EncodingLength.Statement (.rolReg1 w r) :=
  of_length (n := 2) rfl (by decide)

theorem EncodingLength.rolMem1 (w : Width) (m : MemOp) : EncodingLength.Statement (.rolMem1 w m) :=
  of_mem 1 rfl (by decide)

theorem EncodingLength.rolRegCl (w : Width) (r : Reg) : EncodingLength.Statement (.rolRegCl w r) :=
  of_length (n := 2) rfl (by decide)

theorem EncodingLength.rolMemCl (w : Width) (m : MemOp) : EncodingLength.Statement (.rolMemCl w m) :=
  of_mem 1 rfl (by decide)

theorem EncodingLength.rolRegImm8 (w : Width) (r : Reg) (imm : Byte) : EncodingLength.Statement (.rolRegImm8 w r imm) :=
  of_length (n := 3) rfl (by decide)

theorem EncodingLength.rolMemImm8 (w : Width) (m : MemOp) (imm : Byte) : EncodingLength.Statement (.rolMemImm8 w m imm) :=
  of_memTail (first := [withW 0xC0 w]) 1 1 rfl rfl (Nat.le_refl 1) (by decide)

theorem EncodingLength.rorReg1 (w : Width) (r : Reg) : EncodingLength.Statement (.rorReg1 w r) :=
  of_length (n := 2) rfl (by decide)

theorem EncodingLength.rorMem1 (w : Width) (m : MemOp) : EncodingLength.Statement (.rorMem1 w m) :=
  of_mem 1 rfl (by decide)

theorem EncodingLength.rorRegCl (w : Width) (r : Reg) : EncodingLength.Statement (.rorRegCl w r) :=
  of_length (n := 2) rfl (by decide)

theorem EncodingLength.rorMemCl (w : Width) (m : MemOp) : EncodingLength.Statement (.rorMemCl w m) :=
  of_mem 1 rfl (by decide)

theorem EncodingLength.rorRegImm8 (w : Width) (r : Reg) (imm : Byte) : EncodingLength.Statement (.rorRegImm8 w r imm) :=
  of_length (n := 3) rfl (by decide)

theorem EncodingLength.rorMemImm8 (w : Width) (m : MemOp) (imm : Byte) : EncodingLength.Statement (.rorMemImm8 w m imm) :=
  of_memTail (first := [withW 0xC0 w]) 1 1 rfl rfl (Nat.le_refl 1) (by decide)

theorem EncodingLength.rolcReg1 (w : Width) (r : Reg) : EncodingLength.Statement (.rolcReg1 w r) :=
  of_length (n := 2) rfl (by decide)

theorem EncodingLength.rolcMem1 (w : Width) (m : MemOp) : EncodingLength.Statement (.rolcMem1 w m) :=
  of_mem 1 rfl (by decide)

theorem EncodingLength.rolcRegCl (w : Width) (r : Reg) : EncodingLength.Statement (.rolcRegCl w r) :=
  of_length (n := 2) rfl (by decide)

theorem EncodingLength.rolcMemCl (w : Width) (m : MemOp) : EncodingLength.Statement (.rolcMemCl w m) :=
  of_mem 1 rfl (by decide)

theorem EncodingLength.rolcRegImm8 (w : Width) (r : Reg) (imm : Byte) : EncodingLength.Statement (.rolcRegImm8 w r imm) :=
  of_length (n := 3) rfl (by decide)

theorem EncodingLength.rolcMemImm8 (w : Width) (m : MemOp) (imm : Byte) : EncodingLength.Statement (.rolcMemImm8 w m imm) :=
  of_memTail (first := [withW 0xC0 w]) 1 1 rfl rfl (Nat.le_refl 1) (by decide)

theorem EncodingLength.rorcReg1 (w : Width) (r : Reg) : EncodingLength.Statement (.rorcReg1 w r) :=
  of_length (n := 2) rfl (by decide)

theorem EncodingLength.rorcMem1 (w : Width) (m : MemOp) : EncodingLength.Statement (.rorcMem1 w m) :=
  of_mem 1 rfl (by decide)

theorem EncodingLength.rorcRegCl (w : Width) (r : Reg) : EncodingLength.Statement (.rorcRegCl w r) :=
  of_length (n := 2) rfl (by decide)

theorem EncodingLength.rorcMemCl (w : Width) (m : MemOp) : EncodingLength.Statement (.rorcMemCl w m) :=
  of_mem 1 rfl (by decide)

theorem EncodingLength.rorcRegImm8 (w : Width) (r : Reg) (imm : Byte) : EncodingLength.Statement (.rorcRegImm8 w r imm) :=
  of_length (n := 3) rfl (by decide)

theorem EncodingLength.rorcMemImm8 (w : Width) (m : MemOp) (imm : Byte) : EncodingLength.Statement (.rorcMemImm8 w m imm) :=
  of_memTail (first := [withW 0xC0 w]) 1 1 rfl rfl (Nat.le_refl 1) (by decide)

theorem EncodingLength.callNear (disp : Word) : EncodingLength.Statement (.callNear disp) :=
  of_length (n := 3) rfl (by decide)

theorem EncodingLength.callRegptr16 (r : Reg) : EncodingLength.Statement (.callRegptr16 r) :=
  of_length (n := 2) rfl (by decide)

theorem EncodingLength.callMemptr16 (m : MemOp) : EncodingLength.Statement (.callMemptr16 m) :=
  of_mem 1 rfl (by decide)

theorem EncodingLength.callFar (off : Word) (seg : Word) : EncodingLength.Statement (.callFar off seg) :=
  of_length (n := 5) rfl (by decide)

theorem EncodingLength.callMemptr32 (m : MemOp) : EncodingLength.Statement (.callMemptr32 m) :=
  of_mem 1 rfl (by decide)

theorem EncodingLength.retNear : EncodingLength.Statement .retNear :=
  of_length (n := 1) rfl (by decide)

theorem EncodingLength.retNearPop (n : Word) : EncodingLength.Statement (.retNearPop n) :=
  of_length (n := 3) rfl (by decide)

theorem EncodingLength.retFar : EncodingLength.Statement .retFar :=
  of_length (n := 1) rfl (by decide)

theorem EncodingLength.retFarPop (n : Word) : EncodingLength.Statement (.retFarPop n) :=
  of_length (n := 3) rfl (by decide)

theorem EncodingLength.pushMem16 (m : MemOp) : EncodingLength.Statement (.pushMem16 m) :=
  of_mem 1 rfl (by decide)

theorem EncodingLength.pushReg16 (r : Reg) : EncodingLength.Statement (.pushReg16 r) :=
  of_length (n := 1) rfl (by decide)

theorem EncodingLength.pushSreg (g : SReg) : EncodingLength.Statement (.pushSreg g) :=
  of_length (n := 1) rfl (by decide)

theorem EncodingLength.pushR : EncodingLength.Statement .pushR :=
  of_length (n := 1) rfl (by decide)

theorem EncodingLength.pushImm8 (imm : Byte) : EncodingLength.Statement (.pushImm8 imm) :=
  of_length (n := 2) rfl (by decide)

theorem EncodingLength.pushImm16 (imm : Word) : EncodingLength.Statement (.pushImm16 imm) :=
  of_length (n := 3) rfl (by decide)

theorem EncodingLength.pushPsw : EncodingLength.Statement .pushPsw :=
  of_length (n := 1) rfl (by decide)

theorem EncodingLength.popMem16 (m : MemOp) : EncodingLength.Statement (.popMem16 m) :=
  of_mem 1 rfl (by decide)

theorem EncodingLength.popReg16 (r : Reg) : EncodingLength.Statement (.popReg16 r) :=
  of_length (n := 1) rfl (by decide)

theorem EncodingLength.popSreg (g : SReg) : EncodingLength.Statement (.popSreg g) :=
  of_length (n := 1) rfl (by decide)

theorem EncodingLength.popR : EncodingLength.Statement .popR :=
  of_length (n := 1) rfl (by decide)

theorem EncodingLength.popPsw : EncodingLength.Statement .popPsw :=
  of_length (n := 1) rfl (by decide)

theorem EncodingLength.prepare (size : Word) (depth : Byte) : EncodingLength.Statement (.prepare size depth) :=
  of_length (n := 4) rfl (by decide)

theorem EncodingLength.dispose : EncodingLength.Statement .dispose :=
  of_length (n := 1) rfl (by decide)

theorem EncodingLength.brNear (disp : Word) : EncodingLength.Statement (.brNear disp) :=
  of_length (n := 3) rfl (by decide)

theorem EncodingLength.brShort (disp : Byte) : EncodingLength.Statement (.brShort disp) :=
  of_length (n := 2) rfl (by decide)

theorem EncodingLength.brRegptr16 (r : Reg) : EncodingLength.Statement (.brRegptr16 r) :=
  of_length (n := 2) rfl (by decide)

theorem EncodingLength.brMemptr16 (m : MemOp) : EncodingLength.Statement (.brMemptr16 m) :=
  of_mem 1 rfl (by decide)

theorem EncodingLength.brFar (off : Word) (seg : Word) : EncodingLength.Statement (.brFar off seg) :=
  of_length (n := 5) rfl (by decide)

theorem EncodingLength.brMemptr32 (m : MemOp) : EncodingLength.Statement (.brMemptr32 m) :=
  of_mem 1 rfl (by decide)

theorem EncodingLength.bv (disp : Byte) : EncodingLength.Statement (.bv disp) :=
  of_length (n := 2) rfl (by decide)

theorem EncodingLength.bnv (disp : Byte) : EncodingLength.Statement (.bnv disp) :=
  of_length (n := 2) rfl (by decide)

theorem EncodingLength.bc (disp : Byte) : EncodingLength.Statement (.bc disp) :=
  of_length (n := 2) rfl (by decide)

theorem EncodingLength.bnc (disp : Byte) : EncodingLength.Statement (.bnc disp) :=
  of_length (n := 2) rfl (by decide)

theorem EncodingLength.be (disp : Byte) : EncodingLength.Statement (.be disp) :=
  of_length (n := 2) rfl (by decide)

theorem EncodingLength.bne (disp : Byte) : EncodingLength.Statement (.bne disp) :=
  of_length (n := 2) rfl (by decide)

theorem EncodingLength.bnh (disp : Byte) : EncodingLength.Statement (.bnh disp) :=
  of_length (n := 2) rfl (by decide)

theorem EncodingLength.bh (disp : Byte) : EncodingLength.Statement (.bh disp) :=
  of_length (n := 2) rfl (by decide)

theorem EncodingLength.bpe (disp : Byte) : EncodingLength.Statement (.bpe disp) :=
  of_length (n := 2) rfl (by decide)

theorem EncodingLength.bpo (disp : Byte) : EncodingLength.Statement (.bpo disp) :=
  of_length (n := 2) rfl (by decide)

theorem EncodingLength.bn (disp : Byte) : EncodingLength.Statement (.bn disp) :=
  of_length (n := 2) rfl (by decide)

theorem EncodingLength.bp (disp : Byte) : EncodingLength.Statement (.bp disp) :=
  of_length (n := 2) rfl (by decide)

theorem EncodingLength.blt (disp : Byte) : EncodingLength.Statement (.blt disp) :=
  of_length (n := 2) rfl (by decide)

theorem EncodingLength.bge (disp : Byte) : EncodingLength.Statement (.bge disp) :=
  of_length (n := 2) rfl (by decide)

theorem EncodingLength.ble (disp : Byte) : EncodingLength.Statement (.ble disp) :=
  of_length (n := 2) rfl (by decide)

theorem EncodingLength.bgt (disp : Byte) : EncodingLength.Statement (.bgt disp) :=
  of_length (n := 2) rfl (by decide)

theorem EncodingLength.dbnzne (disp : Byte) : EncodingLength.Statement (.dbnzne disp) :=
  of_length (n := 2) rfl (by decide)

theorem EncodingLength.dbnze (disp : Byte) : EncodingLength.Statement (.dbnze disp) :=
  of_length (n := 2) rfl (by decide)

theorem EncodingLength.dbnz (disp : Byte) : EncodingLength.Statement (.dbnz disp) :=
  of_length (n := 2) rfl (by decide)

theorem EncodingLength.bcwz (disp : Byte) : EncodingLength.Statement (.bcwz disp) :=
  of_length (n := 2) rfl (by decide)

theorem EncodingLength.brk3 : EncodingLength.Statement .brk3 :=
  of_length (n := 1) rfl (by decide)

theorem EncodingLength.brkImm8 (imm : Byte) : EncodingLength.Statement (.brkImm8 imm) :=
  of_length (n := 2) rfl (by decide)

theorem EncodingLength.brkv : EncodingLength.Statement .brkv :=
  of_length (n := 1) rfl (by decide)

theorem EncodingLength.reti : EncodingLength.Statement .reti :=
  of_length (n := 1) rfl (by decide)

theorem EncodingLength.chkind (r : Reg) (m : MemOp) : EncodingLength.Statement (.chkind r m) :=
  of_mem 1 rfl (by decide)

theorem EncodingLength.halt : EncodingLength.Statement .halt :=
  of_length (n := 1) rfl (by decide)

theorem EncodingLength.poll : EncodingLength.Statement .poll :=
  of_length (n := 1) rfl (by decide)

theorem EncodingLength.di : EncodingLength.Statement .di :=
  of_length (n := 1) rfl (by decide)

theorem EncodingLength.ei : EncodingLength.Statement .ei :=
  of_length (n := 1) rfl (by decide)

theorem EncodingLength.buslock : EncodingLength.Statement .buslock :=
  of_length (n := 1) rfl (by decide)

theorem EncodingLength.fpo1 (x : BitVec 3) (y : BitVec 3) (z : BitVec 3) : EncodingLength.Statement (.fpo1 x y z) :=
  of_length (n := 2) rfl (by decide)

theorem EncodingLength.fpo1Mem (x : BitVec 3) (y : BitVec 3) (m : MemOp) : EncodingLength.Statement (.fpo1Mem x y m) :=
  of_mem 1 rfl (by decide)

theorem EncodingLength.fpo2 (x : BitVec 1) (y : BitVec 3) (z : BitVec 3) : EncodingLength.Statement (.fpo2 x y z) :=
  of_length (n := 2) rfl (by decide)

theorem EncodingLength.fpo2Mem (x : BitVec 1) (y : BitVec 3) (m : MemOp) : EncodingLength.Statement (.fpo2Mem x y m) :=
  of_mem 1 rfl (by decide)

theorem EncodingLength.nop : EncodingLength.Statement .nop :=
  of_length (n := 1) rfl (by decide)

theorem EncodingLength.ds1Prefix : EncodingLength.Statement .ds1Prefix :=
  of_length (n := 1) rfl (by decide)

theorem EncodingLength.psPrefix : EncodingLength.Statement .psPrefix :=
  of_length (n := 1) rfl (by decide)

theorem EncodingLength.ssPrefix : EncodingLength.Statement .ssPrefix :=
  of_length (n := 1) rfl (by decide)

theorem EncodingLength.ds0Prefix : EncodingLength.Statement .ds0Prefix :=
  of_length (n := 1) rfl (by decide)

theorem EncodingLength.brkem (imm : Byte) : EncodingLength.Statement (.brkem imm) :=
  of_length (n := 3) rfl (by decide)

theorem EncodingLength.retem : EncodingLength.Statement .retem :=
  of_length (n := 2) rfl (by decide)

theorem EncodingLength.calln (imm : Byte) : EncodingLength.Statement (.calln imm) :=
  of_length (n := 3) rfl (by decide)

theorem EncodingLength.addRegRegD0 (w : Width) (d : Reg) (q : Reg) : EncodingLength.Statement (.addRegRegD0 w d q) :=
  of_length (n := 2) rfl (by decide)

theorem EncodingLength.orRegRegD0 (w : Width) (d : Reg) (q : Reg) : EncodingLength.Statement (.orRegRegD0 w d q) :=
  of_length (n := 2) rfl (by decide)

theorem EncodingLength.addcRegRegD0 (w : Width) (d : Reg) (q : Reg) : EncodingLength.Statement (.addcRegRegD0 w d q) :=
  of_length (n := 2) rfl (by decide)

theorem EncodingLength.subcRegRegD0 (w : Width) (d : Reg) (q : Reg) : EncodingLength.Statement (.subcRegRegD0 w d q) :=
  of_length (n := 2) rfl (by decide)

theorem EncodingLength.andRegRegD0 (w : Width) (d : Reg) (q : Reg) : EncodingLength.Statement (.andRegRegD0 w d q) :=
  of_length (n := 2) rfl (by decide)

theorem EncodingLength.subRegRegD0 (w : Width) (d : Reg) (q : Reg) : EncodingLength.Statement (.subRegRegD0 w d q) :=
  of_length (n := 2) rfl (by decide)

theorem EncodingLength.xorRegRegD0 (w : Width) (d : Reg) (q : Reg) : EncodingLength.Statement (.xorRegRegD0 w d q) :=
  of_length (n := 2) rfl (by decide)

theorem EncodingLength.cmpRegRegD0 (w : Width) (d : Reg) (q : Reg) : EncodingLength.Statement (.cmpRegRegD0 w d q) :=
  of_length (n := 2) rfl (by decide)

theorem EncodingLength.movRegRegD0 (w : Width) (d : Reg) (q : Reg) : EncodingLength.Statement (.movRegRegD0 w d q) :=
  of_length (n := 2) rfl (by decide)

theorem EncodingLength.incReg16Two (r : Reg) : EncodingLength.Statement (.incReg16Two r) :=
  of_length (n := 2) rfl (by decide)

theorem EncodingLength.decReg16Two (r : Reg) : EncodingLength.Statement (.decReg16Two r) :=
  of_length (n := 2) rfl (by decide)

theorem EncodingLength.pushReg16Two (r : Reg) : EncodingLength.Statement (.pushReg16Two r) :=
  of_length (n := 2) rfl (by decide)

theorem EncodingLength.popReg16Two (r : Reg) : EncodingLength.Statement (.popReg16Two r) :=
  of_length (n := 2) rfl (by decide)

theorem EncodingLength.movRegImmC6 (w : Width) (r : Reg) (imm : Word) : EncodingLength.Statement (.movRegImmC6 w r imm) :=
  of_tail 2 2 rfl (encodeImm_length _ _).2 (by decide)

end Laws

end Sys2Proof
end

