-- ==== Sys2Proof/Laws/Step.lean ====
section
/-! SUPPORT. What a step can do, said once: its four ways to a next state, and what the parts of a step leave. -/

namespace Sys2Proof.Machine

/-- A step that answers a next state is a RESET, a sample in standby, one more pass of the instruction in progress, or the
instruction at PC. -/
theorem step_cases {s t : State} (h : step s = .next t) :
    (s.resetRequested = true ∧ t = s.resetStep (runStep s)) ∨
    (s.resetRequested = false ∧ s.sample.standby = true ∧ t = s.sample.standbyStep.nextDraw) ∨
    (s.resetRequested = false ∧ s.sample.standby = false ∧ ∃ i u, s.sample.inProgress = some i ∧
      exec i { s.sample with inProgress := none } = .next u ∧ t = (u.finish i).nextDraw) ∨
    (s.resetRequested = false ∧ s.sample.standby = false ∧ s.sample.inProgress = none ∧ ∃ i n u,
      s.sample.fetched = .ok (i, n) ∧ repeatAllowed s.sample.prefixes.rep i = true ∧
      exec i (s.sample.advance n) = .next u ∧ t = (u.finish i).nextDraw) := by
  have done : ∀ {i : Instr} {o : Host.Outcome State Fault Refusal}, finishStep i o = .next t →
      ∃ u, o = .next u ∧ t = (u.finish i).nextDraw := by
    intro i o ho
    cases o with
    | next u => exact ⟨u, rfl, (Host.Outcome.next.inj ho).symm⟩
    | fault f => cases ho
    | refused r => cases ho
  unfold step at h
  split at h
  · rename_i hr
    exact .inl ⟨hr, (Host.Outcome.next.inj h).symm⟩
  · rename_i hr
    unfold runStep at h
    split at h
    · rename_i hs
      exact .inr (.inl ⟨by simpa using hr, hs, (Host.Outcome.next.inj h).symm⟩)
    · rename_i hs
      split at h
      · rename_i i hi
        obtain ⟨u, h1, h2⟩ := done h
        exact .inr (.inr (.inl ⟨by simpa using hr, by simpa using hs, i, u, hi, h1, h2⟩))
      · rename_i hi
        unfold fetchStep at h
        split at h
        · cases h
        · rename_i i n hf
          split at h
          · rename_i ha
            obtain ⟨u, h1, h2⟩ := done h
            exact .inr (.inr (.inr ⟨by simpa using hr, by simpa using hs, hi, i, n, u, hf, ha, h1, h2⟩))
          · cases h

/-- With no input the sample changes nothing. -/
@[simp] theorem State.sample_nil {s : State} (h : s.inputs = []) : s.sample = s := by
  unfold State.sample
  rw [h]

/-- A sample changes the inputs, the pins and the NMI latch only. -/
theorem State.sample_eq (s : State) :
    s.sample = { s with inputs := s.sample.inputs, pins := s.sample.pins, nmiLatch := s.sample.nmiLatch } := by
  unfold State.sample
  cases s.inputs <;> rfl

/-- With no input RESET stays as it is. -/
@[simp] theorem State.resetRequested_nil {s : State} (h : s.inputs = []) : s.resetRequested = s.pins.resetHigh := by
  unfold State.resetRequested
  rw [State.sample_nil h]

/-- RESET held: only the levels, the inputs still to come and the free-value counter change, and an NMI edge is lost. -/
theorem State.resetStep_held {s : State} (o : Host.Outcome State Fault Refusal) (h : s.pins.resetHigh = true) :
    s.resetStep o = { s.sample with nmiLatch := false, draws := s.draws + 1 } := by
  unfold State.resetStep
  rw [if_pos h, State.nextDraw, State.sample_eq]

/-- RESET has become high: the reset of the state that the cut step leaves, with the next free values. -/
theorem State.resetStep_rises {s : State} (o : Host.Outcome State Fault Refusal) (h : s.pins.resetHigh = false) :
    s.resetStep o = (s.cutShort o).sample.nextDraw.resetEvent.nextDraw := by
  unfold State.resetStep
  rw [if_neg (by simp [h])]

/-- A reset leaves what the spec says it leaves. -/
theorem State.resetEvent_atReset (s : State) : s.resetEvent.AtReset :=
  ⟨⟨rfl, rfl, rfl, rfl⟩, ⟨rfl, rfl⟩, ⟨rfl, rfl, rfl, rfl⟩, ⟨rfl, rfl⟩, ⟨rfl, rfl, rfl, rfl⟩, rfl, rfl, rfl, rfl⟩

/-- A step cut short changes memory and the two records only. -/
theorem State.cutShort_eq (s : State) (o : Host.Outcome State Fault Refusal) :
    s.cutShort o =
      { s with mem := (s.cutShort o).mem, bus := (s.cutShort o).bus, fetchLog := (s.cutShort o).fetchLog } := by
  unfold State.cutShort
  split <;> rfl

/-- A prefetch changes the queue, the prefetch pointer and the record of the prefetcher only. -/
theorem State.prefetch_eq (s : State) :
    s.prefetch = { s with queue := s.prefetch.queue, pfp := s.prefetch.pfp, fetchLog := s.prefetch.fetchLog } := by
  unfold State.prefetch
  split <;> rfl

/-- What a prefetch adds to the queue: nothing where there is no room, else the bytes after those it holds. -/
theorem State.prefetch_queue (s : State) :
    s.prefetch.queue =
      s.queue ++ (if s.queue.length + s.chip.prefetchUnit ≤ s.chip.queueBytes then
        (List.range s.prefetchBytes).map s.prefetchedByte else []) := by
  unfold State.prefetch
  split <;> simp

/-- A prefetch reads at least a byte, and no more bytes than it needs room for. -/
theorem State.prefetchBytes_le (s : State) : 1 ≤ s.prefetchBytes ∧ s.prefetchBytes ≤ s.chip.prefetchUnit := by
  unfold State.prefetchBytes Chip.prefetchUnit
  cases s.chip
  · exact ⟨Nat.le_refl 1, Nat.le_refl 1⟩
  · dsimp only
    split <;> omega

/-- The prefetch pointer stays behind the bytes in the queue. -/
theorem State.prefetch_pfp {s : State} (h : s.pfp = s.pc + BitVec.ofNat 16 s.queue.length) :
    s.prefetch.pfp = s.prefetch.pc + BitVec.ofNat 16 s.prefetch.queue.length := by
  unfold State.prefetch
  split
  · simp only [h, List.length_append, List.length_map, List.length_range, BitVec.ofNat_add]
    rw [BitVec.add_assoc]
  · exact h

/-- The queue stays within its size. -/
theorem State.prefetch_length {s : State} (h : s.queue.length ≤ s.chip.queueBytes) :
    s.prefetch.queue.length ≤ s.prefetch.chip.queueBytes := by
  have hu := (State.prefetchBytes_le s).2
  unfold State.prefetch
  split
  · simp only [List.length_append, List.length_map, List.length_range]
    omega
  · exact h

/-- Prefetches one after another. -/
theorem State.prefetchTimes_eq (s : State) (n : Nat) :
    s.prefetchTimes n =
      { s with
        queue := (s.prefetchTimes n).queue
        pfp := (s.prefetchTimes n).pfp
        fetchLog := (s.prefetchTimes n).fetchLog } := by
  induction n generalizing s with
  | zero => rfl
  | succ n ih =>
    have h := ih s.prefetch
    rw [State.prefetchTimes]
    rw [h, State.prefetch_eq s]

/-- What holds of the queue and its pointer after a prefetch holds after any number of them. -/
theorem State.prefetchTimes_queue {s : State} (n : Nat) (h : s.pfp = s.pc + BitVec.ofNat 16 s.queue.length)
    (hq : s.queue.length ≤ s.chip.queueBytes) :
    (s.prefetchTimes n).pfp = (s.prefetchTimes n).pc + BitVec.ofNat 16 (s.prefetchTimes n).queue.length ∧
      (s.prefetchTimes n).queue.length ≤ (s.prefetchTimes n).chip.queueBytes := by
  induction n generalizing s with
  | zero => exact ⟨h, hq⟩
  | succ n ih => exact ih (State.prefetch_pfp h) (State.prefetch_length hq)

/-- With a byte in the queue nothing is waited for; without one, one prefetch. -/
theorem State.withByte_cases (s : State) :
    (s.queue ≠ [] ∧ s.withByte = s) ∨ (s.queue = [] ∧ s.withByte = s.prefetch) := by
  unfold State.withByte
  cases h : s.queue with
  | nil => exact .inr ⟨rfl, rfl⟩
  | cons b q => exact .inl ⟨by simp, rfl⟩

/-- An empty queue always has room, so a byte is found. -/
theorem State.withByte_ne (s : State) : s.withByte.queue ≠ [] := by
  rcases State.withByte_cases s with ⟨h, e⟩ | ⟨h, e⟩
  · rw [e]; exact h
  · rw [e, State.prefetch_queue, h]
    have hp : s.prefetchBytes ≠ 0 := Nat.ne_of_gt (State.prefetchBytes_le s).1
    have hu : s.chip.prefetchUnit ≤ s.chip.queueBytes := by cases s.chip <;> decide
    simp [hu, hp]

/-- A byte taken: the prefetch pointer stays behind the queue, and the queue within its size. -/
theorem State.takeByte_queue {s : State} (a : QueueAction) (h : s.pfp = s.pc + BitVec.ofNat 16 s.queue.length)
    (hq : s.queue.length ≤ s.chip.queueBytes) :
    (s.takeByte a).pfp = (s.takeByte a).pc + BitVec.ofNat 16 (s.takeByte a).queue.length ∧
      (s.takeByte a).queue.length ≤ (s.takeByte a).chip.queueBytes := by
  have key : s.withByte.pfp = s.withByte.pc + BitVec.ofNat 16 s.withByte.queue.length ∧
      s.withByte.queue.length ≤ s.withByte.chip.queueBytes := by
    rcases State.withByte_cases s with ⟨_, e⟩ | ⟨_, e⟩
    · rw [e]; exact ⟨h, hq⟩
    · rw [e]; exact ⟨State.prefetch_pfp h, State.prefetch_length hq⟩
  have hne := State.withByte_ne s
  unfold State.takeByte
  obtain ⟨k1, k2⟩ := key
  cases hw : s.withByte.queue with
  | nil => exact absurd hw hne
  | cons b q =>
    rw [hw] at k1 k2
    simp only [List.length_cons] at k1 k2
    simp only [hw, List.tail_cons]
    refine ⟨?_, by omega⟩
    rw [k1, BitVec.ofNat_add, BitVec.add_assoc, BitVec.add_comm (BitVec.ofNat 16 q.length)]
    rfl

/-- Bytes taken one after another: PC past them, and the queue as `takeByte_queue` says. -/
theorem State.takeBytes_queue {s : State} (a : QueueAction) (n : Nat)
    (h : s.pfp = s.pc + BitVec.ofNat 16 s.queue.length) (hq : s.queue.length ≤ s.chip.queueBytes) :
    (s.takeBytes a n).pfp = (s.takeBytes a n).pc + BitVec.ofNat 16 (s.takeBytes a n).queue.length ∧
      (s.takeBytes a n).queue.length ≤ (s.takeBytes a n).chip.queueBytes := by
  induction n generalizing s a with
  | zero => exact ⟨h, hq⟩
  | succ n ih => exact ih .subsequentByte (State.takeByte_queue a h hq).1 (State.takeByte_queue a h hq).2

/-- Bytes taken change PC, the queue, the prefetch pointer, the bytes seen and the record of the prefetcher only. -/
theorem State.takeBytes_eq (s : State) (a : QueueAction) (n : Nat) :
    s.takeBytes a n =
      { s with
        pc := s.pc + BitVec.ofNat 16 n
        queue := (s.takeBytes a n).queue
        pfp := (s.takeBytes a n).pfp
        seen := s.seen.drop n
        fetchLog := (s.takeBytes a n).fetchLog } := by
  induction n generalizing s a with
  | zero => simp [State.takeBytes]
  | succ n ih =>
    have e2 : s.pc + 1 + BitVec.ofNat 16 n = s.pc + BitVec.ofNat 16 (n + 1) := by
      rw [BitVec.ofNat_add, BitVec.add_assoc, BitVec.add_comm (BitVec.ofNat 16 n)]
      rfl
    have h := ih (s.takeByte a) .subsequentByte
    rw [State.takeByte_pc, e2, State.takeByte_seen, List.drop_tail] at h
    rw [State.takeBytes, h]
    simp

/-- The advance past an instruction: PC past its bytes; the queue, the prefetch pointer, the bytes seen and the record of
the prefetcher; the armed step; nothing else. -/
theorem State.advance_eq (s : State) (n : Nat) :
    s.advance n =
      { s with
        pc := s.pc + BitVec.ofNat 16 n
        queue := (s.advance n).queue
        pfp := (s.advance n).pfp
        seen := (s.advance n).seen
        fetchLog := (s.advance n).fetchLog
        stepArmed := s.psw.brk } := by
  unfold State.advance
  dsimp only
  generalize State.prefetchTimes _ _ = u
  rw [State.takeBytes_eq s s.firstAction n]

/-- The queue after the advance, and how many bytes are remembered. -/
theorem State.advance_queue {s : State} (n : Nat) (h : s.pfp = s.pc + BitVec.ofNat 16 s.queue.length)
    (hq : s.queue.length ≤ s.chip.queueBytes) :
    (s.advance n).pfp = (s.advance n).pc + BitVec.ofNat 16 (s.advance n).queue.length ∧
      (s.advance n).queue.length ≤ (s.advance n).chip.queueBytes ∧
      (s.advance n).seen.length = (s.advance n).chip.fetchWindow := by
  obtain ⟨k1, k2⟩ := State.takeBytes_queue s.firstAction n h hq
  have k := State.prefetchTimes_queue (Config.prefetchCycles s.draws) k1 k2
  have e := State.prefetchTimes_eq (s.takeBytes s.firstAction n) (Config.prefetchCycles s.draws)
  unfold State.advance
  dsimp only
  generalize State.prefetchTimes _ _ = u at k e
  rw [e] at k
  exact ⟨k.1, k.2, by simp [State.seenBytes]⟩

/-- The byte found by a prefetch where memory holds it and has not held another. -/
theorem State.prefetchedByte_of {s : State} {j : Nat} {b : Byte}
    (hk : kindAt s.platform (phys s.ps (s.pfp + BitVec.ofNat 16 j)) ≠ .device)
    (hm : s.readByte (phys s.ps (s.pfp + BitVec.ofNat 16 j)) = b)
    (hs : ∀ old, s.seen[s.queue.length + j]? = some old → old = b) : s.prefetchedByte j = b := by
  have hc : s.codeByte (s.pfp + BitVec.ofNat 16 j) = b := by
    rw [← hm]
    unfold State.codeByte State.readByte State.byteOr
    cases h : kindAt s.platform (phys s.ps (s.pfp + BitVec.ofNat 16 j)) <;> simp_all
  unfold State.prefetchedByte
  dsimp only
  cases h : s.seen[s.queue.length + j]? with
  | none => exact hc
  | some old => simp [hc, hs old h]

/-- The next byte, if it is known. -/
theorem State.nextByte_of {s : State} {b : Byte} (h : s.pfp = s.pc + BitVec.ofNat 16 s.queue.length)
    (hb : s.InstructionByteIs 0 b) : s.nextByte = b := by
  unfold State.nextByte
  rcases State.withByte_cases s with ⟨hq, e⟩ | ⟨hq, e⟩
  · rw [e]
    unfold State.InstructionByteIs at hb
    cases hs : s.queue with
    | nil => exact absurd hs hq
    | cons q rest =>
      rw [hs] at hb
      exact hb
  · have hlen : s.queue.length = 0 := by simp [hq]
    have hpfp : s.pfp = s.pc := by rw [h, hlen]; simp
    have hne := State.withByte_ne s
    rw [e] at hne ⊢
    unfold State.InstructionByteIs at hb
    simp only [hq, List.getElem?_nil] at hb
    obtain ⟨h1, h2, h3⟩ := hb
    have hp : s.prefetchedByte 0 = b :=
      State.prefetchedByte_of (by rw [hpfp]; exact h1) (by rw [hpfp]; exact h2) (by rw [hlen]; exact h3)
    obtain ⟨n, hn⟩ := Nat.exists_eq_add_of_le' (State.prefetchBytes_le s).1
    rw [State.prefetch_queue, hq, hn] at hne ⊢
    split
    · simp [List.range_succ_eq_map, hp]
    · rename_i hc
      rw [if_neg hc] at hne
      exact absurd rfl hne

/-- The bytes after the one taken, if they are known. -/
theorem State.takeByte_instructionByte {s : State} (a : QueueAction) {k : Nat} {b : Byte}
    (h : s.pfp = s.pc + BitVec.ofNat 16 s.queue.length) (hb : s.InstructionByteIs (k + 1) b) :
    (s.takeByte a).InstructionByteIs k b := by
  have epc : s.pc + 1 + BitVec.ofNat 16 k = s.pc + BitVec.ofNat 16 (k + 1) := by
    rw [BitVec.ofNat_add, BitVec.add_assoc, BitVec.add_comm (BitVec.ofNat 16 k)]
    rfl
  have eread : ∀ x, (s.takeByte a).readByte x = s.readByte x :=
    fun x => State.readByte_congr (by simp) (by simp) (by simp) x
  have eq : (s.takeByte a).queue = s.withByte.queue.tail := rfl
  unfold State.InstructionByteIs at hb ⊢
  simp only [State.takeByte_ps, State.takeByte_pc, State.takeByte_platform, State.takeByte_seen, epc, eread, eq,
    List.getElem?_tail]
  rcases State.withByte_cases s with ⟨_, e⟩ | ⟨hq, e⟩
  · rw [e]
    exact hb
  · rw [e, State.prefetch_queue, hq]
    simp only [hq, List.getElem?_nil, List.nil_append] at hb ⊢
    split
    · rename_i q hget
      split at hget
      · have hlen : s.queue.length = 0 := by simp [hq]
        have hpfp : s.pfp = s.pc := by rw [h, hlen]; simp
        rw [List.getElem?_map] at hget
        obtain ⟨j, hj, hjq⟩ := Option.map_eq_some_iff.mp hget
        have : j = k + 1 := by
          obtain ⟨_, hg⟩ := List.getElem?_eq_some_iff.mp hj
          simpa using hg.symm
        subst this
        rw [← hjq]
        exact State.prefetchedByte_of (by rw [hpfp]; exact hb.1) (by rw [hpfp]; exact hb.2.1)
          (by rw [hlen, Nat.zero_add]; exact hb.2.2)
      · simp at hget
    · exact hb

/-- The instruction bytes, if they are known. -/
theorem State.nextBytes_of {s : State} (a : QueueAction) (bs : List Byte) {n : Nat} (hn : bs.length ≤ n)
    (h : s.pfp = s.pc + BitVec.ofNat 16 s.queue.length) (hq : s.queue.length ≤ s.chip.queueBytes)
    (hb : ∀ k b, bs[k]? = some b → s.InstructionByteIs k b) : ∃ rest, s.nextBytes a n = bs ++ rest := by
  induction bs generalizing s a n with
  | nil => exact ⟨_, rfl⟩
  | cons b bs ih =>
    cases n with
    | zero => simp at hn
    | succ n =>
      obtain ⟨k1, k2⟩ := State.takeByte_queue a h hq
      obtain ⟨rest, hr⟩ := ih .subsequentByte (Nat.le_of_succ_le_succ hn) k1 k2
        (fun k x hx => State.takeByte_instructionByte a h (hb (k + 1) x hx))
      exact ⟨rest, by rw [State.nextBytes, State.nextByte_of h (hb 0 b rfl), hr]; rfl⟩

/-- The end of an instruction is a prefix byte's, a waiting POLL's, a loop's or a boundary. -/
theorem State.finish_cases (s : State) (i : Instr) :
    (isPrefix i = true ∧ s.finish i = s) ∨
    (isPrefix i = false ∧ s.inProgress = none ∧ s.finish i = s.boundary) ∨
    (isPrefix i = false ∧ s.inProgress = some .poll ∧ s.finish i = s) ∨
    (isPrefix i = false ∧ (∃ j, s.inProgress = some j ∧ j ≠ .poll) ∧ s.finish i = s.loopBoundary) := by
  unfold State.finish
  cases hp : isPrefix i with
  | true => exact .inl ⟨rfl, rfl⟩
  | false =>
    refine .inr ?_
    cases hj : s.inProgress with
    | none => exact .inl ⟨rfl, rfl, rfl⟩
    | some j =>
      refine .inr ?_
      by_cases h : j = .poll
      · subst h
        exact .inl ⟨rfl, rfl, rfl⟩
      · refine .inr ⟨rfl, ⟨j, rfl, h⟩, ?_⟩
        cases j <;> first | rfl | exact absurd rfl h

/-- What an interrupt taken between instructions leaves. -/
theorem State.takeInterrupt_eq (s : State) (n : Byte) (ret : Word) :
    s.takeInterrupt n ret = { s.enterInterrupt n ret with standby := false } := rfl

/-- Nothing, NMI or INT is taken, and INT only where NMI is not. -/
theorem State.takeExternal_cases (s : State) (w : Window) (ret : Word) :
    (s.nmiLatch = true ∧ s.takeExternal w ret = { s with nmiLatch := false }.takeInterrupt 2 ret) ∨
    (s.nmiLatch = false ∧ w ≠ .ei ∧ s.intAccepted = true ∧
      s.takeExternal w ret = (s.recordCycles (s.acknowledgeCycles s.pins.vector)).takeInterrupt s.pins.vector ret) ∨
    (s.nmiLatch = false ∧ (w = .ei ∨ s.intAccepted = false) ∧ s.takeExternal w ret = s) := by
  unfold State.takeExternal
  cases hn : s.nmiLatch with
  | true => exact .inl ⟨rfl, rfl⟩
  | false =>
    cases hi : s.intAccepted with
    | false => exact .inr (.inr ⟨rfl, .inr rfl, by simp⟩)
    | true =>
      by_cases hw : w = .ei
      · exact .inr (.inr ⟨rfl, .inl hw, by simp [hw]⟩)
      · exact .inr (.inl ⟨rfl, hw, rfl, by simp [hw]⟩)

/-- One pass of a block instruction: the element alone, nothing, or the element, CW - 1 and the decision to go on. -/
theorem State.repeatElement_cases (s : State) (i : Instr) (k : BlockKind) (element : State → State) :
    (s.prefixes.rep = none ∧ s.repeatElement i k element = element s) ∨
    (∃ p, s.prefixes.rep = some p ∧ s.cw = 0 ∧ s.repeatElement i k element = s) ∨
    (∃ p, s.prefixes.rep = some p ∧ s.cw ≠ 0 ∧
      ((exitTest p k (element s).psw = true ∧
        s.repeatElement i k element = { element s with cw := (element s).cw - 1 }) ∨
       (exitTest p k (element s).psw = false ∧
        s.repeatElement i k element = { element s with cw := (element s).cw - 1, inProgress := some i }))) := by
  unfold State.repeatElement
  cases hp : s.prefixes.rep with
  | none => exact .inl ⟨rfl, rfl⟩
  | some p =>
    by_cases hc : s.cw = 0
    · exact .inr (.inl ⟨p, rfl, hc, by simp [hc]⟩)
    · refine .inr (.inr ⟨p, rfl, hc, ?_⟩)
      cases he : exitTest p k (element s).psw with
      | true => exact .inl ⟨rfl, by simp only [if_neg hc, he, if_true]⟩
      | false => exact .inr ⟨rfl, by simp only [if_neg hc, he]; rfl⟩

end Sys2Proof.Machine
end

