-- ==== Sys2Proof/Tests/Slice0.lean ====
section
/-! SUPPORT. Tests. The bytes of the decoder tests are the encoding lines of the spec with operand bits filled in; the
expected results of the step tests are those of 95_test_vectors.md, part B. The theorems called `test_witness_<name>` show
that the hypotheses of the obligation of that name can be met.

The section is noncomputable for the reason given in Sys2Proof/Decode.lean. -/

noncomputable section

open Sys2Proof Sys2Proof.Machine

namespace Sys2Proof.Tests

/-- The instructions decode to what the list says, with nothing left over. -/
def allDecode (l : List (Instr × List Byte)) : Bool :=
  l.all fun p => match decode p.2 with | .ok r => decide (r = (p.1, p.2.length)) | .error _ => false

/-- The same in emulation mode. -/
def allDecodeEmulation (l : List (Instr × List Byte)) : Bool :=
  l.all fun p => match decodeEmulation p.2 with | .ok r => decide (r = (p.1, p.2.length)) | .error _ => false

/-- Bytes in memory from an address on. -/
def holding (s : State) (a : Nat) : List Byte → State
  | [] => s
  | b :: rest => holding { s with mem := s.mem.write a b } (a + 1) rest

/-- The start state of 95_test_vectors.md with instruction bytes at PS:PC. -/
def startAt (pc : Word) (code : List Byte) : State :=
  holding
    { State.reset with ps := 0x1000, ss := 0x2000, ds0 := 0x3000, ds1 := 0x4000, sp := 0x0100, pc := pc, pfp := pc }
    (0x10000 + pc.toNat) code

/-- The same at PC = 0100H. -/
def start (code : List Byte) : State := startAt 0x0100 code

/-- One step leads to a state with the property. -/
def after (s : State) (p : State → Bool) : Bool :=
  match step s with | .next t => p t | .fault _ => false | .refused _ => false

/-- One step is refused for this reason. -/
def refusedFor (r : Refusal) (s : State) : Bool :=
  match step s with | .next _ => false | .fault _ => false | .refused q => decide (q = r)

/-- The bytes of memory from an address on. -/
def reads (s : State) (a : Nat) : List Byte → Bool
  | [] => true
  | b :: rest => s.mem.read a == b && reads s (a + 1) rest

/-! Well-formedness: an ill-formed term for each check. -/

theorem test_wf_refuses_bp_without_displacement : (Instr.movRegMem .word .alAw (.based .bp)).wellFormed = false := by
  decide

theorem test_wf_accepts_bp_with_displacement : (Instr.movRegMem .word .alAw (.disp8 .bp 0)).wellFormed = true := by
  decide

theorem test_wf_refuses_wide_byte_immediate : (Instr.movRegImm .byte .alAw 0x0100).wellFormed = false := by
  decide

theorem test_wf_refuses_wide_sized_byte_immediate : (Instr.addRegImm .byte .alAw 0x0100).wellFormed = false := by
  decide

theorem test_wf_refuses_wide_sized_byte_immediate_82 : (Instr.addRegImm .byteS .alAw 0xFFFF).wellFormed = false := by
  decide

theorem test_wf_refuses_unextended_immediate : (Instr.addRegImm .wordS .alAw 0x0080).wellFormed = false := by
  decide

theorem test_wf_accepts_extended_immediate : (Instr.addRegImm .wordS .alAw 0xFF80).wellFormed = true := by
  decide

theorem test_wf_refuses_mov_to_ps : (Instr.movSregReg16 .ps .alAw).wellFormed = false := by
  decide

theorem test_wf_refuses_mov_to_ps_from_memory : (Instr.movSregMem16 .ps (.direct 0)).wellFormed = false := by
  decide

theorem test_wf_refuses_pop_to_ps : (Instr.popSreg .ps).wellFormed = false := by
  decide

theorem test_wf_refuses_exchange_of_aw_with_aw : (Instr.xchAwReg16 .alAw).wellFormed = false := by
  decide

/-! Decoding: one word for every constructor, written out from the encoding of its rule. -/

theorem test_decode_data_transfer :
    allDecode
      [ ((.movRegReg .byte .clCw .dhIx), [0b10001010, 0b11001110]),
        ((.movMemReg .word (.disp8 .bp 0xFE) .ahSp), [0b10001001, 0b01100110, 0xFE]),
        ((.movRegMem .byte .bhIy (.disp16 .bpIy 0x1234)), [0b10001010, 0b10111011, 0x34, 0x12]),
        ((.movMemImm .word (.direct 0x1235) 0xA57E), [0b11000111, 0b00000110, 0x35, 0x12, 0x7E, 0xA5]),
        ((.movRegImm .byte .chBp 0x9A), [0b10110101, 0x9A]),
        ((.movAccDmem .word 0x7FFE), [0b10100001, 0xFE, 0x7F]),
        ((.movDmemAcc .byte 0x7FFE), [0b10100010, 0xFE, 0x7F]),
        ((.movSregReg16 .ss .dhIx), [0b10001110, 0b11010110]),
        ((.movSregMem16 .ds0 (.disp8 .bp 0xFE)), [0b10001110, 0b01011110, 0xFE]),
        ((.movReg16Sreg .ahSp .ds1), [0b10001100, 0b11000100]),
        ((.movMem16Sreg (.direct 0x1235) .ss), [0b10001100, 0b00010110, 0x35, 0x12]),
        ((.movDs0Reg16Mem32 .dlDw (.based .bw)), [0b11000101, 0b00010111]),
        ((.movDs1Reg16Mem32 .chBp (.disp8 .bwIx 0x05)), [0b11000100, 0b01101000, 0x05]),
        (.movAhPsw, [0b10011111]),
        (.movPswAh, [0b10011110]),
        ((.ldeaReg16Mem16 .dhIx (.disp8 .bp 0xFE)), [0b10001101, 0b01110110, 0xFE]),
        (.trans, [0b11010111]),
        ((.xchRegReg .word .ahSp .blBw), [0b10000111, 0b11100011]),
        ((.xchMemReg .byte (.based .bw) .bhIy), [0b10000110, 0b00111111]),
        ((.xchAwReg16 .dlDw), [0b10010010]),
        ((.movRegRegD0 .word .dhIx .clCw), [0b10001001, 0b11001110]),
        ((.movRegImmC6 .byte .chBp 0x9A), [0b11000110, 0b11000101, 0x9A]) ] = true := by
  decide

theorem test_decode_prefix :
    allDecode
      [ (.repc, [0b01100101]),
        (.repnc, [0b01100100]),
        (.rep, [0b11110011]),
        (.repne, [0b11110010]),
        (.buslock, [0b11110000]),
        (.ds1Prefix, [0b00100110]),
        (.psPrefix, [0b00101110]),
        (.ssPrefix, [0b00110110]),
        (.ds0Prefix, [0b00111110]) ] = true := by
  decide

theorem test_decode_block :
    allDecode
      [ ((.movbk .byte), [0b10100100]),
        ((.cmpbk .word), [0b10100111]),
        ((.cmpm .byte), [0b10101110]),
        ((.ldm .word), [0b10101101]),
        ((.stm .byte), [0b10101010]) ] = true := by
  decide

theorem test_decode_bit_field :
    allDecode
      [ ((.insReg8Reg8 .alAw .bhIy), [0b00001111, 0b00110001, 0b11111000]),
        ((.insReg8Imm4 .blBw 0x0C), [0b00001111, 0b00111001, 0b11000011, 0x0C]),
        ((.extReg8Reg8 .dhIx .clCw), [0b00001111, 0b00110011, 0b11001110]),
        ((.extReg8Imm4 .clCw 0x0C), [0b00001111, 0b00111011, 0b11000001, 0x0C]) ] = true := by
  decide

theorem test_decode_io :
    allDecode
      [ ((.inAccImm8 .word 0x81), [0b11100101, 0x81]),
        ((.inAccDw .byte), [0b11101100]),
        ((.outImm8Acc .word 0x81), [0b11100111, 0x81]),
        ((.outDwAcc .byte), [0b11101110]),
        ((.inm .word), [0b01101101]),
        ((.outm .byte), [0b01101110]) ] = true := by
  decide

theorem test_decode_add_sub_a :
    allDecode
      [ ((.addRegReg .word .dhIx .clCw), [0b00000011, 0b11110001]),
        ((.addMemReg .byte (.disp8 .bwIx 0x05) .clCw), [0b00000000, 0b01001000, 0x05]),
        ((.addRegMem .word .ahSp (.disp16 .iy 0x8100)), [0b00000011, 0b10100101, 0x00, 0x81]),
        ((.addRegImm .byteS .bhIy 0x9A), [0b10000010, 0b11000111, 0x9A]),
        ((.addMemImm .wordS (.disp8 .bp 0xFE) 0xFFF0), [0b10000011, 0b01000110, 0xFE, 0xF0]),
        ((.addAccImm .byte 0x9A), [0b00000100, 0x9A]),
        ((.addcRegReg .word .alAw .bhIy), [0b00010011, 0b11000111]),
        ((.addcMemReg .byte (.based .bw) .blBw), [0b00010000, 0b00011111]),
        ((.addcRegMem .word .dhIx (.disp8 .bwIx 0x05)), [0b00010011, 0b01110000, 0x05]),
        ((.addcRegImm .byte .clCw 0x9A), [0b10000000, 0b11010001, 0x9A]),
        ((.addcMemImm .word (.based .ix) 0xA57E), [0b10000001, 0b00010100, 0x7E, 0xA5]),
        ((.addcAccImm .byte 0x9A), [0b00010100, 0x9A]),
        ((.subRegReg .word .dlDw .chBp), [0b00101011, 0b11010101]),
        ((.subMemReg .byte (.direct 0x1235) .chBp), [0b00101000, 0b00101110, 0x35, 0x12]),
        ((.subRegMem .word .alAw (.based .bw)), [0b00101011, 0b00000111]),
        ((.subRegImm .byteS .blBw 0x9A), [0b10000010, 0b11101011, 0x9A]),
        ((.subMemImm .wordS (.disp16 .iy 0x8100) 0xFFF0), [0b10000011, 0b10101101, 0x00, 0x81, 0xF0]),
        ((.subAccImm .byte 0x9A), [0b00101100, 0x9A]),
        ((.subcRegReg .word .ahSp .blBw), [0b00011011, 0b11100011]),
        ((.subcMemReg .byte (.disp16 .bpIy 0x1234) .bhIy), [0b00011000, 0b10111011, 0x34, 0x12]),
        ((.subcRegMem .word .dlDw (.direct 0x1235)), [0b00011011, 0b00010110, 0x35, 0x12]),
        ((.subcRegImm .byte .chBp 0x9A), [0b10000000, 0b11011101, 0x9A]),
        ((.subcMemImm .word (.disp8 .bwIx 0x05) 0xA57E), [0b10000001, 0b01011000, 0x05, 0x7E, 0xA5]),
        ((.subcAccImm .byte 0x9A), [0b00011100, 0x9A]),
        ((.incReg8 .blBw), [0b11111110, 0b11000011]),
        ((.incMem .word (.disp8 .bp 0xFE)), [0b11111111, 0b01000110, 0xFE]),
        ((.incReg16 .clCw), [0b01000001]),
        ((.decReg8 .ahSp), [0b11111110, 0b11001100]),
        ((.decMem .byte (.based .bw)), [0b11111110, 0b00001111]),
        ((.decReg16 .dlDw), [0b01001010]) ] = true := by
  decide

theorem test_decode_add_sub_b :
    allDecode
      [ ((.addRegRegD0 .word .dhIx .clCw), [0b00000001, 0b11001110]),
        ((.addcRegRegD0 .word .ahSp .blBw), [0b00010001, 0b11011100]),
        ((.subcRegRegD0 .byte .bhIy .alAw), [0b00011000, 0b11000111]),
        ((.subRegRegD0 .byte .chBp .dlDw), [0b00101000, 0b11010101]),
        ((.incReg16Two .clCw), [0b11111111, 0b11000001]),
        ((.decReg16Two .ahSp), [0b11111111, 0b11001100]) ] = true := by
  decide

theorem test_decode_bcd :
    allDecode
      [ (.add4s, [0b00001111, 0b00100000]),
        (.sub4s, [0b00001111, 0b00100010]),
        (.cmp4s, [0b00001111, 0b00100110]),
        ((.rol4Reg8 .bhIy), [0b00001111, 0b00101000, 0b11000111]),
        ((.rol4Mem8 (.based .bw)), [0b00001111, 0b00101000, 0b00000111]),
        ((.ror4Reg8 .chBp), [0b00001111, 0b00101010, 0b11000101]),
        ((.ror4Mem8 (.disp16 .iy 0x8100)), [0b00001111, 0b00101010, 0b10000101, 0x00, 0x81]) ] = true := by
  decide

theorem test_decode_mul_div :
    allDecode
      [ ((.muluReg8 .chBp), [0b11110110, 0b11100101]),
        ((.muluMem8 (.based .ix)), [0b11110110, 0b00100100]),
        ((.muluReg16 .blBw), [0b11110111, 0b11100011]),
        ((.muluMem16 (.disp16 .bpIy 0x1234)), [0b11110111, 0b10100011, 0x34, 0x12]),
        ((.mulReg8 .clCw), [0b11110110, 0b11101001]),
        ((.mulMem8 (.based .bw)), [0b11110110, 0b00101111]),
        ((.mulReg16 .bhIy), [0b11110111, 0b11101111]),
        ((.mulMem16 (.disp16 .iy 0x8100)), [0b11110111, 0b10101101, 0x00, 0x81]),
        ((.mulReg16Reg16Imm8 .chBp .dlDw 0x81), [0b01101011, 0b11101010, 0x81]),
        ((.mulReg16Mem16Imm8 .alAw (.disp8 .bp 0xFE) 0x81), [0b01101011, 0b01000110, 0xFE, 0x81]),
        ((.mulReg16Reg16Imm16 .blBw .ahSp 0x03E8), [0b01101001, 0b11011100, 0xE8, 0x03]),
        ((.mulReg16Mem16Imm16 .dhIx (.direct 0x1235) 0x03E8), [0b01101001, 0b00110110, 0x35, 0x12, 0xE8, 0x03]),
        ((.divuReg8 .clCw), [0b11110110, 0b11110001]),
        ((.divuMem8 (.disp8 .bwIx 0x05)), [0b11110110, 0b01110000, 0x05]),
        ((.divuReg16 .bhIy), [0b11110111, 0b11110111]),
        ((.divuMem16 (.based .ix)), [0b11110111, 0b00110100]),
        ((.divReg8 .chBp), [0b11110110, 0b11111101]),
        ((.divMem8 (.disp16 .bpIy 0x1234)), [0b11110110, 0b10111011, 0x34, 0x12]),
        ((.divReg16 .blBw), [0b11110111, 0b11111011]),
        ((.divMem16 (.based .bw)), [0b11110111, 0b00111111]) ] = true := by
  decide

theorem test_decode_convert :
    allDecode
      [ (.adjba, [0b00110111]),
        (.adj4a, [0b00100111]),
        (.adjbs, [0b00111111]),
        (.adj4s, [0b00101111]),
        (.cvtbd, [0b11010100, 0b00001010]),
        (.cvtdb, [0b11010101, 0b00001010]),
        (.cvtbw, [0b10011000]),
        (.cvtwl, [0b10011001]) ] = true := by
  decide

theorem test_decode_logic_a :
    allDecode
      [ ((.cmpRegReg .byte .clCw .dhIx), [0b00111010, 0b11001110]),
        ((.cmpMemReg .word (.based .ix) .ahSp), [0b00111001, 0b00100100]),
        ((.cmpRegMem .byte .bhIy (.disp8 .bp 0xFE)), [0b00111010, 0b01111110, 0xFE]),
        ((.cmpRegImm .wordS .dlDw 0xFFF0), [0b10000011, 0b11111010, 0xF0]),
        ((.cmpMemImm .byte (.direct 0x1235) 0x9A), [0b10000000, 0b00111110, 0x35, 0x12, 0x9A]),
        ((.cmpAccImm .word 0xA57E), [0b00111101, 0x7E, 0xA5]),
        ((.notReg .byte .blBw), [0b11110110, 0b11010011]),
        ((.notMem .word (.disp16 .iy 0x8100)), [0b11110111, 0b10010101, 0x00, 0x81]),
        ((.negReg .byte .clCw), [0b11110110, 0b11011001]),
        ((.negMem .word (.disp8 .bp 0xFE)), [0b11110111, 0b01011110, 0xFE]),
        ((.testRegReg .byte .bhIy .alAw), [0b10000100, 0b11111000]),
        ((.testMemReg .word (.direct 0x1235) .dlDw), [0b10000101, 0b00010110, 0x35, 0x12]),
        ((.testRegImm .byte .chBp 0x9A), [0b11110110, 0b11000101, 0x9A]),
        ((.testMemImm .word (.disp8 .bwIx 0x05) 0xA57E), [0b11110111, 0b01000000, 0x05, 0x7E, 0xA5]),
        ((.testAccImm .byte 0x9A), [0b10101000, 0x9A]),
        ((.andRegReg .word .dhIx .clCw), [0b00100011, 0b11110001]),
        ((.andMemReg .byte (.disp8 .bp 0xFE) .clCw), [0b00100000, 0b01001110, 0xFE]),
        ((.andRegMem .word .ahSp (.disp16 .bpIy 0x1234)), [0b00100011, 0b10100011, 0x34, 0x12]),
        ((.andRegImm .byte .bhIy 0x9A), [0b10000000, 0b11100111, 0x9A]),
        ((.andMemImm .word (.based .bw) 0xA57E), [0b10000001, 0b00100111, 0x7E, 0xA5]),
        ((.andAccImm .byte 0x9A), [0b00100100, 0x9A]),
        ((.orRegReg .word .alAw .bhIy), [0b00001011, 0b11000111]),
        ((.orMemReg .byte (.based .ix) .blBw), [0b00001000, 0b00011100]),
        ((.orRegMem .word .dhIx (.disp8 .bp 0xFE)), [0b00001011, 0b01110110, 0xFE]),
        ((.orRegImm .byte .clCw 0x9A), [0b10000000, 0b11001001, 0x9A]),
        ((.orMemImm .word (.direct 0x1235) 0xA57E), [0b10000001, 0b00001110, 0x35, 0x12, 0x7E, 0xA5]),
        ((.orAccImm .byte 0x9A), [0b00001100, 0x9A]),
        ((.xorRegReg .word .dlDw .chBp), [0b00110011, 0b11010101]),
        ((.xorMemReg .byte (.disp16 .iy 0x8100) .chBp), [0b00110000, 0b10101101, 0x00, 0x81]),
        ((.xorRegMem .word .alAw (.based .ix)), [0b00110011, 0b00000100]) ] = true := by
  decide

theorem test_decode_logic_b :
    allDecode
      [ ((.xorRegImm .byte .blBw 0x9A), [0b10000000, 0b11110011, 0x9A]),
        ((.xorMemImm .word (.disp16 .bpIy 0x1234) 0xA57E), [0b10000001, 0b10110011, 0x34, 0x12, 0x7E, 0xA5]),
        ((.xorAccImm .byte 0x9A), [0b00110100, 0x9A]),
        ((.orRegRegD0 .byte .clCw .dhIx), [0b00001000, 0b11110001]),
        ((.andRegRegD0 .word .dlDw .chBp), [0b00100001, 0b11101010]),
        ((.xorRegRegD0 .word .alAw .bhIy), [0b00110001, 0b11111000]),
        ((.cmpRegRegD0 .byte .blBw .ahSp), [0b00111000, 0b11100011]) ] = true := by
  decide

theorem test_decode_bit_a :
    allDecode
      [ ((.test1Reg8Cl .ahSp), [0b00001111, 0b00010000, 0b11000100]),
        ((.test1Mem8Cl (.disp8 .bwIx 0x05)), [0b00001111, 0b00010000, 0b01000000, 0x05]),
        ((.test1Reg16Cl .dlDw), [0b00001111, 0b00010001, 0b11000010]),
        ((.test1Mem16Cl (.based .ix)), [0b00001111, 0b00010001, 0b00000100]),
        ((.test1Reg8Imm3 .alAw 0x05), [0b00001111, 0b00011000, 0b11000000, 0x05]),
        ((.test1Mem8Imm3 (.disp16 .bpIy 0x1234) 0x05), [0b00001111, 0b00011000, 0b10000011, 0x34, 0x12, 0x05]),
        ((.test1Reg16Imm4 .dhIx 0x0C), [0b00001111, 0b00011001, 0b11000110, 0x0C]),
        ((.test1Mem16Imm4 (.based .bw) 0x0C), [0b00001111, 0b00011001, 0b00000111, 0x0C]),
        ((.not1Reg8Cl .ahSp), [0b00001111, 0b00010110, 0b11000100]),
        ((.not1Mem8Cl (.disp16 .iy 0x8100)), [0b00001111, 0b00010110, 0b10000101, 0x00, 0x81]),
        ((.not1Reg16Cl .dlDw), [0b00001111, 0b00010111, 0b11000010]),
        ((.not1Mem16Cl (.disp8 .bp 0xFE)), [0b00001111, 0b00010111, 0b01000110, 0xFE]),
        ((.not1Reg8Imm3 .alAw 0x05), [0b00001111, 0b00011110, 0b11000000, 0x05]),
        ((.not1Mem8Imm3 (.direct 0x1235) 0x05), [0b00001111, 0b00011110, 0b00000110, 0x35, 0x12, 0x05]),
        ((.not1Reg16Imm4 .dhIx 0x0C), [0b00001111, 0b00011111, 0b11000110, 0x0C]),
        ((.not1Mem16Imm4 (.disp8 .bwIx 0x05) 0x0C), [0b00001111, 0b00011111, 0b01000000, 0x05, 0x0C]),
        ((.clr1Reg8Cl .ahSp), [0b00001111, 0b00010010, 0b11000100]),
        ((.clr1Mem8Cl (.based .ix)), [0b00001111, 0b00010010, 0b00000100]),
        ((.clr1Reg16Cl .dlDw), [0b00001111, 0b00010011, 0b11000010]),
        ((.clr1Mem16Cl (.disp16 .bpIy 0x1234)), [0b00001111, 0b00010011, 0b10000011, 0x34, 0x12]),
        ((.clr1Reg8Imm3 .alAw 0x05), [0b00001111, 0b00011010, 0b11000000, 0x05]),
        ((.clr1Mem8Imm3 (.based .bw) 0x05), [0b00001111, 0b00011010, 0b00000111, 0x05]),
        ((.clr1Reg16Imm4 .dhIx 0x0C), [0b00001111, 0b00011011, 0b11000110, 0x0C]),
        ((.clr1Mem16Imm4 (.disp16 .iy 0x8100) 0x0C), [0b00001111, 0b00011011, 0b10000101, 0x00, 0x81, 0x0C]),
        ((.set1Reg8Cl .ahSp), [0b00001111, 0b00010100, 0b11000100]),
        ((.set1Mem8Cl (.disp8 .bp 0xFE)), [0b00001111, 0b00010100, 0b01000110, 0xFE]),
        ((.set1Reg16Cl .dlDw), [0b00001111, 0b00010101, 0b11000010]),
        ((.set1Mem16Cl (.direct 0x1235)), [0b00001111, 0b00010101, 0b00000110, 0x35, 0x12]),
        ((.set1Reg8Imm3 .alAw 0x05), [0b00001111, 0b00011100, 0b11000000, 0x05]),
        ((.set1Mem8Imm3 (.disp8 .bwIx 0x05) 0x05), [0b00001111, 0b00011100, 0b01000000, 0x05, 0x05]) ] = true := by
  decide

theorem test_decode_bit_b :
    allDecode
      [ ((.set1Reg16Imm4 .dhIx 0x0C), [0b00001111, 0b00011101, 0b11000110, 0x0C]),
        ((.set1Mem16Imm4 (.based .ix) 0x0C), [0b00001111, 0b00011101, 0b00000100, 0x0C]),
        (.not1Cy, [0b11110101]),
        (.clr1Cy, [0b11111000]),
        (.set1Cy, [0b11111001]),
        (.clr1Dir, [0b11111100]),
        (.set1Dir, [0b11111101]) ] = true := by
  decide

theorem test_decode_shift_a :
    allDecode
      [ ((.shlReg1 .byte .blBw), [0b11010000, 0b11100011]),
        ((.shlMem1 .word (.based .ix)), [0b11010001, 0b00100100]),
        ((.shlRegCl .byte .clCw), [0b11010010, 0b11100001]),
        ((.shlMemCl .word (.disp16 .bpIy 0x1234)), [0b11010011, 0b10100011, 0x34, 0x12]),
        ((.shlRegImm8 .byte .bhIy 0x81), [0b11000000, 0b11100111, 0x81]),
        ((.shlMemImm8 .word (.based .bw) 0x81), [0b11000001, 0b00100111, 0x81]),
        ((.shrReg1 .byte .chBp), [0b11010000, 0b11101101]),
        ((.shrMem1 .word (.disp16 .iy 0x8100)), [0b11010001, 0b10101101, 0x00, 0x81]),
        ((.shrRegCl .byte .blBw), [0b11010010, 0b11101011]),
        ((.shrMemCl .word (.disp8 .bp 0xFE)), [0b11010011, 0b01101110, 0xFE]),
        ((.shrRegImm8 .byte .clCw 0x81), [0b11000000, 0b11101001, 0x81]),
        ((.shrMemImm8 .word (.direct 0x1235) 0x81), [0b11000001, 0b00101110, 0x35, 0x12, 0x81]),
        ((.shraReg1 .byte .bhIy), [0b11010000, 0b11111111]),
        ((.shraMem1 .word (.disp8 .bwIx 0x05)), [0b11010001, 0b01111000, 0x05]),
        ((.shraRegCl .byte .chBp), [0b11010010, 0b11111101]),
        ((.shraMemCl .word (.based .ix)), [0b11010011, 0b00111100]),
        ((.shraRegImm8 .byte .blBw 0x81), [0b11000000, 0b11111011, 0x81]),
        ((.shraMemImm8 .word (.disp16 .bpIy 0x1234) 0x81), [0b11000001, 0b10111011, 0x34, 0x12, 0x81]),
        ((.rolReg1 .byte .clCw), [0b11010000, 0b11000001]),
        ((.rolMem1 .word (.based .bw)), [0b11010001, 0b00000111]),
        ((.rolRegCl .byte .bhIy), [0b11010010, 0b11000111]),
        ((.rolMemCl .word (.disp16 .iy 0x8100)), [0b11010011, 0b10000101, 0x00, 0x81]),
        ((.rolRegImm8 .byte .chBp 0x81), [0b11000000, 0b11000101, 0x81]),
        ((.rolMemImm8 .word (.disp8 .bp 0xFE) 0x81), [0b11000001, 0b01000110, 0xFE, 0x81]),
        ((.rorReg1 .byte .blBw), [0b11010000, 0b11001011]),
        ((.rorMem1 .word (.direct 0x1235)), [0b11010001, 0b00001110, 0x35, 0x12]),
        ((.rorRegCl .byte .clCw), [0b11010010, 0b11001001]),
        ((.rorMemCl .word (.disp8 .bwIx 0x05)), [0b11010011, 0b01001000, 0x05]),
        ((.rorRegImm8 .byte .bhIy 0x81), [0b11000000, 0b11001111, 0x81]),
        ((.rorMemImm8 .word (.based .ix) 0x81), [0b11000001, 0b00001100, 0x81]) ] = true := by
  decide

theorem test_decode_shift_b :
    allDecode
      [ ((.rolcReg1 .byte .chBp), [0b11010000, 0b11010101]),
        ((.rolcMem1 .word (.disp16 .bpIy 0x1234)), [0b11010001, 0b10010011, 0x34, 0x12]),
        ((.rolcRegCl .byte .blBw), [0b11010010, 0b11010011]),
        ((.rolcMemCl .word (.based .bw)), [0b11010011, 0b00010111]),
        ((.rolcRegImm8 .byte .clCw 0x81), [0b11000000, 0b11010001, 0x81]),
        ((.rolcMemImm8 .word (.disp16 .iy 0x8100) 0x81), [0b11000001, 0b10010101, 0x00, 0x81, 0x81]),
        ((.rorcReg1 .byte .bhIy), [0b11010000, 0b11011111]),
        ((.rorcMem1 .word (.disp8 .bp 0xFE)), [0b11010001, 0b01011110, 0xFE]),
        ((.rorcRegCl .byte .chBp), [0b11010010, 0b11011101]),
        ((.rorcMemCl .word (.direct 0x1235)), [0b11010011, 0b00011110, 0x35, 0x12]),
        ((.rorcRegImm8 .byte .blBw 0x81), [0b11000000, 0b11011011, 0x81]),
        ((.rorcMemImm8 .word (.disp8 .bwIx 0x05) 0x81), [0b11000001, 0b01011000, 0x05, 0x81]) ] = true := by
  decide

theorem test_decode_control :
    allDecode
      [ ((.callNear 0xFE20), [0b11101000, 0x20, 0xFE]),
        ((.callRegptr16 .ahSp), [0b11111111, 0b11010100]),
        ((.callMemptr16 (.disp8 .bp 0xFE)), [0b11111111, 0b01010110, 0xFE]),
        ((.callFar 0xFFF0 0xE000), [0b10011010, 0xF0, 0xFF, 0x00, 0xE0]),
        ((.callMemptr32 (.direct 0x1235)), [0b11111111, 0b00011110, 0x35, 0x12]),
        (.retNear, [0b11000011]),
        ((.retNearPop 0x0008), [0b11000010, 0x08, 0x00]),
        (.retFar, [0b11001011]),
        ((.retFarPop 0x0008), [0b11001010, 0x08, 0x00]),
        ((.brNear 0xFE20), [0b11101001, 0x20, 0xFE]),
        ((.brRegptr16 .ahSp), [0b11111111, 0b11100100]),
        ((.brMemptr16 (.based .bw)), [0b11111111, 0b00100111]),
        ((.brFar 0xFFF0 0xE000), [0b11101010, 0xF0, 0xFF, 0x00, 0xE0]),
        ((.brMemptr32 (.disp16 .iy 0x8100)), [0b11111111, 0b10101101, 0x00, 0x81]) ] = true := by
  decide

theorem test_decode_stack :
    allDecode
      [ ((.pushMem16 (.disp8 .bp 0xFE)), [0b11111111, 0b01110110, 0xFE]),
        ((.pushReg16 .bhIy), [0b01010111]),
        ((.pushSreg .ds0), [0b00011110]),
        (.pushR, [0b01100000]),
        ((.pushImm8 0x81), [0b01101010, 0x81]),
        ((.pushImm16 0x03E8), [0b01101000, 0xE8, 0x03]),
        (.pushPsw, [0b10011100]),
        ((.popMem16 (.disp8 .bp 0xFE)), [0b10001111, 0b01000110, 0xFE]),
        ((.popReg16 .ahSp), [0b01011100]),
        ((.popSreg .ds1), [0b00000111]),
        (.popR, [0b01100001]),
        (.popPsw, [0b10011101]),
        ((.prepare 0x010A 0x03), [0b11001000, 0x0A, 0x01, 0x03]),
        (.dispose, [0b11001001]),
        ((.pushReg16Two .bhIy), [0b11111111, 0b11110111]),
        ((.popReg16Two .dlDw), [0b10001111, 0b11000010]) ] = true := by
  decide

theorem test_decode_branch :
    allDecode
      [ ((.brShort 0xEE), [0b11101011, 0xEE]),
        ((.bv 0xEE), [0b01110000, 0xEE]),
        ((.bnv 0xEE), [0b01110001, 0xEE]),
        ((.bc 0xEE), [0b01110010, 0xEE]),
        ((.bnc 0xEE), [0b01110011, 0xEE]),
        ((.be 0xEE), [0b01110100, 0xEE]),
        ((.bne 0xEE), [0b01110101, 0xEE]),
        ((.bnh 0xEE), [0b01110110, 0xEE]),
        ((.bh 0xEE), [0b01110111, 0xEE]),
        ((.bpe 0xEE), [0b01111010, 0xEE]),
        ((.bpo 0xEE), [0b01111011, 0xEE]),
        ((.bn 0xEE), [0b01111000, 0xEE]),
        ((.bp 0xEE), [0b01111001, 0xEE]),
        ((.blt 0xEE), [0b01111100, 0xEE]),
        ((.bge 0xEE), [0b01111101, 0xEE]),
        ((.ble 0xEE), [0b01111110, 0xEE]),
        ((.bgt 0xEE), [0b01111111, 0xEE]),
        ((.dbnzne 0xEE), [0b11100000, 0xEE]),
        ((.dbnze 0xEE), [0b11100001, 0xEE]),
        ((.dbnz 0xEE), [0b11100010, 0xEE]),
        ((.bcwz 0xEE), [0b11100011, 0xEE]) ] = true := by
  decide

theorem test_decode_break :
    allDecode
      [ (.brk3, [0b11001100]),
        ((.brkImm8 0x81), [0b11001101, 0x81]),
        (.brkv, [0b11001110]),
        (.reti, [0b11001111]),
        ((.chkind .alAw (.direct 0x1235)), [0b01100010, 0b00000110, 0x35, 0x12]) ] = true := by
  decide

theorem test_decode_cpu_control :
    allDecode
      [ (.halt, [0b11110100]),
        (.poll, [0b10011011]),
        (.di, [0b11111010]),
        (.ei, [0b11111011]),
        ((.fpo1 5 3 6), [0b11011101, 0b11011110]),
        ((.fpo1Mem 5 3 (.direct 0x1235)), [0b11011101, 0b00011110, 0x35, 0x12]),
        ((.fpo2 1 3 6), [0b01100111, 0b11011110]),
        ((.fpo2Mem 1 3 (.disp8 .bwIx 0x05)), [0b01100111, 0b01011000, 0x05]),
        (.nop, [0b10010000]) ] = true := by
  decide

theorem test_decode_emulation :
    allDecode
      [ ((.brkem 0x81), [0b00001111, 0b11111111, 0x81]) ] = true := by
  decide

theorem test_decode_emulation_mode :
    allDecodeEmulation
      [ (.retem, [0b11101101, 0b11111101]),
        ((.calln 0x81), [0b11101101, 0b11101101, 0x81]) ] = true := by
  decide

/-! The byte sequences that are no instruction (30_encoding.md R117 to R122; 95_test_vectors.md). -/

theorem test_refuses_undefined_opcode : refusedFor .undefinedOpcode (start [0x63]) = true := by
  decide

theorem test_refuses_undefined_extended_opcode : refusedFor .undefinedOpcode (start [0x0F, 0x30]) = true := by
  decide

theorem test_refuses_undefined_sub_opcode : refusedFor .undefinedSubOpcode (start [0x83, 0xE3, 0xF0]) = true := by
  decide

theorem test_refuses_register_where_memory_is_required :
    refusedFor .registerWhereMemoryRequired (start [0x62, 0xD8]) = true := by
  decide

theorem test_refuses_mov_to_ps : refusedFor .movToPS (start [0x8E, 0xC8]) = true := by
  decide

theorem test_refuses_misused_repeat :
    refusedFor .repPrefixMisuse { start [0xA4] with prefixes := ⟨none, some .repc, false, 1⟩ } = true := by
  decide

theorem test_table_word_of_mov : decodeTableWord 16 0x8AC0 = some (.movRegReg .byte .alAw .alAw) := by
  decide

theorem test_fetch_word_runs : after (State.reset.withFetchWord 16 0xB405) (fun t => t.aw == 0x0500) = true := by
  decide

theorem test_fetch_word_runs_retem :
    after (State.reset.withFetchWord 16 0xEDFD) (fun t => t.sp == 6 && !t.mdwe) = true := by
  decide

/-! One step each: the vectors of 95_test_vectors.md. -/

theorem test_step_mov_bw_aw :
    after { start [0x8B, 0xD8] with aw := 0x1234 }
      (fun t => t.bw == 0x1234 && t.pc == 0x0102) = true := by
  decide

theorem test_step_mov_bw_aw_2 :
    after { start [0x89, 0xC3] with aw := 0x1234 }
      (fun t => t.bw == 0x1234 && t.pc == 0x0102) = true := by
  decide

theorem test_step_mov_bw_ix_5_cw :
    after { start [0x89, 0x48, 0x05] with bw := 0x0100, ix := 0x0020, cw := 0xBEEF }
      (fun t => t.pc == 0x0103 && reads t 0x30125 [0xEF, 0xBE]) = true := by
  decide

theorem test_step_mov_al_bp_2 :
    after { holding (start [0x8A, 0x46, 0xFE]) 0x2007E [0x5A] with bp := 0x0080 }
      (fun t => t.aw == 0x005A && t.pc == 0x0103) = true := by
  decide

theorem test_step_mov_aw_0fffeh :
    after (holding (start [0xA1, 0xFE, 0xFF]) 0x3FFFE [0x34, 0x12])
      (fun t => t.aw == 0x1234 && t.pc == 0x0103) = true := by
  decide

theorem test_step_mov_1235h_aw :
    after { start [0xA3, 0x35, 0x12] with aw := 0xCDAB }
      (fun t => t.pc == 0x0103 && reads t 0x31235 [0xAB, 0xCD]) = true := by
  decide

theorem test_step_mov_word_ptr_ix_1234h :
    after { start [0xC7, 0x04, 0x34, 0x12] with ix := 0x0010 }
      (fun t => t.pc == 0x0104 && reads t 0x30010 [0x34, 0x12]) = true := by
  decide

theorem test_step_mov_byte_ptr_iy_0100h_7fh :
    after { start [0xC6, 0x85, 0x00, 0x01, 0x7F] with iy := 0xFF80 }
      (fun t => t.pc == 0x0105 && reads t 0x30080 [0x7F]) = true := by
  decide

theorem test_step_ldea_bw_bp_iy_1 :
    after { start [0x8D, 0x5B, 0xFF] with bp := 0x8000, iy := 0x8000 }
      (fun t => t.bw == 0xFFFF && t.pc == 0x0103) = true := by
  decide

theorem test_step_trans :
    after { holding (start [0xD7]) 0x303FF [0x42] with bw := 0x0300, aw := 0x00FF }
      (fun t => t.aw == 0x0042 && t.pc == 0x0101) = true := by
  decide

theorem test_step_xch_bl_ix :
    after { holding (start [0x86, 0x1C]) 0x30008 [0x22] with bw := 0x0011, ix := 0x0008 }
      (fun t => t.bw == 0x0022 && t.pc == 0x0102 && reads t 0x30008 [0x11]) = true := by
  decide

theorem test_step_cmpbkb :
    after { holding (holding (start [0xA6]) 0x30010 [0x05]) 0x40020 [0x07] with ix := 0x0010, iy := 0x0020 }
      (fun t => t.ix == 0x0011 && t.iy == 0x0021 && t.pc == 0x0101 && !t.psw.v && t.psw.s && !t.psw.z && t.psw.ac && !t.psw.p && t.psw.cy) = true := by
  decide

theorem test_step_ldmw_dir_1 :
    after { holding (start [0xAD]) 0x30010 [0x34, 0x12] with ix := 0x0010, psw := { State.reset.psw with dir := true } }
      (fun t => t.aw == 0x1234 && t.ix == 0x000E && t.pc == 0x0101) = true := by
  decide

theorem test_step_stmb_at_iy_ffffh :
    after { start [0xAA] with iy := 0xFFFF, aw := 0x0099 }
      (fun t => t.iy == 0x0000 && t.pc == 0x0101 && reads t 0x4FFFF [0x99]) = true := by
  decide

theorem test_step_ins_cl_dl :
    after { holding (start [0x0F, 0x31, 0xD1]) 0x40040 [0x00, 0x00, 0x00, 0x00] with cw := 0x0003, dw := 0x0004, aw := 0x5555, iy := 0x0040 }
      (fun t => t.cw == 0x0008 && t.pc == 0x0103 && reads t 0x40040 [0xA8, 0x00]) = true := by
  decide

theorem test_step_ext_cl_dl :
    after { holding (start [0x0F, 0x33, 0xD1]) 0x30040 [0x55, 0x55, 0x33, 0x33] with cw := 0x0003, dw := 0x0004, aw := 0xFFFF, ix := 0x0040 }
      (fun t => t.aw == 0x000A && t.cw == 0x0008 && t.pc == 0x0103) = true := by
  decide

theorem test_step_add_al_bl :
    after { start [0x02, 0xC3] with aw := 0x007F, bw := 0x0001 }
      (fun t => t.aw == 0x0080 && t.pc == 0x0102 && t.psw.v && t.psw.s && !t.psw.z && t.psw.ac && !t.psw.p && !t.psw.cy) = true := by
  decide

theorem test_step_add_aw_1234h :
    after { start [0x05, 0x34, 0x12] with aw := 0xEDCC }
      (fun t => t.aw == 0x0000 && t.pc == 0x0103 && !t.psw.v && !t.psw.s && t.psw.z && t.psw.ac && t.psw.p && t.psw.cy) = true := by
  decide

theorem test_step_add_ix_cl :
    after { holding (start [0x00, 0x0C]) 0x30004 [0x01] with ix := 0x0004, cw := 0x000F }
      (fun t => t.pc == 0x0102 && !t.psw.v && !t.psw.s && !t.psw.z && t.psw.ac && !t.psw.p && !t.psw.cy && reads t 0x30004 [0x10]) = true := by
  decide

theorem test_step_add_bw_1 :
    after { start [0x83, 0xC3, 0xFF] with bw := 0x0001 }
      (fun t => t.bw == 0x0000 && t.pc == 0x0103 && !t.psw.v && !t.psw.s && t.psw.z && t.psw.ac && t.psw.p && t.psw.cy) = true := by
  decide

theorem test_step_addc_al_0 :
    after { start [0x14, 0x00] with aw := 0x00FF, psw := { State.reset.psw with cy := true } }
      (fun t => t.aw == 0x0000 && t.pc == 0x0102 && !t.psw.v && !t.psw.s && t.psw.z && t.psw.ac && t.psw.p && t.psw.cy) = true := by
  decide

theorem test_step_sub_al_bl :
    after { start [0x2A, 0xC3] with aw := 0x0000, bw := 0x0001 }
      (fun t => t.aw == 0x00FF && t.pc == 0x0102 && !t.psw.v && t.psw.s && !t.psw.z && t.psw.ac && t.psw.p && t.psw.cy) = true := by
  decide

theorem test_step_subc_al_0 :
    after { start [0x1C, 0x00] with aw := 0x0000, psw := { State.reset.psw with cy := true } }
      (fun t => t.aw == 0x00FF && t.pc == 0x0102 && !t.psw.v && t.psw.s && !t.psw.z && t.psw.ac && t.psw.p && t.psw.cy) = true := by
  decide

theorem test_step_inc_bl :
    after { start [0xFE, 0xC3] with bw := 0x00FF, psw := { State.reset.psw with cy := false } }
      (fun t => t.bw == 0x0000 && t.pc == 0x0102 && !t.psw.v && !t.psw.s && t.psw.z && t.psw.ac && t.psw.p && !t.psw.cy) = true := by
  decide

theorem test_step_dec_cl :
    after { start [0xFE, 0xC9] with cw := 0x0000 }
      (fun t => t.cw == 0x00FF && t.pc == 0x0102 && !t.psw.v && t.psw.s && !t.psw.z && t.psw.ac && t.psw.p && !t.psw.cy) = true := by
  decide

theorem test_step_cmp4s :
    after { holding (holding (start [0x0F, 0x26]) 0x30010 [0x21, 0x43, 0x65, 0x07]) 0x40020 [0x21, 0x43, 0x65, 0x07] with cw := 0x0008, ix := 0x0010, iy := 0x0020 }
      (fun t => t.pc == 0x0102 && t.psw.z && !t.psw.cy) = true := by
  decide

theorem test_step_add4s :
    after { holding (holding (start [0x0F, 0x20]) 0x30010 [0x21, 0x43, 0x65, 0x07]) 0x40020 [0x21, 0x43, 0x65, 0x07] with cw := 0x0008, ix := 0x0010, iy := 0x0020 }
      (fun t => t.pc == 0x0102 && !t.psw.z && !t.psw.cy && reads t 0x40020 [0x42, 0x86, 0x30, 0x15]) = true := by
  decide

theorem test_step_sub4s :
    after { holding (holding (start [0x0F, 0x22]) 0x30010 [0x21, 0x43, 0x65, 0x07]) 0x40020 [0x21, 0x43, 0x65, 0x07] with cw := 0x0008, ix := 0x0010, iy := 0x0020 }
      (fun t => t.pc == 0x0102 && t.psw.z && !t.psw.cy && reads t 0x40020 [0x00, 0x00, 0x00, 0x00]) = true := by
  decide

theorem test_step_mulu_cl :
    after { start [0xF6, 0xE1] with aw := 0x000D, cw := 0x0005 }
      (fun t => t.aw == 0x0041 && t.pc == 0x0102 && !t.psw.v && !t.psw.cy) = true := by
  decide

theorem test_step_mul_cl :
    after { start [0xF6, 0xE9] with aw := 0x00FA, cw := 0x0006 }
      (fun t => t.aw == 0xFFDC && t.pc == 0x0102 && !t.psw.v && !t.psw.cy) = true := by
  decide

theorem test_step_mul_cw_bw_3 :
    after { start [0x6B, 0xCB, 0xFD] with bw := 0x0007 }
      (fun t => t.cw == 0xFFEB && t.pc == 0x0103 && !t.psw.v && !t.psw.cy) = true := by
  decide

theorem test_step_mul_cw_bw_1000 :
    after { start [0x69, 0xCB, 0xE8, 0x03] with bw := 0x0064 }
      (fun t => t.cw == 0x86A0 && t.pc == 0x0104 && t.psw.v && t.psw.cy) = true := by
  decide

theorem test_step_divu_cl :
    after { start [0xF6, 0xF1] with aw := 0x0064, cw := 0x0007 }
      (fun t => t.aw == 0x020E && t.pc == 0x0102) = true := by
  decide

theorem test_step_div_cl :
    after { start [0xF6, 0xF9] with aw := 0xFFF9, cw := 0x0002 }
      (fun t => t.aw == 0xFFFD && t.pc == 0x0102) = true := by
  decide

theorem test_step_adjba :
    after { start [0x37] with aw := 0x020C, psw := { State.reset.psw with ac := false } }
      (fun t => t.aw == 0x0302 && t.pc == 0x0101 && t.psw.ac && t.psw.cy) = true := by
  decide

theorem test_step_adjbs :
    after { start [0x3F] with aw := 0x03FE, psw := { State.reset.psw with ac := true } }
      (fun t => t.aw == 0x0208 && t.pc == 0x0101 && t.psw.ac && t.psw.cy) = true := by
  decide

theorem test_step_adj4a :
    after { start [0x27] with aw := 0x009A }
      (fun t => t.aw == 0x0000 && t.pc == 0x0101 && !t.psw.s && t.psw.z && t.psw.ac && t.psw.p && t.psw.cy) = true := by
  decide

theorem test_step_adj4s :
    after { start [0x2F] with aw := 0x00FF, psw := { State.reset.psw with ac := true, cy := true } }
      (fun t => t.aw == 0x0099 && t.pc == 0x0101 && t.psw.s && !t.psw.z && t.psw.ac && t.psw.p && t.psw.cy) = true := by
  decide

theorem test_step_cvtbd :
    after { start [0xD4, 0x0A] with aw := 0xFF63 }
      (fun t => t.aw == 0x0909 && t.pc == 0x0102 && !t.psw.s && !t.psw.z && t.psw.p) = true := by
  decide

theorem test_step_cvtdb :
    after { start [0xD5, 0x0A] with aw := 0x0909 }
      (fun t => t.aw == 0x0063 && t.pc == 0x0102 && !t.psw.s && !t.psw.z && t.psw.p) = true := by
  decide

theorem test_step_cvtbw :
    after { start [0x98] with aw := 0x1280 }
      (fun t => t.aw == 0xFF80 && t.pc == 0x0101) = true := by
  decide

theorem test_step_cvtwl :
    after { start [0x99] with aw := 0x8000, dw := 0x1234 }
      (fun t => t.dw == 0xFFFF && t.pc == 0x0101) = true := by
  decide

theorem test_step_cmp_al_bl :
    after { start [0x3A, 0xC3] with aw := 0x0005, bw := 0x0007 }
      (fun t => t.pc == 0x0102 && !t.psw.v && t.psw.s && !t.psw.z && t.psw.ac && !t.psw.p && t.psw.cy) = true := by
  decide

theorem test_step_not_al :
    after { start [0xF6, 0xD0] with aw := 0x000F, psw := { State.reset.psw with cy := true, z := true } }
      (fun t => t.aw == 0x00F0 && t.pc == 0x0102) = true := by
  decide

theorem test_step_neg_al :
    after { start [0xF6, 0xD8] with aw := 0x0080 }
      (fun t => t.pc == 0x0102 && t.psw.v && t.psw.s && !t.psw.z && !t.psw.ac && !t.psw.p && t.psw.cy) = true := by
  decide

theorem test_step_test_al_80h :
    after { start [0xA8, 0x80] with aw := 0x007F, psw := { State.reset.psw with cy := true, v := true } }
      (fun t => t.pc == 0x0102 && !t.psw.v && !t.psw.s && t.psw.z && t.psw.p && !t.psw.cy) = true := by
  decide

theorem test_step_and_al_bl :
    after { start [0x22, 0xC3] with aw := 0x00F0, bw := 0x003C, psw := { State.reset.psw with cy := true, v := true } }
      (fun t => t.aw == 0x0030 && t.pc == 0x0102 && !t.psw.v && !t.psw.s && !t.psw.z && t.psw.p && !t.psw.cy) = true := by
  decide

theorem test_step_or_al_0 :
    after { start [0x0C, 0x00] with aw := 0x0000, psw := { State.reset.psw with cy := true } }
      (fun t => t.pc == 0x0102 && !t.psw.v && !t.psw.s && t.psw.z && t.psw.p && !t.psw.cy) = true := by
  decide

theorem test_step_xor_aw_aw :
    after { start [0x33, 0xC0] with aw := 0xBEEF, psw := { State.reset.psw with cy := true, v := true } }
      (fun t => t.aw == 0x0000 && t.pc == 0x0102 && !t.psw.v && !t.psw.s && t.psw.z && t.psw.p && !t.psw.cy) = true := by
  decide

theorem test_step_test1_al_cl :
    after { start [0x0F, 0x10, 0xC0] with aw := 0x0080, cw := 0x000F, psw := { State.reset.psw with cy := true, v := true } }
      (fun t => t.pc == 0x0103 && !t.psw.v && !t.psw.z && !t.psw.cy) = true := by
  decide

theorem test_step_not1_bl_cl :
    after { start [0x0F, 0x16, 0xC3] with bw := 0x0000, cw := 0x0009 }
      (fun t => t.bw == 0x0002 && t.pc == 0x0103) = true := by
  decide

theorem test_step_clr1_aw_cl :
    after { start [0x0F, 0x13, 0xC0] with aw := 0xFFFF, cw := 0x0008 }
      (fun t => t.aw == 0xFEFF && t.pc == 0x0103) = true := by
  decide

theorem test_step_set1_bl_8 :
    after { start [0x0F, 0x1C, 0xC3, 0x08] with bw := 0x0000 }
      (fun t => t.bw == 0x0001 && t.pc == 0x0104) = true := by
  decide

theorem test_step_shl_bh_1 :
    after { start [0xD0, 0xE7] with bw := 0xC000 }
      (fun t => t.bw == 0x8000 && t.pc == 0x0102 && !t.psw.v && t.psw.s && !t.psw.z && !t.psw.p && t.psw.cy) = true := by
  decide

theorem test_step_shl_al_cl :
    after { start [0xD2, 0xE0] with aw := 0x0001, cw := 0x0008, psw := { State.reset.psw with cy := false } }
      (fun t => t.aw == 0x0000 && t.pc == 0x0102 && !t.psw.s && t.psw.z && t.psw.p && t.psw.cy) = true := by
  decide

theorem test_step_shr_aw_1 :
    after { start [0xD1, 0xE8] with aw := 0x8001 }
      (fun t => t.aw == 0x4000 && t.pc == 0x0102 && t.psw.v && !t.psw.s && !t.psw.z && t.psw.p && t.psw.cy) = true := by
  decide

theorem test_step_shra_al_1 :
    after { start [0xD0, 0xF8] with aw := 0x0081, psw := { State.reset.psw with v := true } }
      (fun t => t.aw == 0x00C0 && t.pc == 0x0102 && !t.psw.v && t.psw.s && !t.psw.z && t.psw.p && t.psw.cy) = true := by
  decide

theorem test_step_rol_ah_1 :
    after { start [0xD0, 0xC4] with aw := 0x8100, psw := { State.reset.psw with z := true, s := true } }
      (fun t => t.aw == 0x0300 && t.pc == 0x0102 && t.psw.v && t.psw.s && t.psw.z && !t.psw.ac && !t.psw.p && t.psw.cy) = true := by
  decide

theorem test_step_ror_al_1 :
    after { start [0xD0, 0xC8] with aw := 0x0001 }
      (fun t => t.aw == 0x0080 && t.pc == 0x0102 && t.psw.v && !t.psw.s && !t.psw.z && !t.psw.ac && !t.psw.p && t.psw.cy) = true := by
  decide

theorem test_step_rolc_al_1 :
    after { start [0xD0, 0xD0] with aw := 0x0080, psw := { State.reset.psw with cy := false } }
      (fun t => t.aw == 0x0000 && t.pc == 0x0102 && t.psw.v && !t.psw.s && !t.psw.z && !t.psw.ac && !t.psw.p && t.psw.cy) = true := by
  decide

theorem test_step_rorc_al_1 :
    after { start [0xD0, 0xD8] with aw := 0x0001, psw := { State.reset.psw with cy := false } }
      (fun t => t.aw == 0x0000 && t.pc == 0x0102 && !t.psw.v && !t.psw.s && !t.psw.z && !t.psw.ac && !t.psw.p && t.psw.cy) = true := by
  decide

theorem test_step_call_near :
    after (start [0xE8, 0x20, 0x00])
      (fun t => t.sp == 0x00FE && t.pc == 0x0123 && reads t 0x200FE [0x03, 0x01]) = true := by
  decide

theorem test_step_ret :
    after { holding (start [0xC3]) 0x200FE [0x03, 0x01] with sp := 0x00FE }
      (fun t => t.sp == 0x0100 && t.pc == 0x0103) = true := by
  decide

theorem test_step_push_aw :
    after { start [0x50] with aw := 0x1234 }
      (fun t => t.sp == 0x00FE && t.pc == 0x0101 && reads t 0x200FE [0x34, 0x12]) = true := by
  decide

theorem test_step_pop_r :
    after { holding (start [0x61]) 0x200F0 [0x08, 0x00, 0x07, 0x00, 0x06, 0x00, 0x55, 0x55, 0x04, 0x00, 0x03, 0x00, 0x02, 0x00, 0x01, 0x00] with sp := 0x00F0 }
      (fun t => t.aw == 0x0001 && t.cw == 0x0002 && t.dw == 0x0003 && t.bw == 0x0004 && t.sp == 0x0100 && t.bp == 0x0006 && t.ix == 0x0007 && t.iy == 0x0008 && t.pc == 0x0101) = true := by
  decide

theorem test_step_prepare_10_0 :
    after { start [0xC8, 0x0A, 0x00, 0x00] with bp := 0x0200 }
      (fun t => t.sp == 0x00F4 && t.bp == 0x00FE && t.pc == 0x0104 && reads t 0x200FE [0x00, 0x02]) = true := by
  decide

theorem test_step_dispose :
    after { holding (start [0xC9]) 0x200FE [0x00, 0x02] with bp := 0x00FE, sp := 0x00EE }
      (fun t => t.sp == 0x0100 && t.bp == 0x0200 && t.pc == 0x0101) = true := by
  decide

theorem test_step_br_near :
    after (start [0xE9, 0x00, 0x10])
      (fun t => t.pc == 0x1103) = true := by
  decide

theorem test_step_bv_14 :
    after { start [0x70, 0x0E] with psw := { State.reset.psw with v := true } }
      (fun t => t.pc == 0x0110) = true := by
  decide

theorem test_step_bnv_14 :
    after { start [0x71, 0x0E] with psw := { State.reset.psw with v := true } }
      (fun t => t.pc == 0x0102) = true := by
  decide

theorem test_step_bc_14 :
    after { start [0x72, 0x0E] with psw := { State.reset.psw with cy := true } }
      (fun t => t.pc == 0x0110) = true := by
  decide

theorem test_step_bnc_14 :
    after { start [0x73, 0x0E] with psw := { State.reset.psw with cy := true } }
      (fun t => t.pc == 0x0102) = true := by
  decide

theorem test_step_be_14 :
    after { start [0x74, 0x0E] with psw := { State.reset.psw with z := true } }
      (fun t => t.pc == 0x0110) = true := by
  decide

theorem test_step_bne_14 :
    after { start [0x75, 0x0E] with psw := { State.reset.psw with z := true } }
      (fun t => t.pc == 0x0102) = true := by
  decide

theorem test_step_bnh_14 :
    after { start [0x76, 0x0E] with psw := { State.reset.psw with cy := false, z := true } }
      (fun t => t.pc == 0x0110) = true := by
  decide

theorem test_step_bh_14 :
    after { start [0x77, 0x0E] with psw := { State.reset.psw with cy := false, z := false } }
      (fun t => t.pc == 0x0110) = true := by
  decide

theorem test_step_bn_14 :
    after { start [0x78, 0x0E] with psw := { State.reset.psw with s := true } }
      (fun t => t.pc == 0x0110) = true := by
  decide

theorem test_step_bp_14 :
    after { start [0x79, 0x0E] with psw := { State.reset.psw with s := true } }
      (fun t => t.pc == 0x0102) = true := by
  decide

theorem test_step_bpe_14 :
    after { start [0x7A, 0x0E] with psw := { State.reset.psw with p := true } }
      (fun t => t.pc == 0x0110) = true := by
  decide

theorem test_step_bpo_14 :
    after { start [0x7B, 0x0E] with psw := { State.reset.psw with p := true } }
      (fun t => t.pc == 0x0102) = true := by
  decide

theorem test_step_blt_14 :
    after { start [0x7C, 0x0E] with psw := { State.reset.psw with s := true, v := false } }
      (fun t => t.pc == 0x0110) = true := by
  decide

theorem test_step_bge_14 :
    after { start [0x7D, 0x0E] with psw := { State.reset.psw with s := true, v := true } }
      (fun t => t.pc == 0x0110) = true := by
  decide

theorem test_step_ble_14 :
    after { start [0x7E, 0x0E] with psw := { State.reset.psw with s := false, v := false, z := true } }
      (fun t => t.pc == 0x0110) = true := by
  decide

theorem test_step_bgt_14 :
    after { start [0x7F, 0x0E] with psw := { State.reset.psw with s := true, v := true, z := false } }
      (fun t => t.pc == 0x0110) = true := by
  decide

theorem test_step_dbnz_18 :
    after { startAt 0x0110 [0xE2, 0xEE] with cw := 0x0005 }
      (fun t => t.cw == 0x0004 && t.pc == 0x0100) = true := by
  decide

theorem test_step_dbnzne_18 :
    after { startAt 0x0110 [0xE0, 0xEE] with cw := 0x0003, psw := { State.reset.psw with z := true } }
      (fun t => t.cw == 0x0002 && t.pc == 0x0112) = true := by
  decide

theorem test_step_dbnze_18 :
    after { startAt 0x0110 [0xE1, 0xEE] with cw := 0x0002, psw := { State.reset.psw with z := true } }
      (fun t => t.cw == 0x0001 && t.pc == 0x0100) = true := by
  decide

theorem test_step_bcwz_14 :
    after { start [0xE3, 0x0E] with cw := 0x0000 }
      (fun t => t.pc == 0x0110) = true := by
  decide

theorem test_step_brk_3 :
    after { holding (holding (holding (holding (holding (start [0xCC]) 0x00000 [0x00, 0x02, 0x00, 0x05]) 0x0000C [0x00, 0x03, 0x00, 0x08]) 0x00010 [0x00, 0x04, 0x00, 0x08]) 0x00014 [0x00, 0x05, 0x00, 0x08]) 0x00080 [0x34, 0x12, 0x00, 0x09] with psw := { State.reset.psw with ie := true, cy := true, z := true } }
      (fun t => t.sp == 0x00FA && t.ps == 0x0800 && t.pc == 0x0300 && !t.psw.ie && reads t 0x200FA [0x01, 0x01, 0x00, 0x10, 0x43, 0xF2]) = true := by
  decide

theorem test_step_brkv_v_1 :
    after { holding (holding (holding (holding (holding (start [0xCE]) 0x00000 [0x00, 0x02, 0x00, 0x05]) 0x0000C [0x00, 0x03, 0x00, 0x08]) 0x00010 [0x00, 0x04, 0x00, 0x08]) 0x00014 [0x00, 0x05, 0x00, 0x08]) 0x00080 [0x34, 0x12, 0x00, 0x09] with psw := { State.reset.psw with v := true, ie := true } }
      (fun t => t.sp == 0x00FA && t.ps == 0x0800 && t.pc == 0x0400 && !t.psw.ie && reads t 0x200FA [0x01, 0x01, 0x00, 0x10, 0x02, 0xFA]) = true := by
  decide

theorem test_step_reti :
    after { holding (start [0xCF]) 0x200FA [0x01, 0x01, 0x00, 0x10, 0x47, 0xF2] with sp := 0x00FA }
      (fun t => t.sp == 0x0100 && t.pc == 0x0101 && !t.psw.v && !t.psw.s && t.psw.z && !t.psw.ac && t.psw.p && t.psw.cy && t.psw.ie) = true := by
  decide

theorem test_step_chkind_bw_ix_in_bounds :
    after { holding (holding (holding (holding (holding (holding (start [0x62, 0x1C]) 0x00000 [0x00, 0x02, 0x00, 0x05]) 0x0000C [0x00, 0x03, 0x00, 0x08]) 0x00010 [0x00, 0x04, 0x00, 0x08]) 0x00014 [0x00, 0x05, 0x00, 0x08]) 0x00080 [0x34, 0x12, 0x00, 0x09]) 0x30010 [0x00, 0x00, 0x09, 0x00] with bw := 0x0005, ix := 0x0010 }
      (fun t => t.pc == 0x0102) = true := by
  decide

theorem test_step_di :
    after { start [0xFA] with psw := { State.reset.psw with ie := true } }
      (fun t => t.pc == 0x0101 && !t.psw.ie) = true := by
  decide

theorem test_step_ei :
    after { start [0xFB] with psw := { State.reset.psw with ie := false } }
      (fun t => t.pc == 0x0101 && t.psw.ie) = true := by
  decide

theorem test_step_nop :
    after (start [0x90])
      (fun t => t.pc == 0x0101) = true := by
  decide

theorem test_step_halt : after (start [0xF4]) (fun t => t.standby && t.pc == 0x0101) = true := by
  decide

theorem test_step_out_dw_aw :
    after { start [0xEF] with dw := 0xFEFE, aw := 0xBEEF }
      (fun t => decide (t.bus = [.cycle ⟨.ioWrite, false, false, false, none, some 0xFEFE, [0xEF, 0xBE]⟩])) = true := by
  decide

theorem test_step_rep_movbkb_suspends :
    after { holding (start [0xA4]) 0x30100 [0xAA] with prefixes := ⟨none, some .rep, false, 1⟩, cw := 2, ix := 0x0100 }
      (fun t => t.cw == 1 && t.ix == 0x0101 && reads t 0x40000 [0xAA] && decide (t.inProgress = some (.movbk .byte))) =
        true := by
  decide

theorem test_step_repe_cmpbkw_ends_on_difference :
    after { holding (start [0xA7]) 0x30000 [0x03, 0x00] with prefixes := ⟨none, some .rep, false, 1⟩, cw := 2 }
      (fun t => t.cw == 1 && !t.psw.z && decide (t.inProgress = none)) = true := by
  decide

theorem test_step_rol4_bl :
    after { start [0x0F, 0x28, 0xC3] with bw := 0x0095, aw := 0x0003 }
      (fun t => t.bw == 0x0053 && t.pc == 0x0103) = true := by
  decide

theorem test_step_nmi_after_nop :
    after { holding (start [0x90]) 0x00008 [0x00, 0x02, 0x00, 0x08] with nmiLatch := true }
      (fun t => t.pc == 0x0200 && t.ps == 0x0800 && reads t 0x200FA [0x01, 0x01, 0x00, 0x10, 0x02, 0xF0]) = true := by
  decide

theorem test_step_nmi_waits_after_segment_move :
    after { start [0x8E, 0xC0] with nmiLatch := true } (fun t => t.pc == 0x0102 && t.nmiLatch) = true := by
  decide

theorem test_step_int_waits_after_ei :
    after { start [0xFB] with inputs := [⟨false, ⟨true, 0x20, true, false⟩⟩] } (fun t => t.pc == 0x0101 && t.psw.ie) =
      true := by
  decide

theorem test_step_brk_flag_enters_vector_1 :
    after { holding (start [0x90]) 0x00004 [0x00, 0x01, 0x00, 0x08] with psw := { State.reset.psw with brk := true } }
      (fun t => t.pc == 0x0100 && t.ps == 0x0800 && !t.psw.brk && reads t 0x200FE [0x02, 0xF1]) = true := by
  decide

theorem test_step_brkem_clears_md :
    after (holding (start [0x0F, 0xFF, 0x20]) 0x00080 [0x34, 0x12, 0x00, 0x09])
      (fun t => !t.psw.md && t.mdwe && t.pc == 0x1234 && reads t 0x200FA [0x03, 0x01, 0x00, 0x10, 0x02, 0xF0]) =
        true := by
  decide

theorem test_step_divide_error_pushes_three_words :
    after { start [0xF6, 0xF1] with aw := 5, psw := { State.reset.psw with ie := true } }
      (fun t => t.sp == 0x00FA && !t.psw.ie && t.psw.md) = true := by
  decide

/-! The bus and the prefetcher: the pins of 10_state.md R56, the cycles of 20_memory.md R72, the queue of 10_state.md R32. -/

theorem test_step_odd_word_is_two_cycles :
    after { start [0xA3, 0x35, 0x12] with aw := 0xCDAB }
      (fun t => decide (t.bus =
        [.cycle ⟨.memWrite, false, false, false, some .ds0, some 0x31236, [0xCD]⟩,
          .cycle ⟨.memWrite, false, false, false, some .ds0, some 0x31235, [0xAB]⟩])) = true := by
  decide

theorem test_step_interrupt_flag_is_on_ps2 :
    after { holding (start [0xA1, 0x34, 0x12]) 0x31234 [0xAB] with psw := { State.reset.psw with ie := true } }
      (fun t => decide (t.bus = [.cycle ⟨.memRead, false, true, false, some .ds0, some 0x31234, [0xAB, 0x00]⟩])) = true := by
  decide

theorem test_step_nmi_acknowledge_is_not_on_the_bus :
    after { start [0x90] with nmiLatch := true } (fun t => decide (t.bus.length = 5)) = true := by
  decide

theorem test_prefetch_reads_a_word :
    (start [0x90, 0x40]).prefetch.queue = [0x90, 0x40] ∧ (start [0x90, 0x40]).prefetch.pfp = 0x0102 ∧
      (start [0x90, 0x40]).prefetch.fetchLog =
        [.cycle ⟨.fetch, false, false, false, some .ps, some 0x10100, [0x90, 0x40]⟩] := by
  decide

theorem test_prefetch_reads_a_byte_at_an_odd_offset :
    (startAt 0x0101 [0x90, 0x40]).prefetch.queue = [0x90] ∧
      ({ start [0x90, 0x40] with chip := .uPD70108 } : State).prefetch.queue = [0x90] := by
  decide

theorem test_prefetch_waits_for_an_empty_word :
    ({ start [] with queue := [1, 2, 3, 4, 5] } : State).prefetch = { start [] with queue := [1, 2, 3, 4, 5] } := by
  decide

theorem test_take_byte_says_so_on_the_queue_pins :
    ((start [0x90, 0x40]).takeByte .firstByte).fetchLog.head? = some (.queue .firstByte) ∧
      ((start [0x90, 0x40]).takeByte .firstByte).queue = [0x40] ∧
      ((start [0x90, 0x40]).takeByte .firstByte).pc = 0x0101 := by
  decide

theorem test_step_runs_the_queued_byte :
    after { start [0x40] with queue := [0x90], pfp := 0x0101 } (fun t => t.aw == 0 && t.pc == 0x0101) = true := by
  decide

theorem test_replay_writes_a_write_cycle :
    ((start []).replay (.cycle ⟨.memWrite, false, false, false, some .ds0, some 0x31234, [0xAB, 0xCD]⟩)).mem =
      [(0x31234, 0xAB), (0x31235, 0xCD)] := by
  decide

theorem test_registers_of_the_8080 :
    let s : State := { start [] with aw := 0x1122, bw := 0x3344, cw := 0x5566, dw := 0x7788, bp := 0x99AA }
    [Reg8080.a, .b, .c, .d, .e, .h, .l].map s.readReg8080 = [0x22, 0x55, 0x66, 0x77, 0x88, 0x33, 0x44] ∧
      s.sp8080 = 0x99AA := by
  decide

theorem test_step_poll_in_progress_goes_on :
    after { start [0x40] with inProgress := some .poll } (fun t => t.pc == 0x0100 && decide (t.inProgress = some .poll)) =
        false ∧
      after { start [0x40] with inProgress := some .poll, pins := ⟨false, 0, false, false⟩ }
        (fun t => t.pc == 0x0100 && decide (t.inProgress = some .poll)) = true := by
  decide

theorem test_step_reset_goes_to_the_reset_vector :
    after { start [0x50] with inputs := [⟨true, ⟨false, 0, true, true⟩⟩] }
      (fun t => t.ps == 0xFFFF && t.pc == 0 && t.psw.md && !t.psw.ie && !t.nmiLatch && t.pins.resetHigh) = true := by
  decide

theorem test_step_reset_held_does_nothing :
    after { start [0x50] with pins := ⟨false, 0, true, true⟩, inputs := [⟨true, ⟨true, 7, true, true⟩⟩] }
      (fun t => t.pc == 0x0100 && t.bus == [] && t.fetchLog == [] && !t.nmiLatch && t.pins.intHigh) = true := by
  decide

theorem test_pins_of_an_io_read :
    let c : BusCycle := ⟨.ioRead, false, true, true, none, some 0x41, [0x12]⟩
    c.pins .uPD70108 .smallScale = ⟨none, some true, some false, some true, none, some true, 0b01, none, none⟩ ∧
      c.pins .uPD70116 .smallScale = ⟨none, some false, some false, none, some false, some true, 0b01, none, none⟩ ∧
      c.pins .uPD70116 .largeScale = ⟨some 0b001, none, none, none, some false, some true, 0b01, none, some false⟩ := by
  decide

theorem test_step_locked_instruction_locks_its_cycles :
    after { start [0xFE, 0x06, 0x34, 0x12] with prefixes := ⟨none, none, true, 1⟩, wiring := .largeScale }
      (fun t => decide (t.bus =
        [.cycle ⟨.memWrite, false, false, true, some .ds0, some 0x31234, [0x01]⟩,
          .cycle ⟨.memRead, false, false, true, some .ds0, some 0x31234, [0x00]⟩])) = true := by
  decide

theorem test_step_int_locks_its_first_acknowledge_cycle :
    after { start [0x90] with
        pins := ⟨true, 0x20, true, false⟩, psw := { State.reset.psw with ie := true }, wiring := .largeScale }
      (fun t => decide (t.bus.reverse.take 2 =
        [.cycle ⟨.interruptAck, false, true, true, none, none, []⟩,
          .cycle ⟨.interruptAck, false, true, false, none, none, [0x20]⟩])) = true := by
  decide

theorem test_step_locked_halt_keeps_buslock_low :
    after { start [0xF4] with prefixes := ⟨none, none, true, 1⟩, wiring := .largeScale }
      (fun t => t.standby && decide (t.standbyPins =
        ⟨some 0, some 0b111, some false, none, none, none, none, none, some true⟩)) = true := by
  decide

/-! The hypotheses of the obligations can be met: one theorem for each obligation that has any, with a witness for each of
its clauses. -/

/-- A concrete input sample. -/
def quiet : Input := ⟨false, ⟨false, 0, true, false⟩⟩

/-- The same with RESET high. -/
def inReset : Input := ⟨false, ⟨false, 0, true, true⟩⟩

/-- Whether a step answers a next state. -/
def goesOn (s : State) : Bool := after s fun _ => true

theorem test_witness_ResetLeavesTheStatedValues :
    ({ start [0x90] with inputs := [inReset, quiet] } : State).inputs = inReset :: [quiet] ∧
      inReset.pins.resetHigh = true ∧ (start [0x90]).pins.resetHigh = false ∧
      (∃ u, runStep (start [0x50]) = .next u) ∧ ∀ u, runStep (start [0x63]) ≠ .next u := by
  refine ⟨by decide, rfl, rfl, ⟨_, rfl⟩, fun u h => ?_⟩
  have e : runStep (start [0x63]) = .refused .undefinedOpcode := rfl
  rw [e] at h
  cases h

theorem test_witness_ResetLeavesTheStatedValues_held :
    let s : State := { start [0x90] with pins := inReset.pins, inputs := [inReset] }
    s.pins.resetHigh = true ∧ s.resetRequested = true ∧ ({ s with inputs := [] } : State).resetRequested = true := by
  decide

theorem test_witness_EveryStepKeepsInvariant :
    ({ start [0x90] with queue := [0x90, 0x40], pfp := 0x0102 } : State).Inv ∧
      ∃ t, step { start [0x90] with queue := [0x90, 0x40], pfp := 0x0102 } = .next t := by
  refine ⟨⟨by decide, by decide, by decide, by decide, by decide, by decide, by decide, ?_, by decide, Bool.noConfusion⟩, ⟨_, rfl⟩⟩
  intro i h
  cases h

theorem test_witness_DecodingAnEncodingGivesTheInstruction :
    (Instr.retem.wellFormed = true) ∧ ((Instr.calln 0xFF).wellFormed = true) ∧
      ((Instr.addMemImm .wordS (.disp8 .bp 0x80) 0xFF80).wellFormed = true ∧
        Instr.addMemImm .wordS (.disp8 .bp 0x80) 0xFF80 ≠ .retem ∧
        ∀ v, Instr.addMemImm .wordS (.disp8 .bp 0x80) 0xFF80 ≠ .calln v) :=
  ⟨rfl, rfl, by decide, Instr.noConfusion, fun _ => Instr.noConfusion⟩

theorem test_witness_EncodingADecodedInstructionGivesItsBytes :
    decode [0x83, 0x46, 0x80, 0x80] = .ok (.addMemImm .wordS (.disp8 .bp 0x80) 0xFF80, 4) := by
  rfl

theorem test_witness_StepRunsTheInstructionAtPc_refused :
    let s := start [0x0F, 0x30]
    s.resetRequested = false ∧ s.sample.standby = false ∧ s.sample.inProgress = none ∧
      s.sample.fetched = .error .undefinedOpcode := ⟨rfl, rfl, rfl, rfl⟩

theorem test_witness_StepRunsTheInstructionAtPc_misused :
    let s : State := { start [0x40] with prefixes := ⟨none, some .rep, false, 1⟩ }
    s.resetRequested = false ∧ s.sample.standby = false ∧ s.sample.inProgress = none ∧
      s.sample.fetched = .ok (.incReg16 .alAw, 1) ∧ repeatAllowed s.sample.prefixes.rep (.incReg16 .alAw) = false :=
  ⟨rfl, rfl, rfl, rfl, rfl⟩

theorem test_witness_StepRunsTheInstructionAtPc_next :
    let s := start [0x40]
    s.resetRequested = false ∧ s.sample.standby = false ∧ s.sample.inProgress = none ∧
      s.sample.fetched = .ok (.incReg16 .alAw, 1) ∧ repeatAllowed s.sample.prefixes.rep (.incReg16 .alAw) = true ∧
      ∃ t, exec (.incReg16 .alAw) (s.sample.advance 1) = .next t := ⟨rfl, rfl, rfl, rfl, rfl, _, rfl⟩

theorem test_witness_StepRunsTheInstructionAtPc_nested :
    let s : State := { start [0x0F, 0xFF, 0x20] with mdwe := true }
    s.resetRequested = false ∧ s.sample.standby = false ∧ s.sample.inProgress = none ∧
      s.sample.fetched = .ok (.brkem 0x20, 3) ∧ repeatAllowed s.sample.prefixes.rep (.brkem 0x20) = true ∧
      exec (.brkem 0x20) (s.sample.advance 3) = .refused .nestedBrkem := ⟨rfl, rfl, rfl, rfl, rfl, rfl⟩

theorem test_witness_StepRunsTheInstructionAtPc_in_progress :
    let s : State :=
      { start [0xA4] with prefixes := ⟨none, some .rep, false, 1⟩, cw := 2, inProgress := some (.movbk .byte) }
    s.resetRequested = false ∧ s.sample.standby = false ∧ s.sample.inProgress = some (.movbk .byte) ∧
      ∃ t, exec (.movbk .byte) { s.sample with inProgress := none } = .next t := ⟨rfl, rfl, rfl, _, rfl⟩

theorem test_witness_StepRunsTheEncodedInstruction :
    let s : State :=
      { start [0x00, 0x46, 0x80, 0x80] with
        queue := [0x83], pfp := 0x0101, inputs := [quiet, quiet], seen := [0x83, 0x46] }
    let i := Instr.addMemImm .wordS (.disp8 .bp 0x80) 0xFF80
    i.wellFormed = true ∧ s.psw.md = true ∧ i ≠ .retem ∧ (∀ v, i ≠ .calln v) ∧ s.resetRequested = false ∧
      s.standby = false ∧ s.inProgress = none ∧ s.pfp = s.pc + BitVec.ofNat 16 s.queue.length ∧
      s.queue.length ≤ s.chip.queueBytes ∧
      (encode i = [0x83, 0x46, 0x80, 0x80] ∧ s.InstructionByteIs 0 0x83 ∧ s.InstructionByteIs 1 0x46 ∧
        s.InstructionByteIs 2 0x80 ∧ s.InstructionByteIs 3 0x80) ∧
      repeatAllowed s.prefixes.rep i = true ∧ ∃ t, exec i (s.sample.advance (encode i).length) = .next t :=
  ⟨rfl, rfl, Instr.noConfusion, fun _ => Instr.noConfusion, rfl, rfl, rfl, rfl, by decide,
    ⟨rfl, rfl, ⟨by decide, rfl, by decide⟩, ⟨by decide, rfl, by decide⟩, by decide, rfl, by decide⟩, rfl, _, rfl⟩

theorem test_witness_StepRunsTheEncodedInstruction_emulation :
    let s : State := { start [0xED, 0xFD] with psw := { State.reset.psw with md := false }, mdwe := true }
    Instr.retem.wellFormed = true ∧ s.psw.md = false ∧ s.InstructionByteIs 0 0xED ∧ s.InstructionByteIs 1 0xFD ∧
      ∃ t, exec .retem (s.sample.advance (encode .retem).length) = .next t :=
  ⟨rfl, rfl, ⟨by decide, rfl, by decide⟩, ⟨by decide, rfl, by decide⟩, _, rfl⟩

theorem test_witness_StepRunsTheEncodedInstruction_prefetch :
    (({ start [] with queue := [1, 2, 3, 4] } : State).queue.length + 2 ≤ 6) ∧
      ¬ ({ start [] with queue := [1, 2, 3, 4, 5] } : State).queue.length + 2 ≤ 6 ∧
      ({ start [] with chip := .uPD70108, queue := [1, 2, 3] } : State).queue.length + 1 ≤ 4 := by
  decide

theorem test_witness_WordsInMemoryAreLittleEndian_cycles :
    (start []).chip = .uPD70116 ∧ ({ start [] with chip := .uPD70108 } : State).chip = .uPD70108 ∧
      byteAddr 0x3000 0x0010 0 % 2 = 0 ∧ byteAddr 0x3000 0x0011 0 % 2 = 1 ∧ CycleKind.memRead ≠ .interruptAck := by
  decide

theorem test_witness_WordsInMemoryAreLittleEndian :
    ((0xFFFE : Word) ≠ 0xFFFF) ∧ ((0xFFFF : Word) = 0xFFFF) ∧
      kindAt (start []).platform (byteAddr 0x3000 0xFFFE 0) = .ram ∧
      kindAt (start []).platform (byteAddr 0x3000 0xFFFE 1) = .ram := by
  decide

theorem test_witness_ExchangesComplete :
    (Reg.clCw ≠ .alAw ∧ Reg.clCw ≠ .ahSp) ∧ Width.byte = .byte := by
  decide

theorem test_witness_PrefixesTakeForce :
    (start []).prefixes.rep = none ∧ (start []).prefixes.seg = none ∧ (start []).prefixes.buslock = false ∧
      (⟨some .ss, some .rep, true, 3⟩ : Prefixes).rep ≠ none ∧ (⟨some .ss, some .rep, true, 3⟩ : Prefixes).seg ≠ none ∧
      (⟨some .ss, some .rep, true, 3⟩ : Prefixes).buslock = true ∧
      (start []).wiring = .smallScale ∧ ({ start [] with wiring := .largeScale } : State).wiring = .largeScale := by
  decide

theorem test_witness_BlockElementsComplete :
    ({ start [0xA4] with prefixes := ⟨some .ss, none, false, 1⟩ } : State).prefixes.rep = none := by
  decide

theorem test_witness_RepeatedBlockInstructionsComplete :
    let s : State := { start [0xA6] with prefixes := ⟨none, some .repnc, false, 1⟩, cw := 1 }
    s.prefixes.rep = some .repnc ∧ s.cw ≠ 0 ∧ { s with cw := 0 }.cw = 0 ∧
      Instr.cmpbk .byte ∈ [Instr.movbk .byte, .cmpbk .byte, .cmpm .byte, .ldm .byte, .stm .byte, .inm .byte, .outm .byte] :=
  ⟨rfl, by decide, rfl, .tail _ (.head _)⟩

theorem test_witness_RepeatedBlockInstructionsComplete_ends :
    let s : State := { holding (start [0xA6]) 0x40000 [0x01] with prefixes := ⟨none, some .repnc, false, 1⟩, cw := 1 }
    (match exec (.cmpbk .byte) { s with prefixes := { s.prefixes with rep := none } } with
      | .next e => e.psw.cy
      | .fault _ => false
      | .refused _ => false) = true := by
  decide

theorem test_witness_InsertBitFieldCompletes :
    (({ start [] with cw := 0x000F } : State).readReg8 .clCw).toNat < 16 ∧
      (({ start [] with dw := 0x0000 } : State).readReg8 .dlDw).toNat < 16 := by
  decide

theorem test_witness_ExtractBitFieldCompletes :
    (Reg.clCw ≠ .alAw ∧ Reg.clCw ≠ .ahSp) ∧ Reg.alAw = .alAw ∧ Reg.ahSp = .ahSp := by
  decide

theorem test_witness_BranchesAfterCompareDecideOrder :
    ∃ t, exec (.cmpRegReg .byte .alAw .blBw) { start [] with aw := 0x80, bw := 0x7F } = .next t := ⟨_, rfl⟩

theorem test_witness_ShiftsByCountComplete :
    (({ start [] with cw := 0 } : State).readReg8 .clCw).toNat = 0 ∧
      (({ start [] with cw := 0xFF } : State).readReg8 .clCw).toNat ≠ 0 := by
  decide

theorem test_witness_DivisionsComplete_divu :
    ({ start [] with aw := 0xFE01, cw := 0xFF } : State).aw.toNat <
        256 * (({ start [] with aw := 0xFE01, cw := 0xFF } : State).readReg8 .clCw).toNat ∧
      ((0x0001 : Word) ++ (0xFFFF : Word)).toNat < 65536 * (2 : Word).toNat := by
  decide

theorem test_witness_DivisionsComplete_div :
    (0xFF81 : Word).toInt.natAbs < 128 * (1 : Byte).toInt.natAbs ∧
      ((0xFFFF : Word) ++ (0x8001 : Word)).toInt.natAbs < 32768 * (1 : Word).toInt.natAbs := by
  decide

theorem test_witness_DivideErrorsEnterVectorZero :
    ((0 : Byte) = 0 ∧ 256 * (1 : Byte).toNat ≤ (0x0100 : Word).toNat) ∧
      65536 * (2 : Word).toNat ≤ ((0x0002 : Word) ++ (0x0000 : Word)).toNat ∧
      128 * (1 : Byte).toInt.natAbs ≤ (0xFF80 : Word).toInt.natAbs ∧
      32768 * (1 : Word).toInt.natAbs ≤ ((0xFFFF : Word) ++ (0x8000 : Word)).toInt.natAbs := by
  decide

theorem test_witness_PackedAdjustsCorrectDecimalResults_add :
    let s : State := { start [] with aw := 0x0099, psw := { State.reset.psw with cy := true } }
    (99 < 100 ∧ 0 < 100 ∧ (s.readReg8 .alAw).toNat = 99 / 10 * 16 + 99 % 10 ∧ (0 : Word).toNat = 0 / 10 * 16 + 0 % 10) ∧
      ∃ u t, exec (.addcAccImm .byte 0) s = .next u ∧ exec .adj4a u = .next t := ⟨by decide, _, _, rfl, rfl⟩

theorem test_witness_PackedAdjustsCorrectDecimalResults_sub :
    let s : State := { start [] with aw := 0x0000, psw := { State.reset.psw with cy := true } }
    (0 < 100 ∧ 99 < 100 ∧ (s.readReg8 .alAw).toNat = 0 / 10 * 16 + 0 % 10 ∧
        (0x99 : Word).toNat = 99 / 10 * 16 + 99 % 10) ∧
      ∃ u t, exec (.subcAccImm .byte 0x99) s = .next u ∧ exec .adj4s u = .next t := ⟨by decide, _, _, rfl, rfl⟩

theorem test_witness_NibbleRotatesComplete : Reg.ahSp ≠ .alAw ∧ Reg.blBw ≠ .ahSp := by
  decide

theorem test_witness_BcdStringsComplete :
    (1 ≤ (({ start [] with cw := 254 } : State).readReg8 .clCw).toNat ∧
        (({ start [] with cw := 254 } : State).readReg8 .clCw).toNat ≤ 254) ∧
      1 ≤ (({ start [] with cw := 1 } : State).readReg8 .clCw).toNat := by
  decide

theorem test_witness_BcdStringsAddAndSubtractNumbers :
    let s : State :=
      { holding (holding (start []) 0x30010 [0x99, 0x09]) 0x40020 [0x01, 0x90] with cw := 4, ix := 0x0010, iy := 0x0020 }
    let odd : State := { s with cw := 3 }
    ((s.readReg8 .clCw).toNat = 4 ∧ 4 % 2 = 0) ∧ ((odd.readReg8 .clCw).toNat = 3 ∧ 3 % 2 = 1 ∧ (3 + 1) / 2 = 2) ∧
      ∀ k, k < (4 + 1) / 2 →
        isDecimal (s.load .byte s.dataSeg (s.ix + BitVec.ofNat 16 k)) = true ∧
        isDecimal (s.load .byte s.ds1 (s.iy + BitVec.ofNat 16 k)) = true ∧
        kindAt s.platform (byteAddr s.ds1 (s.iy + BitVec.ofNat 16 k) 0) = .ram ∧
        kindAt s.platform (byteAddr s.dataSeg (s.ix + BitVec.ofNat 16 k) 0) ≠ .device ∧
        ∀ j, j < (4 + 1) / 2 →
          byteAddr s.dataSeg (s.ix + BitVec.ofNat 16 k) 0 ≠ byteAddr s.ds1 (s.iy + BitVec.ofNat 16 j) 0 := by
  decide

theorem test_witness_CallsComplete : Reg.clCw ≠ .ahSp ∧ Reg.ahSp = .ahSp := by
  decide

theorem test_witness_PushesComplete : Reg.alAw ≠ .ahSp ∧ Reg.ahSp = .ahSp := by
  decide

theorem test_witness_PopsComplete : (Reg.bhIy ≠ .ahSp ∧ Reg.ahSp = .ahSp) ∧ SReg.ds0 ≠ .ds1 := by
  decide

theorem test_witness_StackFramesComplete :
    let s : State := { start [] with bp := 0x0100, platform := [⟨0x20080, 2, .rom⟩] }
    (storedAt (s.cellsOfStores (stackStores s.sp [s.bp])) (byteAddr s.ss (s.bp - 2) 0) = some 0x00 ∧
        storedAt (s.cellsOfStores (stackStores s.sp [s.bp])) (byteAddr s.ss (s.bp - 2) 1) = some 0x01) ∧
      kindAt s.platform (byteAddr s.ss (s.bp - 2) 1) = .ram ∧ kindAt s.platform (byteAddr s.ss 0x0080 0) = .rom := by
  decide

theorem test_witness_BreakInstructionsEnterTheirVectors :
    let s : State := { holding (start []) 0x30010 [0x00, 0x00, 0x09, 0x00] with ix := 0x0010 }
    let bound (k : Nat) : Word :=
      s.readByte (byteAddr (s.memSeg (.based .ix)) (s.ea (.based .ix)) (k + 1)) ++
        s.readByte (byteAddr (s.memSeg (.based .ix)) (s.ea (.based .ix)) k)
    (({ s with bw := 0xFFFF }.readReg16 .blBw).toInt < (bound 0).toInt) ∧
      ((bound 2).toInt < ({ s with bw := 0x000A }.readReg16 .blBw).toInt) ∧
      ((bound 0).toInt ≤ ({ s with bw := 0x0009 }.readReg16 .blBw).toInt ∧
        ({ s with bw := 0x0009 }.readReg16 .blBw).toInt ≤ (bound 2).toInt) ∧
      ({ State.reset.psw with v := true } : Psw).v = true ∧ s.psw.v = false := by
  decide

theorem test_witness_ReturnUndoesInterruptEntry :
    ((start []).psw.md = true ∨ (start []).mdwe = true) ∧
      ∀ k, k < 3 → ∀ b, b < 2 →
        kindAt (start []).platform (byteAddr (start []).ss ((start []).sp - BitVec.ofNat 16 (2 * (k + 1))) b) = .ram := by
  decide

theorem test_witness_ModeCallsComplete :
    (start []).mdwe = false ∧ ({ start [] with mdwe := true } : State).mdwe = true := by
  decide

theorem test_witness_ModeChangesAreTheListedOnes_leaving :
    let s := start [0x0F, 0xFF, 0x20]
    s.Inv ∧ s.psw.md = true ∧ s.mdwe = false ∧ after s (fun t => !t.psw.md && t.mdwe) = true := by
  refine ⟨⟨by decide, by decide, by decide, by decide, by decide, by decide, by decide, ?_, by decide, Bool.noConfusion⟩, rfl, rfl, by decide⟩
  intro i h
  cases h

theorem test_witness_ModeChangesAreTheListedOnes_returning :
    let s : State := { start [0xED, 0xED, 0x20] with psw := { State.reset.psw with md := false }, mdwe := true }
    s.Inv ∧ s.psw.md = false ∧ s.inProgress = none ∧ after s (fun t => t.psw.md) = true := by
  refine ⟨⟨by decide, by decide, by decide, by decide, by decide, by decide, by decide, ?_, by decide, Bool.noConfusion⟩, rfl, rfl, by decide⟩
  intro i h
  cases h

theorem test_witness_BoundaryTakesInterruptsByPriority :
    (({ start [] with window := .sreg } : State).window = .sreg) ∧
      (({ start [] with nmiLatch := true } : State).window ≠ .sreg ∧
        ({ start [] with nmiLatch := true } : State).nmiLatch = true) ∧
      ((start []).window = .none ∧ (start []).nmiLatch = false ∧ (⟨true, 0x20, true, false⟩ : Pins).intHigh = true ∧
        ({ State.reset.psw with ie := true } : Psw).ie = true) ∧
      (({ start [] with window := .ei } : State).window ≠ .sreg ∧
        ({ start [] with window := .ei } : State).window = .ei) := by
  decide

theorem test_witness_RepeatLoopsAreInterruptedBetweenElements :
    ({ start [] with nmiLatch := true } : State).nmiLatch = true ∧
      ((start []).nmiLatch = false ∧ (⟨true, 0x20, true, false⟩ : Pins).intHigh = true ∧
        ({ State.reset.psw with ie := true } : Psw).ie = true) ∧ (start []).pins.intHigh = false := by
  decide

theorem test_witness_StandbyEndsByInterrupt :
    let s : State := { start [] with standby := true, inputs := [{ quiet with nmiEdge := true }] }
    let t : State := { start [] with standby := true, inputs := [{ quiet with pins := ⟨true, 0x20, true, false⟩ }] }
    (s.standby = true ∧ s.resetRequested = false ∧ s.sample.nmiLatch = true) ∧
      (t.standby = true ∧ t.resetRequested = false ∧ t.sample.nmiLatch = false ∧ t.sample.pins.intHigh = true ∧
        t.psw.ie = false ∧ ({ t with psw := { t.psw with ie := true } } : State).psw.ie = true) ∧
      (({ t with inputs := [quiet] } : State).sample.nmiLatch = false ∧
        ({ t with inputs := [quiet] } : State).sample.pins.intHigh = false) ∧
      (t.wiring = .smallScale ∧ ({ t with wiring := .largeScale } : State).wiring = .largeScale ∧
        t.chip = .uPD70116) := by
  decide

theorem test_witness_CpuControlInstructionsComplete :
    (start []).pins.pollLow = true ∧ (⟨false, 0, false, false⟩ : Pins).pollLow = false := by
  decide

end Sys2Proof.Tests

end
end

section

/-! The values of the state: registers, the image of the PSW, the state after reset. -/

namespace Sys2Proof.Machine

/-- The bits of the image of a PSW, the lowest first (10_state.md R33, R34). -/
def Psw.bits (p : Psw) : List Bool :=
  [p.cy, true, p.p, false, p.ac, false, p.z, p.s, p.brk, p.ie, p.dir, p.v, true, true, true, p.md]

/-- Each bit of the image of a PSW: the flags at their places, the six other bits fixed. -/
theorem Psw.getLsbD_image (p : Psw) {k : Nat} (hk : k < 16) : p.image.getLsbD k = p.bits.getD k false := by
  have widths : p.image.getLsbD k =
      BitVec.getLsbD (w := 1 + 3 + 1 + 1 + 1 + 1 + 1 + 1 + 1 + 1 + 1 + 1 + 1 + 1) p.image k := rfl
  rw [widths, Psw.image]
  simp only [BitVec.getLsbD_append, BitVec.getLsbD_ofBool, Psw.bits]
  match k, hk with
  | 0, _ | 1, _ | 2, _ | 3, _ | 4, _ | 5, _ | 6, _ | 7, _ => rfl
  | 8, _ | 9, _ | 10, _ | 11, _ | 12, _ | 13, _ | 14, _ | 15, _ => rfl
  | n + 16, h => exact absurd h (Nat.not_lt.mpr (Nat.le_add_left 16 n))

/-- The flags read back from an image are those stored in it. -/
theorem Psw.ofImage_image (p : Psw) : Psw.ofImage p.image = p := by
  simp only [Psw.ofImage, Psw.getLsbD_image, Nat.reduceLT]
  rfl

/-- Settles O47: each clause is the bit of the image at its place. -/
theorem statusWordImage : Obligations.StatusWordImage := by
  intro p
  have bit {k : Nat} (hk : k < 16) := p.getLsbD_image hk
  refine ⟨bit ?_, bit ?_, bit ?_, bit ?_, bit ?_, bit ?_, bit ?_, bit ?_, bit ?_, bit ?_, bit ?_, bit ?_, bit ?_,
    bit ?_, bit ?_, bit ?_, p.ofImage_image⟩
  all_goals decide

/-- Settles O10, by the frame of a register write and the halves of a word. -/
theorem registersHoldWhatIsWritten : Obligations.RegistersHoldWhatIsWritten := by
  intro s w r v
  obtain ⟨others, memory, rest⟩ := State.writeReg_frame s w r v
  exact ⟨State.readReg_writeReg s w r v, others, memory, State.writeReg_psw s w r v, rest,
    (halves_append s.aw).symm, (halves_append s.bw).symm, (halves_append s.cw).symm, (halves_append s.dw).symm⟩

/-- Settles O2. -/
theorem resetSatisfiesInvariant : Obligations.ResetSatisfiesInvariant where
  memory := State.reset_mem_wf
  prefetch := rfl
  queue := Nat.zero_le _
  seen := Nat.zero_le _
  prefixes := rfl
  window := rfl
  armed := Bool.noConfusion
  progress := fun _ h => nomatch h
  standby := Bool.noConfusion
  held := Bool.noConfusion

end Sys2Proof.Machine

end

section

/-! The step: its parts, and what reset does. -/

namespace Sys2Proof.Machine

/-- With RESET high the step is the reset step. -/
theorem step_of_reset {s : State} (h : s.resetRequested = true) : step s = .next (s.resetStep (runStep s)) := if_pos h

/-- With RESET low the step is what the sampled state does. -/
theorem step_of_noReset {s : State} (h : s.resetRequested = false) : step s = runStep s.sample :=
  if_neg (by rw [h]; exact Bool.false_ne_true)

/-- The sample of the first input. -/
theorem State.sample_cons {s : State} {i : Input} {rest : List Input} (h : s.inputs = i :: rest) :
    s.sample = { s with inputs := rest, pins := i.pins, nmiLatch := s.nmiLatch || i.nmiEdge } := by
  unfold State.sample
  rw [h]

/-- The state that a rise of RESET leaves: that of the reset of the cut step, sampled, with a free-value
index of its own. -/
theorem State.resetStep_cons {s : State} {i : Input} {rest : List Input} (o : Host.Outcome State Fault Refusal)
    (h : s.inputs = i :: rest) (hlow : s.pins.resetHigh = false) :
    s.resetStep o =
      State.nextDraw (State.resetEvent (State.nextDraw
        { s.cutShort o with inputs := rest, pins := i.pins, nmiLatch := s.nmiLatch || i.nmiEdge })) := by
  have inputs : (s.cutShort o).inputs = i :: rest := by rw [State.cutShort_eq]; exact h
  have latch : (s.cutShort o).nmiLatch = s.nmiLatch := by rw [State.cutShort_eq]
  rw [State.resetStep_rises o hlow, State.sample_cons inputs, latch]

/-- An answered step cut short: the first of its bus cycles have happened. -/
theorem State.cutShort_next (s u : State) : ∃ n,
    let made := (newEvents s.bus u.bus).take n
    (s.cutShort (.next u)).mem = (made.foldl State.replay s).mem ∧
      (s.cutShort (.next u)).bus = made.reverse ++ s.bus :=
  ⟨_, rfl, rfl⟩

/-- A step that answers no state, cut short, has done nothing. -/
theorem State.cutShort_of_not_next {s : State} {o : Host.Outcome State Fault Refusal} (h : ∀ u, o ≠ .next u) :
    s.cutShort o = s := by
  cases o with
  | next u => exact absurd rfl (h u)
  | fault _ => rfl
  | refused _ => rfl

/-- The next free values leave what a reset left. -/
theorem State.AtReset.nextDraw {s : State} (h : s.AtReset) : s.nextDraw.AtReset :=
  ⟨h.segments, h.counters, h.control, h.queue, h.interrupts, h.running⟩

/-- Settles O1: a rise of RESET is a reset of the cut step, and RESET held leaves all but the pins. -/
theorem resetLeavesTheStatedValues : Obligations.ResetLeavesTheStatedValues := by
  refine ⟨⟨⟨rfl, rfl, rfl, rfl⟩, ⟨rfl, rfl⟩, ⟨rfl, rfl, rfl, rfl⟩, ⟨rfl, rfl⟩, ⟨rfl, rfl, rfl, rfl⟩, rfl, rfl, rfl, rfl⟩,
    ?_, ?_⟩
  · intro s i rest hin hhigh hlow
    have requested : s.resetRequested = true := by rw [State.resetRequested, State.sample_cons hin]; exact hhigh
    obtain ⟨mem, bus, log, cut⟩ :
        ∃ mem bus log, s.cutShort (runStep s) = { s with mem := mem, bus := bus, fetchLog := log } :=
      ⟨_, _, _, State.cutShort_eq s (runStep s)⟩
    have answer := (step_of_reset requested).trans (congrArg _ (State.resetStep_cons (runStep s) hin hlow))
    rw [cut] at answer
    refine ⟨_, answer, (State.resetEvent_atReset _).nextDraw, rfl, rfl, rfl, rfl, rfl, rfl, rfl, rfl,
      fun u hu => ?_, fun hno => ?_⟩
    · obtain ⟨n, hmem, hbus⟩ := State.cutShort_next s u
      rw [← hu, cut] at hmem hbus
      exact ⟨n, hmem, hbus⟩
    · rw [State.cutShort_of_not_next hno] at cut
      exact ⟨(congrArg State.mem cut).symm, (congrArg State.bus cut).symm⟩
  · intro s hheld hr
    rw [step_of_reset hr, State.resetStep_held _ hheld, State.sample_eq]

/-- The end of an answered step. -/
theorem finishStep_next (i : Instr) (t : State) : finishStep i (.next t) = .next (t.finish i).nextDraw := rfl

/-- What follows the meaning of an instruction that is no prefix byte, by what is in progress. -/
theorem State.finish_eq (t : State) (i : Instr) :
    t.finish i =
      if isPrefix i then t
      else
        match t.inProgress with
        | none => t.boundary
        | some j => if j = .poll then t else t.loopBoundary := by
  rcases t.finish_cases i with
    ⟨hp, h⟩ | ⟨hp, hj, h⟩ | ⟨hp, hj, h⟩ | ⟨hp, ⟨j, hj, hne⟩, h⟩ <;> rw [h, hp]
  · rfl
  · rw [hj]; rfl
  · rw [hj]; rfl
  · rw [hj]; simp [hne]

/-- With nothing in progress the step fetches. -/
theorem runStep_fetch {s : State} (hs : s.standby = false) (hp : s.inProgress = none) : runStep s = fetchStep s := by
  simp [runStep, hs, hp]

/-- With an instruction in progress the step is its next pass. -/
theorem runStep_progress {s : State} {i : Instr} (hs : s.standby = false) (hp : s.inProgress = some i) :
    runStep s = finishStep i (exec i { s with inProgress := none }) := by
  simp [runStep, hs, hp]

/-- Bytes that are no instruction are refused. -/
theorem fetchStep_error {s : State} {e : DecodeError} (h : s.fetched = .error e) :
    fetchStep s = .refused (refusalOf e) := by
  simp [fetchStep, h]

/-- The fetched instruction is executed past its bytes, unless the repeat prefix in force forbids it. -/
theorem fetchStep_ok {s : State} {i : Instr} {n : Nat} (h : s.fetched = .ok (i, n)) :
    fetchStep s =
      if repeatAllowed s.prefixes.rep i then finishStep i (exec i (s.advance n)) else .refused .repPrefixMisuse := by
  simp [fetchStep, h]

/-- Settles O8: the step is the fetch or the next pass of the instruction in progress, and its end is `finish`. -/
theorem stepRunsTheInstructionAtPc : Obligations.StepRunsTheInstructionAtPc := by
  intro s hr hs runs
  have hstep := step_of_noReset hr
  have runs_of {i : Instr} {u : State} (h : step s = finishStep i (exec i u)) : runs i u := by
    refine ⟨fun t ht => ?_, fun r hr => ?_⟩
    · rw [h, ht, finishStep_next, State.finish_eq]
      cases isPrefix i
      · cases t.inProgress with
        | none => rfl
        | some j => by_cases hj : j = .poll <;> simp [hj]
      · rfl
    · rw [h, hr]; rfl
  refine ⟨fun hidle => ?_, fun i hi => runs_of (hstep.trans (runStep_progress hs hi))⟩
  rw [runStep_fetch hs hidle] at hstep
  refine ⟨fun e he => hstep.trans (fetchStep_error he), fun i n hf => ?_⟩
  rw [fetchStep_ok hf] at hstep
  exact ⟨fun hno => hstep.trans (if_neg (by rw [hno]; exact Bool.false_ne_true)),
    fun hyes => runs_of (hstep.trans (if_pos hyes))⟩

end Sys2Proof.Machine

end

section

/-! Decoding an encoding gives the instruction. -/

namespace Sys2Proof

/-- The form reads the bytes, at most `n` of them, as the instruction, whatever follows them. -/
structure Form.Reads (f : Form) (n : Nat) (bs : List Byte) (i : Instr) : Prop where
  length : bs.length ≤ n
  reads : ∀ rest, f (bs ++ rest) = .ok (i, bs.length)

/-- The form of the opcode map for a first byte, if the map has one. -/
noncomputable def opcodeEntry (b : Byte) : Option Form :=
  (opcodeMap[b.toNat / 16]?).bind fun row => row[b.toNat % 16]?

/-- A byte that the map has is read by its entry. -/
theorem opcodeForm_eq_of_entry {b : Byte} {f : Form} (h : opcodeEntry b = some f) : opcodeForm b = f := by
  obtain ⟨row, hrow, hf⟩ := Option.bind_eq_some_iff.mp h
  simp [opcodeForm, hrow, hf]

/-- Bytes that native decoding reads as the instruction. -/
structure Decodes (bs : List Byte) (i : Instr) : Prop where
  length : bs.length ≤ Machine.maxLength
  decode : ∀ rest, decode (bs ++ rest) = .ok (i, bs.length)

namespace Form.Reads
variable {n : Nat} {bs : List Byte} {i : Instr}

theorem one : (one i).Reads n [] i := ⟨Nat.zero_le n, fun _ => rfl⟩

theorem withByte {f : Byte → Instr} {b : Byte} : (withByte f).Reads (n + 1) [b] (f b) :=
  ⟨Nat.le_add_left 1 n, fun _ => rfl⟩

theorem withWord {f : Word → Instr} {v : Word} : (withWord f).Reads (n + 2) (encodeWord v) (f v) :=
  ⟨Nat.le_add_left 2 n, fun rest => by rw [Sys2Proof.withWord, wordAt_encodeWord]; rfl⟩

theorem withFar {f : Word → Word → Instr} {off seg : Word} :
    (withFar f).Reads (n + 4) (encodeWord off ++ encodeWord seg) (f off seg) :=
  ⟨Nat.le_add_left 4 n, fun rest => by
    have hseg : wordAt (encodeWord off ++ (encodeWord seg ++ rest)) 2 = seg := wordAt_encodeWord seg rest
    rw [Sys2Proof.withFar, List.append_assoc, wordAt_encodeWord, hseg]; rfl⟩

theorem withImm {w : Width} {f : Word → Instr} {imm : Word} (h : w.immFits imm = true) :
    (withImm w f).Reads (n + 2) (encodeImm w imm) (f imm) :=
  ⟨Nat.le_trans (encodeImm_length w imm).2 (Nat.le_add_left 2 n), fun rest => withImm_encodeImm w f imm rest h⟩

theorem withSized {z : ImmSize} {f : Word → Instr} {imm : Word} (h : z.immFits imm = true) :
    (withSized z f).Reads (n + 2) (z.encode imm) (f imm) :=
  ⟨Nat.le_trans (z.encode_length imm).2 (Nat.le_add_left 2 n), fun rest => withSized_encode z f imm rest h⟩

/-- The register form of an addressing byte, and what the operand and the field say follows. -/
theorem withRm_reg {k : BitVec 3 → Operand → Form} {field : BitVec 3} {r : Reg}
    (h : (k field (.reg r)).Reads n bs i) : (withRm k).Reads (n + 1) (modrm 3 field r.code :: bs) i :=
  ⟨Nat.succ_le_succ h.length, fun rest => by
    rw [List.cons_append, Sys2Proof.withRm_reg, h.reads]; rfl⟩

/-- The memory form of an addressing byte, and what follows its displacement. -/
theorem withRm_memTail {k : BitVec 3 → Operand → Form} {field : BitVec 3} {m : MemOp} (hm : m.wellFormed = true)
    (h : (k field (.mem m)).Reads n bs i) : (withRm k).Reads (n + 3) (encodeMem field m ++ bs) i where
  length := by
    have := (encodeMem_length field m).2
    have := h.length
    rw [List.length_append]
    omega
  reads rest := by
    rw [List.append_assoc, Sys2Proof.withRm_mem _ _ _ _ hm, h.reads, List.length_append, Nat.add_comm]; rfl

/-- The memory form of an addressing byte, with nothing after its displacement. -/
theorem withRm_mem {k : BitVec 3 → Operand → Form} {field : BitVec 3} {m : MemOp} (hm : m.wellFormed = true)
    (h : (k field (.mem m)).Reads n [] i) : (withRm k).Reads (n + 3) (encodeMem field m) i := by
  simpa using withRm_memTail hm h

/-- A register in bits 5-3 and a register operand. -/
theorem regRm_reg {onReg : Reg → Reg → Instr} {onMem : Reg → MemOp → Instr} {d q : Reg} :
    (regRm onReg onMem).Reads (n + 1) [modrm 3 d.code q.code] (onReg d q) :=
  withRm_reg (by simpa using one)

/-- A register in bits 5-3 and a memory operand. -/
theorem regRm_mem {onReg : Reg → Reg → Instr} {onMem : Reg → MemOp → Instr} {r : Reg} {m : MemOp}
    (hm : m.wellFormed = true) : (regRm onReg onMem).Reads (n + 3) (encodeMem r.code m) (onMem r m) :=
  withRm_mem hm (by simpa using one)

/-- The second opcode byte of the 0FH group, and what its form reads. -/
theorem extended {b : Byte} {f : Form} (hb : extendedForm b = f) (h : f.Reads n bs i) :
    extendedGroup.Reads (n + 1) (b :: bs) i :=
  ⟨Nat.succ_le_succ h.length, fun rest => by
    change Decoded.longer 1 (extendedForm b (bs ++ rest)) = _
    rw [hb, h.reads]; rfl⟩

/-- A register operand whose addressing byte has the field 0. -/
theorem withRm0_reg {onReg : Reg → Form} {onMem : MemOp → Form} {r : Reg} (h : (onReg r).Reads n bs i) :
    (withRm0 onReg onMem).Reads (n + 1) (modrm 3 0 r.code :: bs) i := by
  unfold withRm0
  exact withRm_reg h

/-- A memory operand whose addressing byte has the field 0. -/
theorem withRm0_mem {onReg : Reg → Form} {onMem : MemOp → Form} {m : MemOp} (hm : m.wellFormed = true)
    (h : (onMem m).Reads n bs i) : (withRm0 onReg onMem).Reads (n + 3) (encodeMem 0 m ++ bs) i := by
  unfold withRm0
  exact withRm_memTail hm h

theorem bitForm_reg {onReg : Reg → Instr} {onMem : MemOp → Instr} {r : Reg} :
    (bitForm onReg onMem).Reads (n + 1) [modrm 3 0 r.code] (onReg r) := by
  unfold bitForm
  exact withRm0_reg one

theorem bitForm_mem {onReg : Reg → Instr} {onMem : MemOp → Instr} {m : MemOp} (hm : m.wellFormed = true) :
    (bitForm onReg onMem).Reads (n + 3) (encodeMem 0 m) (onMem m) := by
  unfold bitForm
  rw [← List.append_nil (encodeMem 0 m)]
  exact withRm0_mem hm one

theorem bitImmForm_reg {onReg : Reg → Byte → Instr} {onMem : MemOp → Byte → Instr} {r : Reg} {imm : Byte} :
    (bitImmForm onReg onMem).Reads (n + 2) [modrm 3 0 r.code, imm] (onReg r imm) := by
  unfold bitImmForm
  exact withRm0_reg withByte

theorem bitImmForm_mem {onReg : Reg → Byte → Instr} {onMem : MemOp → Byte → Instr} {m : MemOp} {imm : Byte}
    (hm : m.wellFormed = true) :
    (bitImmForm onReg onMem).Reads (n + 4) (encodeMem 0 m ++ [imm]) (onMem m imm) := by
  unfold bitImmForm
  exact withRm0_mem hm withByte

theorem prepareForm {size : Word} {depth : Byte} :
    prepareForm.Reads (n + 3) (encodeWord size ++ [depth]) (.prepare size depth) :=
  ⟨Nat.le_add_left 3 n, fun rest => by
    rw [Sys2Proof.prepareForm, List.append_assoc, wordAt_encodeWord]; rfl⟩

theorem with0AH : (with0AH i).Reads (n + 1) [0x0A] i := ⟨Nat.le_add_left 1 n, fun _ => rfl⟩

theorem regMem {onMem : Reg → MemOp → Instr} {r : Reg} {m : MemOp} (hm : m.wellFormed = true) :
    (regMem onMem).Reads (n + 3) (encodeMem r.code m) (onMem r m) :=
  withRm_mem hm (by simpa using one)

theorem bitFieldReg {f : Reg → Reg → Instr} {d q : Reg} :
    (bitFieldReg f).Reads (n + 1) [modrm 3 q.code d.code] (f d q) :=
  withRm_reg (by simpa using one)

theorem bitFieldImm {f : Reg → Byte → Instr} {d : Reg} {imm : Byte} :
    (bitFieldImm f).Reads (n + 2) [modrm 3 0 d.code, imm] (f d imm) := by
  unfold Sys2Proof.bitFieldImm
  exact withRm0_reg withByte

theorem mulImm8_reg {d q : Reg} {imm : Byte} :
    mulImm8.Reads (n + 2) [modrm 3 d.code q.code, imm] (.mulReg16Reg16Imm8 d q imm) :=
  withRm_reg (by simpa using withByte)

theorem mulImm8_mem {d : Reg} {m : MemOp} {imm : Byte} (hm : m.wellFormed = true) :
    mulImm8.Reads (n + 4) (encodeMem d.code m ++ [imm]) (.mulReg16Mem16Imm8 d m imm) :=
  withRm_memTail hm (by simpa using withByte)

theorem mulImm16_reg {d q : Reg} {imm : Word} :
    mulImm16.Reads (n + 3) (modrm 3 d.code q.code :: encodeWord imm) (.mulReg16Reg16Imm16 d q imm) :=
  withRm_reg (by simpa using withWord)

theorem mulImm16_mem {d : Reg} {m : MemOp} {imm : Word} (hm : m.wellFormed = true) :
    mulImm16.Reads (n + 5) (encodeMem d.code m ++ encodeWord imm) (.mulReg16Mem16Imm16 d m imm) :=
  withRm_memTail hm (by simpa using withWord)

theorem fpo1Form_reg {x y z : BitVec 3} : (fpo1Form x).Reads (n + 1) [modrm 3 y z] (.fpo1 x y z) := by
  rw [← Reg.code_ofCode z]
  exact withRm_reg one

theorem fpo1Form_mem {x y : BitVec 3} {m : MemOp} (hm : m.wellFormed = true) :
    (fpo1Form x).Reads (n + 3) (encodeMem y m) (.fpo1Mem x y m) := withRm_mem hm one

theorem fpo2Form_reg {x : BitVec 1} {y z : BitVec 3} : (fpo2Form x).Reads (n + 1) [modrm 3 y z] (.fpo2 x y z) := by
  rw [← Reg.code_ofCode z]
  exact withRm_reg one

theorem fpo2Form_mem {x : BitVec 1} {y : BitVec 3} {m : MemOp} (hm : m.wellFormed = true) :
    (fpo2Form x).Reads (n + 3) (encodeMem y m) (.fpo2Mem x y m) := withRm_mem hm one

end Form.Reads

/-- The bytes after the first opcode byte are read as its form says. -/
theorem decodes_of_entry {b : Byte} {f : Form} {bs : List Byte} {i : Instr} (hb : opcodeEntry b = some f)
    (h : f.Reads 5 bs i) : Decodes (b :: bs) i :=
  ⟨Nat.succ_le_succ h.length, fun rest => by
    change Decoded.longer 1 (opcodeForm b (bs ++ rest)) = _
    rw [opcodeForm_eq_of_entry hb, h.reads]; rfl⟩

/-- The map's entries for the first bytes of FPO1. -/
theorem fpo1_entry (x : BitVec 3) : opcodeEntry (fpo1Byte x) = some (fpo1Form x) := by
  have hx : x = 0 ∨ x = 1 ∨ x = 2 ∨ x = 3 ∨ x = 4 ∨ x = 5 ∨ x = 6 ∨ x = 7 := by revert x; decide
  rcases hx with rfl | rfl | rfl | rfl | rfl | rfl | rfl | rfl <;> rfl

/-- The map's entries for the first bytes of FPO2. -/
theorem fpo2_entry (x : BitVec 1) : opcodeEntry (fpo2Byte x) = some (fpo2Form x) := by
  have hx : x = 0 ∨ x = 1 := by revert x; decide
  rcases hx with rfl | rfl <;> rfl

/-- Native decoding reads the encoding of a well-formed instruction as that instruction: by the shape of its encoding,
an entry of the opcode map and the form that reads the bytes after it. -/
theorem decodes_encode {i : Instr} (h : i.wellFormed = true) (hr : i ≠ .retem) (hc : ∀ v, i ≠ .calln v) :
    Decodes (encode i) i := by
  cases i with
  | movAhPsw | movPswAh | trans | repc | repnc | rep | repne | adjba | adj4a | adjbs | adj4s | cvtbw | cvtwl
  | not1Cy | clr1Cy | set1Cy | clr1Dir | set1Dir | retNear | retFar | pushR | pushPsw | popR | popPsw | dispose
  | brk3 | brkv | reti | halt | poll | di | ei | buslock | nop | ds1Prefix | psPrefix | ssPrefix | ds0Prefix =>
    exact decodes_of_entry rfl .one
  | movbk w | cmpbk w | cmpm w | ldm w | stm w | inAccDw w | outDwAcc w | inm w | outm w =>
    cases w <;> exact decodes_of_entry rfl .one
  | incReg16 r | decReg16 r | pushReg16 r | popReg16 r => cases r <;> exact decodes_of_entry rfl .one
  | pushSreg g => cases g <;> exact decodes_of_entry rfl .one
  | popSreg g =>
    cases g with
    | ps => exact absurd h Bool.false_ne_true
    | ds1 | ss | ds0 => exact decodes_of_entry rfl .one
  | xchAwReg16 r =>
    cases r with
    | alAw => exact absurd h Bool.false_ne_true
    | clCw | dlDw | blBw | ahSp | chBp | dhIx | bhIy => exact decodes_of_entry rfl .one
  | pushImm8 imm | brShort disp | bv disp | bnv disp | bc disp | bnc disp | be disp | bne disp | bnh disp
  | bh disp | bpe disp | bpo disp | bn disp | bp disp | blt disp | bge disp | ble disp | bgt disp | dbnzne disp
  | dbnze disp | dbnz disp | bcwz disp | brkImm8 imm => exact decodes_of_entry rfl .withByte
  | inAccImm8 w imm | outImm8Acc w imm => cases w <;> exact decodes_of_entry rfl .withByte
  | callNear disp | retNearPop n | retFarPop n | pushImm16 imm | brNear disp => exact decodes_of_entry rfl .withWord
  | movAccDmem w addr | movDmemAcc w addr => cases w <;> exact decodes_of_entry rfl .withWord
  | callFar off seg | brFar off seg => exact decodes_of_entry rfl .withFar
  | prepare size depth => exact decodes_of_entry rfl .prepareForm
  | cvtbd | cvtdb => exact decodes_of_entry rfl .with0AH
  | addAccImm w imm | addcAccImm w imm | subAccImm w imm | subcAccImm w imm | cmpAccImm w imm
  | testAccImm w imm | andAccImm w imm | orAccImm w imm | xorAccImm w imm =>
    cases w <;> exact decodes_of_entry rfl (.withImm h)
  | movRegImm w r imm => cases w <;> cases r <;> exact decodes_of_entry rfl (.withImm h)
  | movRegReg w d q | xchRegReg w d q | addRegReg w d q | addcRegReg w d q | subRegReg w d q | subcRegReg w d q
  | cmpRegReg w d q | testRegReg w d q | andRegReg w d q | orRegReg w d q | xorRegReg w d q | addRegRegD0 w d q
  | orRegRegD0 w d q | addcRegRegD0 w d q | subcRegRegD0 w d q | andRegRegD0 w d q | subRegRegD0 w d q
  | xorRegRegD0 w d q | cmpRegRegD0 w d q | movRegRegD0 w d q => cases w <;> exact decodes_of_entry rfl .regRm_reg
  | movMemReg w m r | movRegMem w r m | xchMemReg w m r | addMemReg w m r | addRegMem w r m | addcMemReg w m r
  | addcRegMem w r m | subMemReg w m r | subRegMem w r m | subcMemReg w m r | subcRegMem w r m
  | cmpMemReg w m r | cmpRegMem w r m | testMemReg w m r | andMemReg w m r | andRegMem w r m | orMemReg w m r
  | orRegMem w r m | xorMemReg w m r | xorRegMem w r m => cases w <;> exact decodes_of_entry rfl (.regRm_mem h)
  | movDs0Reg16Mem32 r m | movDs1Reg16Mem32 r m | ldeaReg16Mem16 r m | chkind r m =>
    exact decodes_of_entry rfl (.regMem h)
  | incReg8 r | decReg8 r | muluReg8 r | muluReg16 r | mulReg8 r | mulReg16 r | divuReg8 r | divuReg16 r
  | divReg8 r | divReg16 r | callRegptr16 r | brRegptr16 r | incReg16Two r | decReg16Two r | pushReg16Two r =>
    exact decodes_of_entry rfl (.withRm_reg .one)
  | notReg w r | negReg w r | shlReg1 w r | shlRegCl w r | shrReg1 w r | shrRegCl w r | shraReg1 w r
  | shraRegCl w r | rolReg1 w r | rolRegCl w r | rorReg1 w r | rorRegCl w r | rolcReg1 w r | rolcRegCl w r
  | rorcReg1 w r | rorcRegCl w r => cases w <;> exact decodes_of_entry rfl (.withRm_reg .one)
  | muluMem8 m | muluMem16 m | mulMem8 m | mulMem16 m | divuMem8 m | divuMem16 m | divMem8 m | divMem16 m
  | callMemptr16 m | callMemptr32 m | pushMem16 m | brMemptr16 m | brMemptr32 m =>
    exact decodes_of_entry rfl (.withRm_mem h .one)
  | incMem w m | decMem w m | notMem w m | negMem w m | shlMem1 w m | shlMemCl w m | shrMem1 w m | shrMemCl w m
  | shraMem1 w m | shraMemCl w m | rolMem1 w m | rolMemCl w m | rorMem1 w m | rorMemCl w m | rolcMem1 w m
  | rolcMemCl w m | rorcMem1 w m | rorcMemCl w m => cases w <;> exact decodes_of_entry rfl (.withRm_mem h .one)
  | popReg16Two r => exact decodes_of_entry rfl (.withRm0_reg .one)
  | popMem16 m => exact decodes_of_entry rfl (.bitForm_mem h)
  | shlRegImm8 w r imm | shrRegImm8 w r imm | shraRegImm8 w r imm | rolRegImm8 w r imm | rorRegImm8 w r imm
  | rolcRegImm8 w r imm | rorcRegImm8 w r imm => cases w <;> exact decodes_of_entry rfl (.withRm_reg .withByte)
  | shlMemImm8 w m imm | shrMemImm8 w m imm | shraMemImm8 w m imm | rolMemImm8 w m imm | rorMemImm8 w m imm
  | rolcMemImm8 w m imm | rorcMemImm8 w m imm => cases w <;> exact decodes_of_entry rfl (.withRm_memTail h .withByte)
  | addRegImm f r imm | addcRegImm f r imm | subRegImm f r imm | subcRegImm f r imm | cmpRegImm f r imm =>
    cases f <;> exact decodes_of_entry rfl (.withRm_reg (.withSized h))
  | addMemImm f m imm | addcMemImm f m imm | subMemImm f m imm | subcMemImm f m imm | cmpMemImm f m imm =>
    obtain ⟨hm, himm⟩ := Bool.and_eq_true_iff.mp h
    cases f <;> exact decodes_of_entry rfl (.withRm_memTail hm (.withSized himm))
  | testRegImm w r imm | andRegImm w r imm | orRegImm w r imm | xorRegImm w r imm =>
    have himm : w.immFits imm = true := h
    cases w <;> exact decodes_of_entry rfl (.withRm_reg (.withImm himm))
  | testMemImm w m imm | andMemImm w m imm | orMemImm w m imm | xorMemImm w m imm =>
    obtain ⟨hm, himm⟩ := Bool.and_eq_true_iff.mp h
    cases w <;> exact decodes_of_entry rfl (.withRm_memTail hm (.withImm himm))
  | movRegImmC6 w r imm => cases w <;> exact decodes_of_entry rfl (.withRm0_reg (.withImm h))
  | movMemImm w m imm =>
    obtain ⟨hm, himm⟩ := Bool.and_eq_true_iff.mp h
    cases w <;> exact decodes_of_entry rfl (.withRm0_mem hm (.withImm himm))
  | movReg16Sreg r g => cases g <;> exact decodes_of_entry rfl (.withRm_reg .one)
  | movMem16Sreg m g => cases g <;> exact decodes_of_entry rfl (.withRm_mem h .one)
  | movSregReg16 g r =>
    cases g with
    | ps => exact absurd h Bool.false_ne_true
    | ds1 | ss | ds0 => exact decodes_of_entry rfl (.withRm_reg .one)
  | movSregMem16 g m =>
    obtain ⟨hg, hm⟩ := Bool.and_eq_true_iff.mp h
    cases g with
    | ps => exact absurd hg Bool.false_ne_true
    | ds1 | ss | ds0 => exact decodes_of_entry rfl (.withRm_mem hm .one)
  | mulReg16Reg16Imm8 d q imm => exact decodes_of_entry rfl .mulImm8_reg
  | mulReg16Mem16Imm8 d m imm => exact decodes_of_entry rfl (.mulImm8_mem h)
  | mulReg16Reg16Imm16 d q imm => exact decodes_of_entry rfl .mulImm16_reg
  | mulReg16Mem16Imm16 d m imm => exact decodes_of_entry rfl (.mulImm16_mem h)
  | fpo1 x y z => exact decodes_of_entry (fpo1_entry x) .fpo1Form_reg
  | fpo1Mem x y m => exact decodes_of_entry (fpo1_entry x) (.fpo1Form_mem h)
  | fpo2 x y z => exact decodes_of_entry (fpo2_entry x) .fpo2Form_reg
  | fpo2Mem x y m => exact decodes_of_entry (fpo2_entry x) (.fpo2Form_mem h)
  | add4s | sub4s | cmp4s => exact decodes_of_entry rfl (.extended rfl .one)
  | brkem imm => exact decodes_of_entry rfl (.extended rfl .withByte)
  | rol4Reg8 r | ror4Reg8 r | test1Reg8Cl r | test1Reg16Cl r | not1Reg8Cl r | not1Reg16Cl r | clr1Reg8Cl r
  | clr1Reg16Cl r | set1Reg8Cl r | set1Reg16Cl r => exact decodes_of_entry rfl (.extended rfl .bitForm_reg)
  | rol4Mem8 m | ror4Mem8 m | test1Mem8Cl m | test1Mem16Cl m | not1Mem8Cl m | not1Mem16Cl m | clr1Mem8Cl m
  | clr1Mem16Cl m | set1Mem8Cl m | set1Mem16Cl m => exact decodes_of_entry rfl (.extended rfl (.bitForm_mem h))
  | test1Reg8Imm3 r imm | test1Reg16Imm4 r imm | not1Reg8Imm3 r imm | not1Reg16Imm4 r imm | clr1Reg8Imm3 r imm
  | clr1Reg16Imm4 r imm | set1Reg8Imm3 r imm | set1Reg16Imm4 r imm =>
    exact decodes_of_entry rfl (.extended rfl .bitImmForm_reg)
  | test1Mem8Imm3 m imm | test1Mem16Imm4 m imm | not1Mem8Imm3 m imm | not1Mem16Imm4 m imm | clr1Mem8Imm3 m imm
  | clr1Mem16Imm4 m imm | set1Mem8Imm3 m imm | set1Mem16Imm4 m imm =>
    exact decodes_of_entry rfl (.extended rfl (.bitImmForm_mem h))
  | insReg8Reg8 d q | extReg8Reg8 d q => exact decodes_of_entry rfl (.extended rfl .bitFieldReg)
  | insReg8Imm4 d imm | extReg8Imm4 d imm => exact decodes_of_entry rfl (.extended rfl .bitFieldImm)
  | retem => exact absurd rfl hr
  | calln imm => exact absurd rfl (hc imm)

end Sys2Proof

end

section

/-! The instruction at PC. -/

namespace Sys2Proof

/-- Native decoding of an encoding, whatever follows it. -/
theorem decode_encode {i : Instr} (h : i.wellFormed = true) (hr : i ≠ .retem) (hc : ∀ v, i ≠ .calln v)
    (rest : List Byte) : decode (encode i ++ rest) = .ok (i, (encode i).length) :=
  (decodes_encode h hr hc).decode rest

/-- The two instructions of emulation mode, whatever follows them. -/
theorem decodeEmulation_encode {i : Instr} (h : i = .retem ∨ ∃ v, i = .calln v) (rest : List Byte) :
    decodeEmulation (encode i ++ rest) = .ok (i, (encode i).length) := by
  obtain rfl | ⟨v, rfl⟩ := h <;> rfl

/-- An encoding is no longer than the longest instruction. -/
theorem encode_length_le {i : Instr} (h : i.wellFormed = true) : (encode i).length ≤ Machine.maxLength := by
  by_cases he : i = .retem ∨ ∃ v, i = .calln v
  · obtain rfl | ⟨v, rfl⟩ := he <;> exact Nat.le_of_ble_eq_true rfl
  · exact (decodes_encode h (fun hr => he (.inl hr)) (fun v hv => he (.inr ⟨v, hv⟩))).length

namespace Machine

/-- A sample leaves the instruction bytes. -/
theorem State.InstructionByteIs.sample {s : State} {k : Nat} {b : Byte} (h : s.InstructionByteIs k b) :
    s.sample.InstructionByteIs k b := by
  rw [State.sample_eq]
  exact h

/-- The instruction whose encoding lies at PC is the one fetched, if it is one of the mode. -/
theorem State.fetched_of_bytes {s : State} {i : Instr} (hwf : i.wellFormed = true)
    (hmode : s.psw.md = false ↔ i = .retem ∨ ∃ v, i = .calln v)
    (hpfp : s.pfp = s.pc + BitVec.ofNat 16 s.queue.length) (hq : s.queue.length ≤ s.chip.queueBytes)
    (hbytes : ∀ k b, (encode i)[k]? = some b → s.InstructionByteIs k b) :
    s.fetched = .ok (i, (encode i).length) := by
  obtain ⟨rest, hrest⟩ := State.nextBytes_of s.firstAction (encode i) (encode_length_le hwf) hpfp hq hbytes
  unfold State.fetched
  rw [State.instructionBytes, hrest]
  cases hmd : s.psw.md with
  | false => exact decodeEmulation_encode (hmode.mp hmd) rest
  | true =>
    have hno : ¬ (i = .retem ∨ ∃ v, i = .calln v) := fun h => Bool.false_ne_true ((hmode.mpr h).symm.trans hmd)
    exact decode_encode hwf (fun h => hno (.inl h)) (fun v h => hno (.inr ⟨v, h⟩)) rest

/-- The room that a prefetch needs, in the words of the claims. -/
theorem Chip.prefetchUnit_eq (c : Chip) : c.prefetchUnit = if c = .uPD70116 then 2 else 1 := by cases c <;> rfl

/-- How many bytes a prefetch reads, in the words of the claims. -/
theorem State.prefetchBytes_eq (s : State) :
    s.prefetchBytes = if s.chip = .uPD70116 ∧ s.pfp.toNat % 2 = 0 then 2 else 1 := by
  unfold State.prefetchBytes
  cases s.chip with
  | uPD70108 => rfl
  | uPD70116 => rcases Nat.mod_two_eq_zero_or_one s.pfp.toNat with h | h <;> simp [h]

/-- What a sample leaves of the fields that the fetch looks at. -/
theorem State.sample_fetchFields (s : State) :
    s.sample.pc = s.pc ∧ s.sample.pfp = s.pfp ∧ s.sample.queue = s.queue ∧ s.sample.chip = s.chip ∧
      s.sample.psw = s.psw ∧ s.sample.prefixes = s.prefixes ∧ s.sample.standby = s.standby ∧
      s.sample.inProgress = s.inProgress := by
  rw [State.sample_eq]
  exact ⟨rfl, rfl, rfl, rfl, rfl, rfl, rfl, rfl⟩

/-- The advance past an instruction, with the prefetch pointer behind the queue. -/
theorem State.advance_eq_of_prefetched {s : State} (n : Nat) (hpfp : s.pfp = s.pc + BitVec.ofNat 16 s.queue.length)
    (hq : s.queue.length ≤ s.chip.queueBytes) :
    s.advance n =
      { s with
        pc := s.pc + BitVec.ofNat 16 n
        stepArmed := s.psw.brk
        queue := (s.advance n).queue
        pfp := (s.advance n).pc + BitVec.ofNat 16 (s.advance n).queue.length
        seen := (s.advance n).seen
        fetchLog := (s.advance n).fetchLog } := by
  have e := State.advance_eq s n
  rw [(State.advance_queue n hpfp hq).1] at e
  exact e

/-- What a prefetch does, in the words of the claims. -/
theorem State.prefetch_spec (s : State) :
    let room : Prop := s.queue.length + (if s.chip = .uPD70116 then 2 else 1) ≤ s.chip.queueBytes
    let n : Nat := if s.chip = .uPD70116 ∧ s.pfp.toNat % 2 = 0 then 2 else 1
    let data := (List.range n).map s.prefetchedByte
    (¬ room → s.prefetch = s) ∧
    (room → s.prefetch = { s with
      queue := s.queue ++ data
      pfp := s.pfp + BitVec.ofNat 16 n
      fetchLog :=
        .cycle ⟨.fetch, !s.psw.md, s.psw.ie, s.prefixes.buslock, some .ps, some (phys s.ps s.pfp), data⟩ ::
          s.fetchLog }) := by
  intro room n data
  rw [State.prefetch, Chip.prefetchUnit_eq, State.prefetchBytes_eq]
  exact ⟨fun h => if_neg h, fun h => if_pos h⟩

/-- Settles O9: the bytes from PC on decode to the instruction they encode. -/
theorem stepRunsTheEncodedInstruction : Obligations.StepRunsTheEncodedInstruction := by
  refine ⟨?_, fun s => ⟨rfl, rfl, s.prefetch_spec⟩⟩
  intro s i t hwf hmode hreset hstandby hidle hpfp hq hbytes hrep u hexec
  obtain ⟨epc, epfp, equeue, echip, epsw, eprefixes, estandby, eidle⟩ := s.sample_fetchFields
  rw [← epfp, ← epc, ← equeue] at hpfp
  rw [← equeue, ← echip] at hq
  have hfetch : s.sample.fetched = .ok (i, (encode i).length) :=
    State.fetched_of_bytes hwf (by rw [epsw]; exact hmode) hpfp hq (fun k b h => (hbytes k b h).sample)
  refine ⟨?_, ?_, ?_⟩
  · rw [step_of_noReset hreset, runStep_fetch (estandby.trans hstandby) (eidle.trans hidle), fetchStep_ok hfetch,
      if_pos (by rw [eprefixes]; exact hrep), hexec, finishStep_next]
  · rw [← epc, ← epsw]
    exact State.advance_eq_of_prefetched _ hpfp hq
  · have hroom := (State.advance_queue (encode i).length hpfp hq).2.1
    rw [State.advance_eq] at hroom
    rw [← echip]
    exact hroom

end Machine
end Sys2Proof

end

section

/-! Every step keeps the invariant. -/

namespace Sys2Proof.Machine

/-- What holds within a step, between the sample and the end of the step, with `p` in progress: the part of the invariant
that every meaning keeps. The windows, the armed single step and standby are the end of the step's to settle. -/
structure State.Running (p : Option Instr) (s : State) : Prop where
  memory : s.mem.wf = true
  prefetch : s.pfp = s.pc + BitVec.ofNat 16 s.queue.length
  queue : s.queue.length ≤ s.chip.queueBytes
  seen : s.seen.length ≤ s.chip.fetchWindow
  prefixes : s.prefixes.count = s.prefixes.kinds
  noReset : s.pins.resetHigh = false
  progress : s.inProgress = p

/-- The fields that `State.Running` looks at besides memory. -/
def State.frame (s : State) : Word × Word × List Byte × List Byte × Chip × Prefixes × Pins × Option Instr :=
  (s.pc, s.pfp, s.queue, s.seen, s.chip, s.prefixes, s.pins, s.inProgress)

namespace State.Running

variable {p : Option Instr} {s t : State}

/-- A change of memory that keeps its canonical form, and of fields outside the frame. -/
theorem stored (h : s.Running p) (hm : t.mem.wf = true) (hf : t.frame = s.frame) : t.Running p := by
  simp only [State.frame, Prod.mk.injEq] at hf
  obtain ⟨hpc, hpfp, hqueue, hseen, hchip, hprefixes, hpins, hprogress⟩ := hf
  exact ⟨hm, by rw [hpfp, hpc, hqueue]; exact h.prefetch, by rw [hqueue, hchip]; exact h.queue,
    by rw [hseen, hchip]; exact h.seen, by rw [hprefixes]; exact h.prefixes, by rw [hpins]; exact h.noReset,
    hprogress.trans h.progress⟩

/-- A change of fields outside the frame: registers, flags, the records of the bus and of the prefetcher. -/
theorem same (h : s.Running p) (hm : t.mem = s.mem := by rfl) (hf : t.frame = s.frame := by rfl) : t.Running p :=
  h.stored (by rw [hm]; exact h.memory) hf

theorem writeReg (h : s.Running p) {w : Width} {r : Reg} {v : Val w} : (s.writeReg w r v).Running p :=
  h.same (by simp) (by simp [State.frame])

theorem writeReg8 (h : s.Running p) {r : Reg} {v : Byte} : (s.writeReg8 r v).Running p := h.writeReg (w := .byte)

theorem writeReg16 (h : s.Running p) {r : Reg} {v : Word} : (s.writeReg16 r v).Running p := h.writeReg (w := .word)

theorem writeSreg (h : s.Running p) {g : SReg} {v : Word} : (s.writeSreg g v).Running p :=
  h.same (by simp) (by simp [State.frame])

theorem store (h : s.Running p) {w : Width} {g : SReg} {off : Word} {v : Val w} : (s.store w g off v).Running p :=
  h.stored (State.store_wf w g off v h.memory) (by simp [State.frame])

theorem afterOperand (h : s.Running p) {w : Width} {o : Operand} : (s.afterOperand w o).Running p :=
  h.same (by simp) (by simp [State.frame])

theorem writeOperand (h : s.Running p) {w : Width} {o : Operand} {v : Val w} : (s.writeOperand w o v).Running p :=
  h.stored (State.writeOperand_wf w o v h.memory) (by simp [State.frame])

theorem setStatus (h : s.Running p) {f : Status} : (s.setStatus f).Running p := h.same

/-- An operand read and written back. -/
theorem rewrite (h : s.Running p) {w : Width} {o : Operand} {v : Val w} :
    ((s.afterOperand w o).writeOperand w o v).Running p := h.afterOperand.writeOperand

/-- An operand read and written back, with flags. -/
theorem modify (h : s.Running p) {w : Width} {o : Operand} {v : Val w} {f : Status} :
    (((s.afterOperand w o).writeOperand w o v).setStatus f).Running p := h.rewrite.setStatus

/-- An operand read for its flags. -/
theorem test (h : s.Running p) {w : Width} {o : Operand} {f : Status} :
    ((s.afterOperand w o).setStatus f).Running p := h.afterOperand.setStatus

theorem push16 (h : s.Running p) {v : Word} : (s.push16 v).Running p :=
  h.stored (State.push16_wf v h.memory) (by simp [State.frame])

/-- A transfer of control empties the queue, so its pointer is PC again. -/
theorem writePc (h : s.Running p) {x : Word} : (s.writePc x).Running p :=
  ⟨h.memory, (BitVec.add_zero x).symm, Nat.zero_le _, Nat.zero_le _, h.prefixes, h.noReset, h.progress⟩

theorem farTransfer (h : s.Running p) {x : Word × Word} : (s.farTransfer x).Running p := h.writeSreg.writePc

theorem pushFrame (h : s.Running p) {ret : Word} : (s.pushFrame ret).Running p := h.push16.push16.push16

theorem toVector (h : s.Running p) {n : Byte} : (s.toVector n).Running p :=
  farTransfer (h.same (t := s.recordCycles (s.vectorCycles (4 * n.toNat))) rfl rfl)

theorem enterInterrupt (h : s.Running p) {n : Byte} {ret : Word} : (s.enterInterrupt n ret).Running p := by
  have pushed := h.pushFrame (ret := ret)
  unfold State.enterInterrupt
  generalize s.pushFrame ret = u at pushed ⊢
  exact toVector pushed.same

theorem popFrame (h : s.Running p) {flags : State → Word → State} (hm : ∀ t x, (flags t x).mem = t.mem)
    (hf : ∀ t x, (flags t x).frame = t.frame) : (s.popFrame flags).Running p :=
  farTransfer ((h.same (t := s.popWords 3) rfl rfl).same (hm _ _) (hf _ _))

theorem branchIf (h : s.Running p) {c : Bool} {d : Byte} : (s.branchIf c d).Running p := by
  cases c with
  | true => exact h.writePc
  | false => exact h

theorem countAndBranch (h : s.Running p) {c : Bool} {d : Byte} : (s.countAndBranch c d).Running p :=
  branchIf h.same

theorem storeFieldWords (h : s.Running p) {g : SReg} {off : Word} {o l : BitVec 4} {x : BitVec 32} :
    (s.storeFieldWords g off o l x).Running p := by
  unfold State.storeFieldWords
  dsimp only
  split
  · exact h.store.store
  · exact h.store

theorem insertField (h : s.Running p) {d : Reg} {o l : BitVec 4} : (s.insertField d o l).Running p :=
  have read : (s.afterFieldWords .ds1 s.iy o l).Running p := h.same
  read.storeFieldWords.writeReg8.same

theorem extractField (h : s.Running p) {d : Reg} {o l : BitVec 4} : (s.extractField d o l).Running p := by
  have read : (s.afterFieldWords s.dataSreg s.ix o l).Running p := h.same
  unfold State.extractField
  dsimp only
  refine setStatus (same (s := if d = .alAw ∨ d = .ahSp then _ else _) ?_)
  split
  · split
    · exact read.writeReg16.writeReg8
    · exact read.writeReg8.writeReg16
  · exact read.writeReg16.writeReg8

theorem bcdLoop (op : BcdOp) (odd : Bool) (n k : Nat) (c zero : Bool) (h : s.Running p) :
    (State.bcdLoop op odd n k c zero s).1.Running p := by
  induction n generalizing k c zero s with
  | zero => exact h
  | succ n ih =>
    have read : (s.afterBcd k).Running p := h.same
    refine ih _ _ _ ?_
    cases op with
    | add | sub => exact read.store
    | cmp => exact read

theorem bcdString (h : s.Running p) {op : BcdOp} : (s.bcdString op).Running p := setStatus (h.bcdLoop _ _ _ _ _ _)

theorem rotateNibbleReg (h : s.Running p) {k : NibbleRotate} {r : Reg} : (s.rotateNibbleReg k r).Running p := by
  unfold State.rotateNibbleReg
  split
  · exact h.writeReg8
  · exact h.writeReg8.writeReg8

theorem rotateNibbleMem (h : s.Running p) {k : NibbleRotate} {m : MemOp} : (s.rotateNibbleMem k m).Running p :=
  have read : (s.afterMem .byte m).Running p := h.same
  read.store.writeReg8

theorem setQuotient (h : s.Running p) {w : Width} {q r : Val w} : (s.setQuotient w q r).Running p := by
  cases w <;> exact h.same

theorem divideError (h : s.Running p) {w : Width} : (s.divideError w).Running p :=
  h.setQuotient.setStatus.enterInterrupt

theorem divUnsigned (h : s.Running p) {w : Width} {v : Val w} : (s.divUnsigned w v).Running p := by
  unfold State.divUnsigned
  dsimp only
  split
  · exact h.divideError
  · exact h.setQuotient.setStatus

theorem divSigned (h : s.Running p) {w : Width} {v : Val w} : (s.divSigned w v).Running p := by
  unfold State.divSigned
  dsimp only
  split
  · exact h.divideError
  · exact h.setQuotient.setStatus

theorem callThrough (h : s.Running p) {m : MemOp} : (s.callThrough m).Running p := by
  have read {u : State} (hu : u.Running p) : (u.afterMem .word m).Running p := hu.same
  unfold State.callThrough
  split
  · exact (read h).push16.writePc
  · exact (read h.push16).writePc

theorem callFarThrough (h : s.Running p) {m : MemOp} : (s.callFarThrough m).Running p := by
  have read {u : State} (hu : u.Running p) : (u.afterPtr m).Running p := hu.same
  unfold State.callFarThrough
  dsimp only
  split
  · exact (read h).push16.push16.farTransfer
  · exact (read h.push16.push16).farTransfer

theorem returnNear (h : s.Running p) {n : Word} : (s.returnNear n).Running p := writePc h.same

theorem returnFar (h : s.Running p) {n : Word} : (s.returnFar n).Running p := farTransfer h.same

theorem popReg (h : s.Running p) {r : Reg} : (s.popReg r).Running p := by
  unfold State.popReg
  split
  · exact h.same
  · exact writeReg16 h.same

theorem copyFrames (n : Nat) (h : s.Running p) : (State.copyFrames n s).Running p := by
  induction n generalizing s with
  | zero => exact h
  | succ n ih => exact ih (push16 h.same)

theorem prepareFrame (h : s.Running p) {size : Word} {depth : Nat} : (s.prepareFrame size depth).Running p := by
  unfold State.prepareFrame
  dsimp only
  split
  · exact h.push16.same
  · exact (h.push16.copyFrames _).push16.same

theorem checkIndex (h : s.Running p) {x : Word} {b : Word × Word} : (s.checkIndex x b).Running p := by
  unfold State.checkIndex
  split
  · exact h.enterInterrupt
  · exact h

/-- The state that an answer holds. -/
theorem of_next {u : State} (hx : Host.Outcome.next (φ := Fault) (ρ := Refusal) u = .next t) (h : u.Running p) :
    t.Running p := Host.Outcome.next.inj hx ▸ h

theorem breakForEmulation (h : s.Running p) {n : Byte} (hx : s.breakForEmulation n = .next t) : t.Running p := by
  unfold State.breakForEmulation at hx
  split at hx
  · cases hx
  · have pushed := h.pushFrame (ret := s.pc)
    generalize s.pushFrame s.pc = u at pushed hx
    exact of_next hx (toVector pushed.same)

theorem openWindow (h : s.Running p) {w : Window} : (s.openWindow w).Running p := h.same

theorem mulUnsigned (h : s.Running p) {w : Width} {v : Val w} : (s.mulUnsigned w v).Running p := by
  cases w <;> exact h.same

theorem mulSigned (h : s.Running p) {w : Width} {v : Val w} : (s.mulSigned w v).Running p := by
  cases w <;> exact h.same

theorem breakOnOverflow (h : s.Running p) : (if s.psw.v then s.enterInterrupt 4 s.pc else s).Running p := by
  split
  · exact h.enterInterrupt
  · exact h

theorem returnFromEmulation (h : s.Running p) : s.returnFromEmulation.Running p := by
  have popped := h.popFrame (flags := fun t x => { t with psw := Psw.ofImage x }) (fun _ _ => rfl) (fun _ _ => rfl)
  exact popped.same

theorem callNative (h : s.Running p) {n : Byte} : (s.callNative n).Running p := by
  have pushed := h.pushFrame (ret := s.pc)
  unfold State.callNative
  generalize s.pushFrame s.pc = u at pushed ⊢
  exact toVector pushed.same

end State.Running

/-- Every meaning but those of the prefixes, the block instructions and POLL completes within the step. -/
theorem exec_running {i : Instr} {s t : State} {p : Option Instr} (hp : isPrefix i = false) (hb : isBlock i = false)
    (hpoll : i ≠ .poll) (hs : s.Running p) (hx : exec i s = .next t) : t.Running p := by
  cases i with
  | addRegReg | addMemReg | addRegImm | addMemImm | addAccImm | addcRegReg | addcMemReg | addcRegImm
  | addcMemImm | addcAccImm | subRegReg | subMemReg | subRegImm | subMemImm | subAccImm | subcRegReg
  | subcMemReg | subcRegImm | subcMemImm | subcAccImm | incReg8 | incMem | incReg16 | decReg8 | decMem
  | decReg16 | negReg | negMem | andRegReg | andMemReg | andRegImm | andMemImm | andAccImm | orRegReg
  | orMemReg | orRegImm | orMemImm | orAccImm | xorRegReg | xorMemReg | xorRegImm | xorMemImm | xorAccImm
  | shlReg1 | shlMem1 | shlRegCl | shlMemCl | shlRegImm8 | shlMemImm8 | shrReg1 | shrMem1 | shrRegCl | shrMemCl
  | shrRegImm8 | shrMemImm8 | shraReg1 | shraMem1 | shraRegCl | shraMemCl | shraRegImm8 | shraMemImm8 | rolReg1
  | rolMem1 | rolRegCl | rolMemCl | rolRegImm8 | rolMemImm8 | rorReg1 | rorMem1 | rorRegCl | rorMemCl
  | rorRegImm8 | rorMemImm8 | rolcReg1 | rolcMem1 | rolcRegCl | rolcMemCl | rolcRegImm8 | rolcMemImm8
  | rorcReg1 | rorcMem1 | rorcRegCl | rorcMemCl | rorcRegImm8 | rorcMemImm8 | addRegRegD0 | orRegRegD0
  | addcRegRegD0 | subcRegRegD0 | andRegRegD0 | subRegRegD0 | xorRegRegD0 | incReg16Two | decReg16Two =>
    exact .of_next hx hs.modify
  | addRegMem | addcRegMem | subRegMem | subcRegMem | andRegMem | orRegMem | xorRegMem =>
    exact .of_next hx hs.same.modify
  | cmpRegReg | cmpMemReg | cmpRegImm | cmpMemImm | cmpAccImm | testRegReg | testMemReg | testRegImm
  | testMemImm | testAccImm | test1Reg8Cl | test1Mem8Cl | test1Reg16Cl | test1Mem16Cl | test1Reg8Imm3
  | test1Mem8Imm3 | test1Reg16Imm4 | test1Mem16Imm4 | cmpRegRegD0 => exact .of_next hx hs.test
  | cmpRegMem => exact .of_next hx hs.same.test
  | notReg | notMem | not1Reg8Cl | not1Mem8Cl | not1Reg16Cl | not1Mem16Cl | not1Reg8Imm3 | not1Mem8Imm3
  | not1Reg16Imm4 | not1Mem16Imm4 | clr1Reg8Cl | clr1Mem8Cl | clr1Reg16Cl | clr1Mem16Cl | clr1Reg8Imm3
  | clr1Mem8Imm3 | clr1Reg16Imm4 | clr1Mem16Imm4 | set1Reg8Cl | set1Mem8Cl | set1Reg16Cl | set1Mem16Cl
  | set1Reg8Imm3 | set1Mem8Imm3 | set1Reg16Imm4 | set1Mem16Imm4 => exact .of_next hx hs.rewrite
  | movDs0Reg16Mem32 | movDs1Reg16Mem32 => exact .of_next hx hs.same.writeReg.writeSreg
  | xchRegReg | xchAwReg16 => exact .of_next hx hs.writeReg.writeReg
  | xchMemReg => exact .of_next hx hs.same.store.writeReg
  | movSregReg16 => exact .of_next hx hs.writeSreg.openWindow
  | movSregMem16 | popSreg => exact .of_next hx hs.same.writeSreg.openWindow
  | movReg16Sreg => exact .of_next hx hs.writeReg.openWindow
  | movMem16Sreg => exact .of_next hx hs.store.openWindow
  | movRegReg | movRegImm | movAhPsw | ldeaReg16Mem16 | cvtbw | cvtwl | movRegRegD0 | movRegImmC6 =>
    exact .of_next hx hs.writeReg
  | movRegMem | movAccDmem | trans | inAccImm8 | inAccDw => exact .of_next hx hs.same.writeReg
  | movMemReg | movMemImm | movDmemAcc => exact .of_next hx hs.store
  | popMem16 => exact .of_next hx hs.same.store
  | insReg8Reg8 | insReg8Imm4 => exact .of_next hx hs.insertField
  | extReg8Reg8 | extReg8Imm4 => exact .of_next hx hs.extractField
  | add4s | sub4s | cmp4s => exact .of_next hx hs.bcdString
  | rol4Reg8 | ror4Reg8 => exact .of_next hx hs.rotateNibbleReg
  | rol4Mem8 | ror4Mem8 => exact .of_next hx hs.rotateNibbleMem
  | muluReg8 | muluReg16 => exact .of_next hx hs.mulUnsigned
  | muluMem8 | muluMem16 => exact .of_next hx hs.same.mulUnsigned
  | mulReg8 | mulReg16 => exact .of_next hx hs.mulSigned
  | mulMem8 | mulMem16 => exact .of_next hx hs.same.mulSigned
  | mulReg16Reg16Imm8 | mulReg16Reg16Imm16 => exact .of_next hx hs.writeReg16.setStatus
  | mulReg16Mem16Imm8 | mulReg16Mem16Imm16 => exact .of_next hx hs.same.writeReg16.setStatus
  | divuReg8 | divuReg16 => exact .of_next hx hs.divUnsigned
  | divuMem8 | divuMem16 => exact .of_next hx hs.same.divUnsigned
  | divReg8 | divReg16 => exact .of_next hx hs.divSigned
  | divMem8 | divMem16 => exact .of_next hx hs.same.divSigned
  | adj4a | adj4s => exact .of_next hx hs.writeReg8.setStatus
  | movPswAh | outImm8Acc | outDwAcc | adjba | adjbs | cvtbd | cvtdb | not1Cy | clr1Cy | set1Cy | clr1Dir
  | set1Dir | popR | popPsw | dispose | halt | di | ei | fpo1 | fpo1Mem | fpo2 | fpo2Mem => exact .of_next hx hs.same
  | nop => exact .of_next hx hs
  | pushReg16 | pushSreg | pushImm8 | pushImm16 | pushPsw | pushReg16Two => exact .of_next hx hs.push16
  | pushMem16 => exact .of_next hx hs.same.push16
  | pushR => exact .of_next hx hs.push16.push16.push16.push16.push16.push16.push16.push16
  | popReg16 | popReg16Two => exact .of_next hx hs.popReg
  | prepare => exact .of_next hx hs.prepareFrame
  | callNear | callRegptr16 => exact .of_next hx hs.push16.writePc
  | callFar => exact .of_next hx hs.push16.push16.farTransfer
  | callMemptr16 => exact .of_next hx hs.callThrough
  | callMemptr32 => exact .of_next hx hs.callFarThrough
  | retNear | retNearPop => exact .of_next hx hs.returnNear
  | retFar | retFarPop => exact .of_next hx hs.returnFar
  | brNear | brRegptr16 => exact .of_next hx hs.writePc
  | brMemptr16 => exact .of_next hx hs.same.writePc
  | brFar => exact .of_next hx hs.farTransfer
  | brMemptr32 => exact .of_next hx hs.same.farTransfer
  | brShort | bv | bnv | bc | bnc | be | bne | bnh | bh | bpe | bpo | bn | bp | blt | bge | ble | bgt | bcwz =>
    exact .of_next hx hs.branchIf
  | dbnzne | dbnze | dbnz => exact .of_next hx hs.countAndBranch
  | brk3 | brkImm8 => exact .of_next hx hs.enterInterrupt
  | brkv => exact .of_next hx hs.breakOnOverflow
  | chkind => exact .of_next hx hs.same.checkIndex
  | reti => exact .of_next hx (hs.popFrame (fun _ _ => rfl) (fun _ _ => rfl))
  | brkem => exact hs.breakForEmulation hx
  | retem => exact .of_next hx hs.returnFromEmulation
  | calln => exact .of_next hx hs.callNative
  | repc | repnc | rep | repne | buslock | ds1Prefix | psPrefix | ssPrefix | ds0Prefix =>
    exact absurd hp Bool.noConfusion
  | movbk | cmpbk | cmpm | ldm | stm | inm | outm => exact absurd hb Bool.noConfusion
  | poll => exact absurd rfl hpoll

/-- What a meaning leaves whose instruction `i` goes on in the next step: a POLL that waits, or a block instruction under a
repeat prefix; no window is open and the machine is not in standby because of it. -/
structure State.Suspended (i : Instr) (s t : State) : Prop where
  running : t.Running (some i)
  progress : i = .poll ∨ (isBlock i = true ∧ t.prefixes.rep ≠ none)
  window : t.window = s.window
  standby : t.standby = s.standby

theorem State.Running.advanceIx {p : Option Instr} {s : State} (h : s.Running p) {w : Width} :
    (s.advanceIx w).Running p := h.same

theorem State.Running.advanceIy {p : Option Instr} {s : State} (h : s.Running p) {w : Width} :
    (s.advanceIy w).Running p := h.same

/-- What one element of a block instruction keeps. -/
structure KeepsLoop (element : State → State) : Prop where
  running : ∀ {s : State} {p : Option Instr}, s.Running p → (element s).Running p
  prefixes : ∀ s : State, (element s).prefixes = s.prefixes
  window : ∀ s : State, (element s).window = s.window
  standby : ∀ s : State, (element s).standby = s.standby

namespace KeepsLoop

theorem moveElement (w : Width) : KeepsLoop (State.moveElement w) where
  running h := by
    have read := h.same (t := State.afterSource _ w)
    exact read.store.advanceIx.advanceIy
  prefixes s := by simp [State.moveElement]
  window s := by simp [State.moveElement]
  standby s := by simp [State.moveElement]

theorem compareElement (w : Width) : KeepsLoop (State.compareElement w) where
  running {s _} h := by
    have source := h.same (t := s.afterSource w)
    have both := source.same (t := (s.afterSource w).afterDest w)
    exact both.setStatus.advanceIx.advanceIy
  prefixes s := by simp [State.compareElement]
  window s := by simp [State.compareElement]
  standby s := by simp [State.compareElement]

theorem scanElement (w : Width) : KeepsLoop (State.scanElement w) where
  running h := h.same
  prefixes _ := rfl
  window _ := rfl
  standby _ := rfl

theorem loadElement (w : Width) : KeepsLoop (State.loadElement w) where
  running h := by
    have read := h.same (t := State.afterSource _ w)
    exact read.writeReg.advanceIx
  prefixes s := by simp [State.loadElement]
  window s := by simp [State.loadElement]
  standby s := by simp [State.loadElement]

theorem storeElement (w : Width) : KeepsLoop (State.storeElement w) where
  running h := h.store.advanceIy
  prefixes s := by simp [State.storeElement]
  window s := by simp [State.storeElement]
  standby s := by simp [State.storeElement]

theorem inputElement (w : Width) : KeepsLoop (State.inputElement w) where
  running {s _} h := by
    have read := h.same (t := s.afterIoRead w s.dw)
    exact read.store.advanceIy
  prefixes s := by simp [State.inputElement]
  window s := by simp [State.inputElement]
  standby s := by simp [State.inputElement]

theorem outputElement (w : Width) : KeepsLoop (State.outputElement w) where
  running h := h.same
  prefixes _ := rfl
  window _ := rfl
  standby _ := rfl

/-- One pass of a block instruction ends it or leaves it in progress. -/
theorem repeatElement {element : State → State} (he : KeepsLoop element) {i : Instr} (hi : isBlock i = true)
    {k : BlockKind} {s t : State} (hs : s.Running none)
    (hx : Host.Outcome.next (φ := Fault) (ρ := Refusal) (s.repeatElement i k element) = .next t) :
    t.Running none ∨ State.Suspended i s t := by
  obtain rfl := Host.Outcome.next.inj hx
  have run := he.running hs
  rcases s.repeatElement_cases i k element with
    ⟨_, e⟩ | ⟨_, _, _, e⟩ | ⟨r, hr, _, ⟨_, e⟩ | ⟨_, e⟩⟩ <;> rw [e]
  · exact .inl run
  · exact .inl hs
  · exact .inl run.same
  · refine .inr ⟨⟨run.memory, run.prefetch, run.queue, run.seen, run.prefixes, run.noReset, rfl⟩,
      .inr ⟨hi, fun hnone => ?_⟩, he.window s, he.standby s⟩
    have kept : (element s).prefixes.rep = some r := (congrArg Prefixes.rep (he.prefixes s)).trans hr
    exact nomatch kept.symm.trans hnone

end KeepsLoop

/-- A block instruction ends or stays in progress. -/
theorem exec_block {i : Instr} {s t : State} (hi : isBlock i = true) (hs : s.Running none)
    (hx : exec i s = .next t) : t.Running none ∨ State.Suspended i s t := by
  cases i with
  | movbk w => exact (KeepsLoop.moveElement w).repeatElement hi hs hx
  | cmpbk w => exact (KeepsLoop.compareElement w).repeatElement hi hs hx
  | cmpm w => exact (KeepsLoop.scanElement w).repeatElement hi hs hx
  | ldm w => exact (KeepsLoop.loadElement w).repeatElement hi hs hx
  | stm w => exact (KeepsLoop.storeElement w).repeatElement hi hs hx
  | inm w => exact (KeepsLoop.inputElement w).repeatElement hi hs hx
  | outm w => exact (KeepsLoop.outputElement w).repeatElement hi hs hx
  | _ => exact absurd hi Bool.noConfusion

/-- POLL completes or waits. -/
theorem exec_poll {s t : State} (hs : s.Running none) (hx : exec .poll s = .next t) :
    t.Running none ∨ State.Suspended .poll s t := by
  obtain rfl : (if s.pins.pollLow then s else { s with inProgress := some .poll }) = t := Host.Outcome.next.inj hx
  split
  · exact .inl hs
  · exact .inr ⟨⟨hs.memory, hs.prefetch, hs.queue, hs.seen, hs.prefixes, hs.noReset, rfl⟩, .inl rfl, rfl, rfl⟩

/-- What a prefix byte leaves: one prefix more in force, and nothing else changed. -/
structure State.Prefixed (s t : State) : Prop where
  same : t = { s with prefixes := t.prefixes }
  count : t.prefixes.count = s.prefixes.count + 1
  kinds : t.prefixes.kinds = s.prefixes.kinds + 1

/-- REPC, REPNC, REP and REPNE are prefixes only where no repeat prefix is in force. -/
theorem State.repeatPrefix_prefixed {s t : State} {k : Repeat} (hx : s.repeatPrefix k = .next t) : s.Prefixed t := by
  unfold State.repeatPrefix at hx
  split at hx
  · cases hx
  · rename_i hfree
    obtain rfl := Host.Outcome.next.inj hx
    exact ⟨rfl, rfl, by simp +arith [Prefixes.kinds, hfree]⟩

/-- The segment overrides are prefixes only where no override is in force. -/
theorem State.overridePrefix_prefixed {s t : State} {g : SReg} (hx : s.overridePrefix g = .next t) :
    s.Prefixed t := by
  unfold State.overridePrefix at hx
  split at hx
  · cases hx
  · rename_i hfree
    obtain rfl := Host.Outcome.next.inj hx
    exact ⟨rfl, rfl, by simp +arith [Prefixes.kinds, hfree]⟩

/-- BUSLOCK is a prefix only where it is not in force. -/
theorem State.buslockPrefix_prefixed {s t : State} (hx : s.buslockPrefix = .next t) : s.Prefixed t := by
  unfold State.buslockPrefix at hx
  split at hx
  · cases hx
  · rename_i hfree
    obtain rfl := Host.Outcome.next.inj hx
    exact ⟨rfl, rfl, by simp [Prefixes.kinds, hfree]⟩

/-- The meaning of a prefix byte. -/
theorem exec_prefix {i : Instr} {s t : State} (hi : isPrefix i = true) (hx : exec i s = .next t) : s.Prefixed t := by
  cases i with
  | repc | repnc | rep | repne => exact State.repeatPrefix_prefixed hx
  | ds1Prefix | psPrefix | ssPrefix | ds0Prefix => exact State.overridePrefix_prefixed hx
  | buslock => exact State.buslockPrefix_prefixed hx
  | _ => exact absurd hi Bool.noConfusion

/-- A meaning adds a prefix, or completes, or leaves its instruction in progress. -/
theorem exec_cases {i : Instr} {s t : State} (hs : s.Running none) (hx : exec i s = .next t) :
    (isPrefix i = true ∧ s.Prefixed t) ∨ (isPrefix i = false ∧ (t.Running none ∨ State.Suspended i s t)) := by
  cases hp : isPrefix i with
  | true => exact .inl ⟨rfl, exec_prefix hp hx⟩
  | false =>
    refine .inr ⟨rfl, ?_⟩
    cases hb : isBlock i with
    | true => exact exec_block hb hs hx
    | false =>
      by_cases hpoll : i = .poll
      · subst hpoll
        exact exec_poll hs hx
      · exact .inl (exec_running hp hb hpoll hs hx)

/-! The end of a step. -/

/-- Between two instructions: nothing in progress, no prefix, no window, no armed step. -/
structure State.Closed (s : State) : Prop extends State.Running none s where
  noPrefix : s.prefixes = Prefixes.none
  noWindow : s.window = .none
  unarmed : s.stepArmed = false

/-- A state between two instructions meets the invariant. -/
theorem State.Closed.inv {s : State} (h : s.Closed) : s.Inv where
  memory := h.memory
  prefetch := h.prefetch
  queue := h.queue
  seen := h.seen
  prefixes := h.prefixes
  window := h.noWindow
  armed harmed := nomatch h.unarmed.symm.trans harmed
  progress _ hi := nomatch h.progress.symm.trans hi
  standby _ := ⟨h.progress, h.noPrefix, h.unarmed⟩
  held hreset := nomatch h.noReset.symm.trans hreset

/-- The next free values keep the invariant. -/
theorem State.Inv.nextDraw {s : State} (h : s.Inv) : s.nextDraw.Inv where
  memory := h.memory
  prefetch := h.prefetch
  queue := h.queue
  seen := h.seen
  prefixes := h.prefixes
  window := h.window
  armed := h.armed
  progress := h.progress
  standby := h.standby
  held hreset := (h.held hreset).nextDraw

theorem State.Running.takeInterrupt {p : Option Instr} {s : State} (h : s.Running p) {n : Byte} {ret : Word} :
    (s.takeInterrupt n ret).Running p := by
  have entered := h.enterInterrupt (n := n) (ret := ret)
  rw [State.takeInterrupt_eq]
  generalize s.enterInterrupt n ret = u at entered ⊢
  exact entered.same

theorem State.Running.takeExternal {p : Option Instr} {s : State} (h : s.Running p) (w : Window) (ret : Word) :
    (s.takeExternal w ret).Running p := by
  rcases s.takeExternal_cases w ret with ⟨_, e⟩ | ⟨_, _, _, e⟩ | ⟨_, _, e⟩ <;> rw [e]
  · exact takeInterrupt h.same
  · exact takeInterrupt h.same
  · exact h

/-- Taking an interrupt leaves the prefixes, the window and the armed step. -/
theorem State.takeExternal_control (s : State) (w : Window) (ret : Word) :
    (s.takeExternal w ret).prefixes = s.prefixes ∧ (s.takeExternal w ret).window = s.window ∧
      (s.takeExternal w ret).stepArmed = s.stepArmed := by
  rcases s.takeExternal_cases w ret with ⟨_, e⟩ | ⟨_, _, _, e⟩ | ⟨_, _, e⟩ <;> rw [e] <;>
    simp [State.takeInterrupt_eq]

theorem State.Closed.takeExternal {s : State} (h : s.Closed) (w : Window) (ret : Word) :
    (s.takeExternal w ret).Closed := by
  obtain ⟨hprefixes, hwindow, harmed⟩ := s.takeExternal_control w ret
  exact ⟨h.toRunning.takeExternal w ret, hprefixes.trans h.noPrefix, hwindow.trans h.noWindow, harmed.trans h.unarmed⟩

theorem State.Closed.takeSingleStep {s : State} (h : s.Closed) : s.takeSingleStep.Closed := by
  unfold State.takeSingleStep
  split
  · refine ⟨Running.takeInterrupt h.toRunning.same, ?_, ?_, ?_⟩
    · simpa [State.takeInterrupt_eq] using h.noPrefix
    · simpa [State.takeInterrupt_eq] using h.noWindow
    · simpa [State.takeInterrupt_eq] using h.unarmed
  · exact h

/-- The end of an instruction ends its prefixes and its window; a step armed is then pending. -/
theorem State.Running.closeInstruction {s : State} (h : s.Running none) : s.closeInstruction.Closed :=
  ⟨⟨h.memory, h.prefetch, h.queue, h.seen, rfl, h.noReset, h.progress⟩, rfl, rfl, rfl⟩

/-- The boundary after a completed instruction, with what it accepts. -/
theorem State.Running.boundary {s : State} (h : s.Running none) : s.boundary.Closed := by
  unfold State.boundary
  split
  · exact h.closeInstruction
  · exact (h.closeInstruction.takeExternal _ _).takeSingleStep

/-- An interrupt between the passes of a loop closes the instruction; without one it stays in progress. -/
theorem State.loopBoundary_cases {s : State} {p : Option Instr} (h : s.Running p) (hw : s.window = .none) :
    s.loopBoundary.Closed ∨ s.loopBoundary = s := by
  unfold State.loopBoundary
  split
  · have unprefixed : ({ s with prefixes := Prefixes.none } : State).Running p :=
      ⟨h.memory, h.prefetch, h.queue, h.seen, rfl, h.noReset, h.progress⟩
    obtain ⟨hprefixes, hwindow, -⟩ :=
      ({ s with prefixes := Prefixes.none } : State).takeExternal_control .none s.loopReturn
    have taken := unprefixed.takeExternal .none s.loopReturn
    generalize State.takeExternal _ _ _ = u at hprefixes hwindow taken ⊢
    exact .inl ⟨⟨taken.memory, taken.prefetch, taken.queue, taken.seen, taken.prefixes, taken.noReset, rfl⟩,
      hprefixes, hwindow.trans hw, rfl⟩
  · exact .inr rfl

/-- An instruction left in progress meets the invariant. -/
theorem State.Suspended.inv {i : Instr} {s t : State} (h : State.Suspended i s t) (hw : s.window = .none)
    (hstandby : s.standby = false) : t.Inv where
  memory := h.running.memory
  prefetch := h.running.prefetch
  queue := h.running.queue
  seen := h.running.seen
  prefixes := h.running.prefixes
  window := h.window.trans hw
  armed _ := .inr (by rw [h.running.progress]; exact Option.some_ne_none i)
  progress j hj := by
    obtain rfl : i = j := Option.some.inj (h.running.progress.symm.trans hj)
    exact h.progress
  standby hs := nomatch (h.standby.trans hstandby).symm.trans hs
  held hreset := nomatch h.running.noReset.symm.trans hreset

/-- A prefix byte leads to a state with the invariant. -/
theorem State.Prefixed.inv {s t : State} (h : s.Prefixed t) (hs : s.Running none) (hw : s.window = .none)
    (hstandby : s.standby = false) : t.Inv := by
  obtain ⟨same, hcount, hkinds⟩ := h
  have counted : t.prefixes.count = t.prefixes.kinds := by rw [hcount, hkinds, hs.prefixes]
  have armed : t.prefixes.count ≠ 0 := by rw [hcount]; exact Nat.succ_ne_zero _
  generalize t.prefixes = x at *
  subst same
  exact {
    memory := hs.memory
    prefetch := hs.prefetch
    queue := hs.queue
    seen := hs.seen
    prefixes := counted
    window := hw
    armed := fun _ => .inl armed
    progress := fun _ hi => nomatch hs.progress.symm.trans hi
    standby := fun hs => nomatch hstandby.symm.trans hs
    held := fun hreset => nomatch hs.noReset.symm.trans hreset }

/-- A meaning and the end of its step lead to a state with the invariant. -/
theorem finish_inv {i : Instr} {s t : State} (hs : s.Running none) (hw : s.window = .none)
    (hstandby : s.standby = false) (hx : exec i s = .next t) : (t.finish i).Inv := by
  rcases exec_cases hs hx with ⟨hp, h⟩ | ⟨hp, h | h⟩
  · rw [State.finish_eq, if_pos hp]
    exact h.inv hs hw hstandby
  · rw [State.finish_eq, hp, h.progress]
    exact h.boundary.inv
  · have inv := h.inv hw hstandby
    rcases t.finish_cases i with ⟨_, e⟩ | ⟨_, hidle, _⟩ | ⟨_, _, e⟩ | ⟨_, _, e⟩
    · rw [e]; exact inv
    · exact nomatch h.running.progress.symm.trans hidle
    · rw [e]; exact inv
    · rw [e]
      rcases State.loopBoundary_cases h.running (h.window.trans hw) with hclosed | same
      · exact hclosed.inv
      · rw [same]; exact inv

/-! The step. -/

/-- With RESET low, the sampled state of a state with the invariant is ready for a step. -/
theorem State.Inv.sample {s : State} (h : s.Inv) (hreset : s.resetRequested = false) :
    s.sample.Running s.sample.inProgress ∧ s.sample.window = .none ∧
      (s.sample.standby = true → s.sample.Closed) := by
  have low : s.sample.pins.resetHigh = false := hreset
  rw [State.sample_eq] at low ⊢
  refine ⟨⟨h.memory, h.prefetch, h.queue, h.seen, h.prefixes, low, rfl⟩, h.window, fun hs => ?_⟩
  obtain ⟨hidle, hprefix, harmed⟩ := h.standby hs
  exact ⟨⟨h.memory, h.prefetch, h.queue, h.seen, h.prefixes, low, hidle⟩, hprefix, h.window, harmed⟩

/-- A step in standby leaves standby or stays there. -/
theorem State.Closed.standbyStep {s : State} (h : s.Closed) : s.standbyStep.Closed := by
  unfold State.standbyStep
  split
  · exact h.takeExternal _ _
  · split
    · exact ⟨h.toRunning.same, h.noPrefix, h.noWindow, h.unarmed⟩
    · exact h

/-- The advance past the bytes of an instruction keeps what holds within a step. -/
theorem State.Running.advance {p : Option Instr} {s : State} (h : s.Running p) (n : Nat) : (s.advance n).Running p := by
  obtain ⟨hpfp, hqueue, hseen⟩ := State.advance_queue n h.prefetch h.queue
  have e := State.advance_eq s n
  generalize s.advance n = u at hpfp hqueue hseen e ⊢
  have hmem : u.mem = s.mem := by rw [e]
  have hprefixes : u.prefixes = s.prefixes := by rw [e]
  have hpins : u.pins = s.pins := by rw [e]
  have hprogress : u.inProgress = s.inProgress := by rw [e]
  exact ⟨by rw [hmem]; exact h.memory, hpfp, hqueue, Nat.le_of_eq hseen, by rw [hprefixes]; exact h.prefixes,
    by rw [hpins]; exact h.noReset, hprogress.trans h.progress⟩

/-- What RESET leaves meets the invariant, whatever the levels, if memory is canonical. -/
theorem State.AtReset.inv {s : State} (h : s.AtReset) (hm : s.mem.wf = true) : s.Inv := by
  obtain ⟨hpc, hpfp⟩ := h.counters
  obtain ⟨hqueue, hseen⟩ := h.queue
  obtain ⟨-, hwindow, harmed, -⟩ := h.interrupts
  obtain ⟨hprefixes, -, -, hidle⟩ := h.running
  exact {
    memory := hm
    prefetch := by rw [hpfp, hpc, hqueue]; rfl
    queue := by rw [hqueue]; exact Nat.zero_le _
    seen := by rw [hseen]; exact Nat.zero_le _
    prefixes := by rw [hprefixes]; rfl
    window := hwindow
    armed := fun h => nomatch harmed.symm.trans h
    progress := fun _ h => nomatch hidle.symm.trans h
    standby := fun _ => ⟨hidle, hprefixes, harmed⟩
    held := fun _ => h }

/-- A step with RESET high leads to a state with the invariant. -/
theorem State.Inv.resetStep {s : State} (h : s.Inv) (o : Host.Outcome State Fault Refusal) : (s.resetStep o).Inv := by
  cases hheld : s.pins.resetHigh with
  | true =>
    obtain ⟨segments, counters, control, queue, ⟨-, interrupts⟩, running⟩ := h.held hheld
    rw [State.resetStep_held o hheld, State.sample_eq]
    exact State.AtReset.inv ⟨segments, counters, control, queue, ⟨rfl, interrupts⟩, running⟩ h.memory
  | false =>
    rw [State.resetStep_rises o hheld]
    have kept : (s.cutShort o).sample.mem = (s.cutShort o).mem := by rw [State.sample_eq]
    have canonical : (s.cutShort o).sample.mem.wf = true := by rw [kept]; exact State.cutShort_wf o h.memory
    have reset := State.resetEvent_atReset (s.cutShort o).sample.nextDraw
    exact (reset.inv canonical).nextDraw

/-- Settles O3, by the cases of a step: `resetStep`, `standbyStep`, and `finish_inv` for the two that execute. -/
theorem everyStepKeepsInvariant : Obligations.EveryStepKeepsInvariant := by
  intro s t hs hstep
  rcases step_cases hstep with
    ⟨_, e⟩ | ⟨hr, hstandby, e⟩ | ⟨hr, hstandby, i, u, hi, hx, e⟩ | ⟨hr, hstandby, hidle, i, n, u, _, _, hx, e⟩ <;>
    rw [e]
  · exact hs.resetStep _
  · obtain ⟨-, -, hclosed⟩ := hs.sample hr
    exact (hclosed hstandby).standbyStep.inv.nextDraw
  · obtain ⟨run, hw, -⟩ := hs.sample hr
    have ready : ({ s.sample with inProgress := none } : State).Running none :=
      ⟨run.memory, run.prefetch, run.queue, run.seen, run.prefixes, run.noReset, rfl⟩
    exact (finish_inv ready hw hstandby hx).nextDraw
  · obtain ⟨run, hw, -⟩ := hs.sample hr
    rw [hidle] at run
    have e := State.advance_eq s.sample n
    refine (finish_inv (run.advance n) ?_ ?_ hx).nextDraw
    · rw [e]; exact hw
    · rw [e]; exact hstandby

end Sys2Proof.Machine

end

section

/-! Memory and the bus: the bytes of a word, the cycles of an access, and what the pins show of a cycle. -/

namespace Sys2Proof.Machine

/-- The first byte of an operand is at the physical address of its offset. -/
theorem byteAddr_zero (seg off : Word) : byteAddr seg off 0 = phys seg off := if_pos off.isLt

/-- Away from offset FFFFH the second byte of an operand is at the next offset. -/
theorem byteAddr_one {seg off : Word} (h : off ≠ 0xFFFF) : byteAddr seg off 1 = phys seg (off + 1) := by
  have inside : off.toNat + 1 < 2 ^ 16 := by bv_omega
  have next : (off + 1).toNat = off.toNat + 1 := by bv_omega
  rw [byteAddr, if_pos inside, phys, next, Nat.add_assoc]

/-- At offset FFFFH the second byte of an operand is at offset 0000H or at the next physical address. -/
theorem byteAddr_one_last (seg : Word) :
    byteAddr seg 0xFFFF 1 = phys seg 0 ∨ byteAddr seg 0xFFFF 1 = (phys seg 0xFFFF + 1) % 2 ^ 20 := by
  have outside : ¬ (0xFFFF : Word).toNat + 1 < 2 ^ 16 := by decide
  rw [byteAddr, if_neg outside]
  split
  · exact .inl rfl
  · exact .inr (Nat.mod_add_mod _ _ _).symm

/-- A byte operand is the byte at its physical address. -/
theorem State.load_byte (s : State) (seg off : Word) : s.load .byte seg off = s.readByte (phys seg off) :=
  congrArg s.readByte (byteAddr_zero seg off)

/-- A word operand has its low byte at the physical address of its offset. -/
theorem State.load_word (s : State) (seg off : Word) :
    s.load .word seg off = s.readByte (byteAddr seg off 1) ++ s.readByte (phys seg off) := by
  rw [← byteAddr_zero]
  rfl

/-- A value stored in RAM reads back. -/
theorem State.load_store {s : State} {w : Width} {g : SReg} {off : Word} (v : Val w)
    (hlow : kindAt s.platform (byteAddr (s.readSreg g) off 0) = .ram)
    (hhigh : kindAt s.platform (byteAddr (s.readSreg g) off 1) = .ram) :
    (s.store w g off v).load w (s.readSreg g) off = v := by
  have stored := (s.store_stores w g off v).memory.stored
  cases w with
  | byte => exact stored _ v (if_pos rfl) hlow
  | word =>
    have low := stored _ (lowByte v) (by simp [State.cellsOfStores, cellsOf, storedAt, byteAddr_ne, lowByte]) hlow
    have high := stored _ (highByte v) (by simp [State.cellsOfStores, cellsOf, storedAt, highByte]) hhigh
    rw [State.load_word, ← byteAddr_zero, high, low]
    exact halves_append v

/-- A word is transferred in one cycle at an even address of the μPD70116. -/
theorem wordInOneCycle_even {chip : Chip} {a : Nat} (hc : chip = .uPD70116) (ha : a % 2 = 0) :
    wordInOneCycle chip a = true := by
  subst hc
  exact decide_eq_true ha

/-- On the μPD70108, and at an odd address, a word takes two cycles. -/
theorem wordInOneCycle_odd {chip : Chip} {a : Nat} (h : chip = .uPD70108 ∨ a % 2 = 1) :
    wordInOneCycle chip a = false := by
  cases chip with
  | uPD70108 => rfl
  | uPD70116 => exact decide_eq_false (by have := h.resolve_left Chip.noConfusion; omega)

/-- A word transferred in one cycle. -/
theorem State.cyclesOf_word_one {s : State} {kind : CycleKind} {g : Option SReg} {addr : Nat → Nat} (v : Word)
    (h : wordInOneCycle s.chip (addr 0) = true) :
    s.cyclesOf kind g addr .word v = [s.busCycle kind g (some (addr 0)) [lowByte v, highByte v]] := if_pos h

/-- A word transferred in two cycles, the low byte first. -/
theorem State.cyclesOf_word_two {s : State} {kind : CycleKind} {g : Option SReg} {addr : Nat → Nat} (v : Word)
    (h : wordInOneCycle s.chip (addr 0) = false) :
    s.cyclesOf kind g addr .word v =
      [s.busCycle kind g (some (addr 0)) [lowByte v], s.busCycle kind g (some (addr 1)) [highByte v]] :=
  if_neg (by rw [h]; exact Bool.false_ne_true)

/-- The cycles of an access are of one type. -/
theorem State.cyclesOf_kind {s : State} {kind : CycleKind} {g : Option SReg} {addr : Nat → Nat} {w : Width} {v : Val w}
    {c : BusCycle} (h : c ∈ s.cyclesOf kind g addr w v) : c.kind = kind := by
  cases w with
  | byte => rw [List.mem_singleton.mp h]; rfl
  | word =>
    cases hone : wordInOneCycle s.chip (addr 0) with
    | true =>
      rw [State.cyclesOf_word_one v hone, List.mem_singleton] at h
      rw [h]; rfl
    | false =>
      rw [State.cyclesOf_word_two v hone, List.mem_cons, List.mem_singleton] at h
      rcases h with h | h <;> rw [h] <;> rfl

/-- UBE in a cycle that is not an interrupt acknowledge: low for a word and for a byte at an odd address
(20_memory.md R72). -/
theorem BusCycle.ube_low {c : BusCycle} (h : c.kind ≠ .interruptAck) :
    c.ube .uPD70116 = some false ↔ c.data.length = 2 ∨ ∃ a, c.address = some a ∧ a % 2 = 1 := by
  simp [BusCycle.ube, BusCycle.a0, h, Decidable.or_iff_not_imp_left]

/-- What the pins of a small-scale system show of a cycle: the select pin, BUFR/W and LBS0 in place of BS2-BS0 and
BUSLOCK, and the other pins as in a large-scale system (00_scope.md R8). -/
theorem BusCycle.pins_smallScale (c : BusCycle) (chip : Chip) :
    c.pins chip .smallScale = { c.pins chip .largeScale with
      busStatus := none
      select := some (c.kind.selectPin chip)
      bufferWrite := some (c.kind.smallScaleStatus.getLsbD 1)
      lbs0 := if chip = .uPD70108 then some (c.kind.smallScaleStatus.getLsbD 0) else none
      buslock := none } := by
  cases chip <;> rfl

/-- The select pin in an I/O cycle: high on the μPD70108, low on the μPD70116 (00_scope.md R6). -/
theorem CycleKind.selectPin_io {k : CycleKind} (h : k = .ioRead ∨ k = .ioWrite) (chip : Chip) :
    k.selectPin chip = decide (chip = .uPD70108) := by
  rcases h with rfl | rfl <;> cases chip <;> rfl

/-- The select pin in a memory cycle: low on the μPD70108, high on the μPD70116 (00_scope.md R6). -/
theorem CycleKind.selectPin_memory {k : CycleKind} (h : k = .fetch ∨ k = .memRead ∨ k = .memWrite) (chip : Chip) :
    k.selectPin chip = decide (chip = .uPD70116) := by
  rcases h with rfl | rfl | rfl <;> cases chip <;> rfl

/-- Settles O12, by the addresses of an operand's bytes, `State.store_stores`, the split of an access into cycles, and the
pins of a cycle. -/
theorem wordsInMemoryAreLittleEndian : Obligations.WordsInMemoryAreLittleEndian := by
  refine ⟨fun s seg off => ⟨s.load_byte seg off, fun hoff => ?_, fun hoff => ?_⟩,
    fun s w g off v => ⟨s.store_stores w g off v, s.store_eq w g off v, State.load_store v⟩,
    fun s w g off v kind => ⟨rfl, rfl, fun hw => ?_, fun hw hchip heven => ?_, fun hw hodd => ?_, fun hkind c hc => ?_⟩,
    ⟨rfl, rfl, rfl, rfl⟩, fun c chip a => ⟨rfl, ⟨?_, ?_, ?_, ?_, fun hio => ?_, fun hmem => ?_⟩, rfl, rfl⟩⟩
  · rw [State.load_word, byteAddr_one hoff]
  · subst hoff
    rw [State.load_word]
    exact (byteAddr_one_last seg).imp (fun h => by rw [h]) (fun h => by rw [h])
  · subst hw
    simp [State.cyclesOf, State.busCycle]
  · subst hw
    exact State.cyclesOf_word_one v (wordInOneCycle_even hchip heven)
  · subst hw
    exact State.cyclesOf_word_two v (wordInOneCycle_odd hodd)
  · have notAck : c.kind ≠ .interruptAck := by rw [State.cyclesOf_kind hc]; exact hkind
    exact ⟨rfl, rfl, Option.some_ne_none _, BusCycle.ube_low notAck⟩
  all_goals rw [BusCycle.pins_smallScale]
  · rw [CycleKind.selectPin_io hio]
  · rw [CycleKind.selectPin_memory hmem]

end Sys2Proof.Machine

end

section

/-! The prefix bytes, and interrupts between instructions: the boundary, the repeat loop and standby. -/

namespace Sys2Proof.Machine

/-- The first repeat prefix takes force. -/
theorem State.repeatPrefix_first {s : State} (k : Repeat) (h : s.prefixes.rep = none) :
    s.repeatPrefix k =
      .next { s with prefixes := { s.prefixes with rep := some k, count := s.prefixes.count + 1 } } := by
  rw [State.repeatPrefix, h]
  rfl

/-- A second repeat prefix is refused. -/
theorem State.repeatPrefix_second {s : State} (k : Repeat) (h : s.prefixes.rep ≠ none) :
    s.repeatPrefix k = .refused .repPrefixMisuse := if_pos (Option.isSome_iff_ne_none.mpr h)

/-- The first segment override takes force. -/
theorem State.overridePrefix_first {s : State} (g : SReg) (h : s.prefixes.seg = none) :
    s.overridePrefix g =
      .next { s with prefixes := { s.prefixes with seg := some g, count := s.prefixes.count + 1 } } := by
  rw [State.overridePrefix, h]
  rfl

/-- A second segment override is refused. -/
theorem State.overridePrefix_second {s : State} (g : SReg) (h : s.prefixes.seg ≠ none) :
    s.overridePrefix g = .refused .prefixMisuse := if_pos (Option.isSome_iff_ne_none.mpr h)

/-- The first BUSLOCK takes force. -/
theorem State.buslockPrefix_first {s : State} (h : s.prefixes.buslock = false) :
    s.buslockPrefix =
      .next { s with prefixes := { s.prefixes with buslock := true, count := s.prefixes.count + 1 } } := by
  rw [State.buslockPrefix, h]
  rfl

/-- A second BUSLOCK is refused. -/
theorem State.buslockPrefix_second {s : State} (h : s.prefixes.buslock = true) :
    s.buslockPrefix = .refused .prefixMisuse := if_pos h

/-- The meanings of the repeat prefixes. -/
theorem exec_repeatPrefix (s : State) :
    ∀ p ∈ [(Instr.repc, Repeat.repc), (.repnc, .repnc), (.rep, .rep), (.repne, .repne)],
      exec p.1 s = s.repeatPrefix p.2 := by
  simp only [List.forall_mem_cons]
  exact ⟨rfl, rfl, rfl, rfl, List.forall_mem_nil _⟩

/-- The meanings of the segment overrides. -/
theorem exec_overridePrefix (s : State) :
    ∀ p ∈ [(Instr.ds1Prefix, SReg.ds1), (.psPrefix, .ps), (.ssPrefix, .ss), (.ds0Prefix, .ds0)],
      exec p.1 s = s.overridePrefix p.2 := by
  simp only [List.forall_mem_cons]
  exact ⟨rfl, rfl, rfl, rfl, List.forall_mem_nil _⟩

/-- The meaning of BUSLOCK. -/
theorem exec_buslock (s : State) : exec .buslock s = s.buslockPrefix := rfl

/-- A cycle of an instruction shows on BUSLOCK whether its prefix is in force. -/
theorem State.busCycle_buslock (s : State) (kind : CycleKind) (g : Option SReg) (a : Option Nat) (data : List Byte) :
    ((s.busCycle kind g a data).pins s.chip s.wiring).buslock = s.buslockPin := by
  unfold State.buslockPin BusCycle.pins
  cases s.wiring <;> rfl

/-- Settles O17: each prefix byte by its first and its second occurrence, and the pin by the wiring. -/
theorem prefixesTakeForce : Obligations.PrefixesTakeForce := by
  intro s
  refine ⟨fun p hp => ?_, fun p hp => ?_, fun hfree => ?_, fun hlocked => ?_, fun hsmall => ?_, fun hlarge => ?_,
    s.busCycle_buslock⟩
  · rw [exec_repeatPrefix s p hp]
    exact ⟨State.repeatPrefix_first p.2, State.repeatPrefix_second p.2⟩
  · rw [exec_overridePrefix s p hp]
    exact ⟨State.overridePrefix_first p.2, State.overridePrefix_second p.2⟩
  · rw [exec_buslock, State.buslockPrefix_first hfree]
  · rw [exec_buslock, State.buslockPrefix_second hlocked]
  · rw [State.buslockPin, hsmall]
  · rw [State.buslockPin, hlarge]

/-- One of the two acknowledge cycles of INT, as the bus records it (60_exceptions.md R691). -/
def State.acknowledgeEvent (s : State) (locked : Bool) (data : List Byte) : BusEvent :=
  .cycle ⟨.interruptAck, !s.psw.md, s.psw.ie, locked, none, none, data⟩

/-- The state after both acknowledge cycles: the first locked, the second with the vector. -/
def State.acknowledged (s : State) : State :=
  { s with bus := s.acknowledgeEvent false [s.pins.vector] :: s.acknowledgeEvent true [] :: s.bus }

/-- The acknowledge cycles of INT recorded. -/
theorem State.recordCycles_acknowledge (s : State) :
    s.recordCycles (s.acknowledgeCycles s.pins.vector) = s.acknowledged := rfl

/-- INT is accepted when it is high and interrupts are enabled. -/
theorem State.intAccepted_iff (s : State) : s.intAccepted = true ↔ s.pins.intHigh = true ∧ s.psw.ie = true :=
  Bool.and_eq_true_iff

/-- INT is not accepted when it is low or interrupts are disabled. -/
theorem State.intAccepted_false_iff (s : State) :
    s.intAccepted = false ↔ s.pins.intHigh = false ∨ s.psw.ie = false := Bool.and_eq_false_iff

/-- A latched NMI is entered. -/
theorem State.takeExternal_nmi {s : State} (w : Window) (ret : Word) (h : s.nmiLatch = true) :
    s.takeExternal w ret = { s with nmiLatch := false }.takeInterrupt 2 ret := if_pos h

/-- With no NMI, an accepted INT outside the window of EI is entered after its acknowledge cycles. -/
theorem State.takeExternal_int {s : State} {w : Window} (ret : Word) (hn : s.nmiLatch = false) (hw : w ≠ .ei)
    (hi : s.intAccepted = true) : s.takeExternal w ret = s.acknowledged.takeInterrupt s.pins.vector ret := by
  rw [← State.recordCycles_acknowledge, State.takeExternal, hn, hi, bne_iff_ne.mpr hw]
  rfl

/-- With neither, nothing is entered. -/
theorem State.takeExternal_none {s : State} {w : Window} (ret : Word) (hn : s.nmiLatch = false)
    (h : w = .ei ∨ s.intAccepted = false) : s.takeExternal w ret = s := by
  rcases s.takeExternal_cases w ret with ⟨hn', _⟩ | ⟨_, hw, hi, _⟩ | ⟨_, _, e⟩
  · exact nomatch hn.symm.trans hn'
  · exact (h.elim hw fun hi' => nomatch hi'.symm.trans hi).elim
  · exact e

/-- The single step is entered where one is pending. -/
theorem State.takeSingleStep_eq {s : State} {pending : Bool} (h : s.stepPending = pending) :
    s.takeSingleStep =
      if pending then { { s with stepPending := false }.enterInterrupt 1 s.pc with standby := false } else s := by
  rw [State.takeSingleStep, h]
  rfl

/-- Taking NMI or INT leaves a pending single step pending. -/
theorem State.takeExternal_stepPending (s : State) (w : Window) (ret : Word) :
    (s.takeExternal w ret).stepPending = s.stepPending := by
  rcases s.takeExternal_cases w ret with ⟨_, e⟩ | ⟨_, _, _, e⟩ | ⟨_, _, e⟩ <;> rw [e] <;>
    simp [State.takeInterrupt_eq]

/-- Outside the window of a segment-register move the boundary takes NMI or INT, then a pending single step. -/
theorem State.boundary_of_ne_sreg {s u : State} (hw : s.window ≠ .sreg)
    (hu : s.closeInstruction.takeExternal s.window s.pc = u) :
    s.boundary =
      if s.stepPending || s.stepArmed then
        { { u with stepPending := false }.enterInterrupt 1 u.pc with standby := false }
      else u := by
  have pending : u.stepPending = (s.stepPending || s.stepArmed) := by rw [← hu, State.takeExternal_stepPending]; rfl
  rw [State.boundary, if_neg hw, hu, State.takeSingleStep_eq pending]

/-- Settles O57: the window of a segment-register move closes the boundary; else the cases of `State.takeExternal`, each
followed by the single step. -/
theorem boundaryTakesInterruptsByPriority : Obligations.BoundaryTakesInterruptsByPriority := by
  intro s closed acknowledge single
  refine ⟨fun hw => if_pos hw, fun hw hn => ?_, fun hw hn hint hie => ?_, fun hw hn hno => ?_⟩
  · have taken : closed.takeExternal s.window s.pc = _ := State.takeExternal_nmi _ _ hn
    exact State.boundary_of_ne_sreg hw taken
  · have notSreg : s.window ≠ .sreg := by rw [hw]; exact Window.noConfusion
    have notEi : s.window ≠ .ei := by rw [hw]; exact Window.noConfusion
    have accepted : closed.intAccepted = true := s.intAccepted_iff.mpr ⟨hint, hie⟩
    have taken : closed.takeExternal s.window s.pc = _ := State.takeExternal_int _ hn notEi accepted
    exact State.boundary_of_ne_sreg notSreg taken
  · have refused : s.window = .ei ∨ closed.intAccepted = false := hno.imp_right s.intAccepted_false_iff.mpr
    have untaken : closed.takeExternal s.window s.pc = closed := State.takeExternal_none _ hn refused
    exact State.boundary_of_ne_sreg hw untaken

/-- Where an interrupt is entered inside a repeat loop, the loop is suspended. -/
theorem State.loopBoundary_taken {s u : State} {n : Byte} {ret : Word} (h : s.nmiLatch = true ∨ s.intAccepted = true)
    (hu : { s with prefixes := Prefixes.none }.takeExternal .none s.loopReturn = u.takeInterrupt n ret) :
    s.loopBoundary =
      { u.enterInterrupt n ret with standby := false, inProgress := none, stepArmed := false } := by
  rw [State.loopBoundary, if_pos (Bool.or_eq_true_iff.mpr h), hu, State.takeInterrupt_eq]

/-- Without one the loop goes on. -/
theorem State.loopBoundary_same {s : State} (hn : s.nmiLatch = false) (hi : s.intAccepted = false) :
    s.loopBoundary = s := if_neg (by simp [hn, hi])

/-- Settles O58, by the cases of `State.takeExternal`. -/
theorem repeatLoopsAreInterruptedBetweenElements : Obligations.RepeatLoopsAreInterruptedBetweenElements := by
  intro s
  refine ⟨fun hn => ?_, fun hn hint hie => ?_, fun hn hno => ?_⟩
  · exact State.loopBoundary_taken (.inl hn) (State.takeExternal_nmi _ _ hn)
  · have accepted : s.intAccepted = true := s.intAccepted_iff.mpr ⟨hint, hie⟩
    exact State.loopBoundary_taken (.inr accepted) (State.takeExternal_int _ hn Window.noConfusion accepted)
  · exact State.loopBoundary_same hn (s.intAccepted_false_iff.mpr hno)

/-- A sample leaves PC. -/
@[simp] theorem State.sample_pc (s : State) : s.sample.pc = s.pc := by rw [State.sample_eq]

/-- A sample leaves the PSW. -/
@[simp] theorem State.sample_psw (s : State) : s.sample.psw = s.psw := by rw [State.sample_eq]

/-- A sample leaves standby as it is. -/
@[simp] theorem State.sample_standby (s : State) : s.sample.standby = s.standby := by rw [State.sample_eq]

/-- A sample puts nothing on the bus. -/
@[simp] theorem State.sample_bus (s : State) : s.sample.bus = s.bus := by rw [State.sample_eq]

/-- A sample draws no free value. -/
@[simp] theorem State.sample_draws (s : State) : s.sample.draws = s.draws := by rw [State.sample_eq]

/-- Where an interrupt is entered in standby, standby ends. -/
theorem State.standbyStep_taken {s u : State} {n : Byte} (h : s.nmiLatch = true ∨ s.intAccepted = true)
    (hd : u.draws = s.draws) (hu : s.takeExternal .none s.pc = u.takeInterrupt n s.pc) :
    s.standbyStep.nextDraw = { u.enterInterrupt n s.pc with standby := false, draws := s.draws + 1 } := by
  rw [State.standbyStep, if_pos (Bool.or_eq_true_iff.mpr h), hu, State.takeInterrupt_eq, State.nextDraw]
  simp only [State.enterInterrupt_draws, hd]

/-- Where none is entered, standby ends if INT is high. -/
theorem State.standbyStep_ignored {s : State} (hn : s.nmiLatch = false) (hi : s.intAccepted = false) :
    s.standbyStep = if s.pins.intHigh then { s with standby := false } else s := if_neg (by simp [hn, hi])

/-- A step in standby without RESET is a sample and what follows from it. -/
theorem step_standby {s : State} (hs : s.standby = true) (hr : s.resetRequested = false) :
    step s = .next s.sample.standbyStep.nextDraw := by
  rw [step_of_noReset hr, runStep, if_pos (by rw [State.sample_standby]; exact hs)]

/-- Settles O59: `State.standbyStep` on the sampled state, and the outputs by the wiring. -/
theorem standbyEndsByInterrupt : Obligations.StandbyEndsByInterrupt := by
  intro s hs hr
  refine ⟨fun hn => ?_, fun hn hint hie => ?_, fun hn hint hie => ?_, fun hn hint => ?_, fun i rest => State.sample_cons,
    State.sample_nil, fun hw => ?_, fun hw => ?_, fun hc => if_pos hc⟩
  · rw [step_standby hs hr, ← s.sample_pc, ← s.sample_draws]
    exact congrArg _ (State.standbyStep_taken (.inl hn) rfl (State.takeExternal_nmi _ _ hn))
  · rw [← s.sample_psw] at hie
    have accepted := s.sample.intAccepted_iff.mpr ⟨hint, hie⟩
    rw [step_standby hs hr, ← s.sample_pc, ← s.sample_draws, ← s.sample_psw, ← s.sample_bus]
    exact congrArg _
      (State.standbyStep_taken (.inr accepted) rfl (State.takeExternal_int _ hn Window.noConfusion accepted))
  · rw [← s.sample_psw] at hie
    rw [step_standby hs hr, State.standbyStep_ignored hn (s.sample.intAccepted_false_iff.mpr (.inr hie)), if_pos hint,
      ← s.sample_draws]
    rfl
  · rw [step_standby hs hr, State.standbyStep_ignored hn (s.sample.intAccepted_false_iff.mpr (.inl hint)), hint,
      ← s.sample_draws]
    rfl
  · unfold State.standbyPins
    rw [hw]
    exact ⟨rfl, rfl, rfl⟩
  · unfold State.standbyPins
    rw [hw]
    rfl

end Sys2Proof.Machine

end

section

/-! The words written out in the spec. -/

namespace Sys2Proof

/-- Bytes that are the encoding of a well-formed native instruction decode to it, all of them. -/
theorem decode_of_encode_eq {i : Instr} {bs : List Byte} (he : encode i = bs) (h : i.wellFormed = true)
    (hr : i ≠ .retem) (hc : ∀ v, i ≠ .calln v) : decode bs = .ok (i, bs.length) := by
  have all := decode_encode h hr hc []
  rwa [List.append_nil, he] at all

/-- Settles O7: each word is the encoding of its instruction, which `decode_encode` and `decodeEmulation_encode` read
back. -/
theorem writtenOutWordsDecode : Obligations.WrittenOutWordsDecode :=
  ⟨decode_of_encode_eq rfl rfl nofun nofun, decode_of_encode_eq rfl rfl nofun nofun,
    decode_of_encode_eq rfl rfl nofun nofun, decode_of_encode_eq rfl rfl nofun nofun,
    decode_of_encode_eq rfl rfl nofun nofun, decode_of_encode_eq rfl rfl nofun nofun,
    decode_of_encode_eq rfl rfl nofun nofun, decode_of_encode_eq rfl rfl nofun nofun,
    decodeEmulation_encode (.inr ⟨0x40, rfl⟩) []⟩

end Sys2Proof

end

section

/-! The frames of the claims: registers, memory, operands and the rest, between states that agree on them. -/

namespace Sys2Proof.Machine

/-- Every register reads as itself. -/
theorem SameRegisters.refl (s : State) : SameRegisters s s := fun _ => rfl

/-- The registers unchanged twice. -/
theorem SameRegisters.trans {s t u : State} (h1 : SameRegisters s t) (h2 : SameRegisters t u) : SameRegisters s u :=
  fun r => (h2 r).trans (h1 r)

/-- The words of the registers give their bytes and their values at either width. -/
theorem SameRegisters.readReg {s t : State} (h : SameRegisters s t) (w : Width) (r : Reg) :
    t.readReg w r = s.readReg w r := by
  cases w with
  | word => exact h r
  | byte =>
    have aw : t.aw = s.aw := h .alAw
    have bw : t.bw = s.bw := h .blBw
    have cw : t.cw = s.cw := h .clCw
    have dw : t.dw = s.dw := h .dlDw
    cases r <;> simp only [State.readReg, State.readReg8, aw, bw, cw, dw]

/-- The other registers of the same width read as before. -/
theorem SameRegistersBut.readReg {s t : State} {w : Width} {d r : Reg} (h : SameRegistersBut w d s t) (hr : r ≠ d) :
    t.readReg w r = s.readReg w r := by
  cases w with
  | byte => exact h.1 r hr
  | word => exact h r hr

/-- A byte register is no part of SP, BP, IX and IY. -/
theorem SameRegistersBut.pointers {s t : State} {w : Width} {d : Reg} (h : SameRegistersBut w d s t) (hw : w = .byte) :
    t.sp = s.sp ∧ t.bp = s.bp ∧ t.ix = s.ix ∧ t.iy = s.iy := by
  subst hw
  exact h.2

/-- A change of one register between states with the same registers. -/
theorem SameRegistersBut.congr {s t s' t' : State} {w : Width} {d : Reg} (h : SameRegistersBut w d s t)
    (hs : SameRegisters s' s) (ht : SameRegisters t t') : SameRegistersBut w d s' t' := by
  have others {r : Reg} (hr : r ≠ d) : t'.readReg w r = s'.readReg w r :=
    (ht.readReg w r).trans ((h.readReg hr).trans (hs.readReg w r))
  cases w with
  | word => exact fun r hr => others hr
  | byte =>
    obtain ⟨sp, bp, ix, iy⟩ := h.pointers rfl
    exact ⟨fun r hr => others hr, (ht .ahSp).trans (sp.trans (hs .ahSp)), (ht .chBp).trans (bp.trans (hs .chBp)),
      (ht .dhIx).trans (ix.trans (hs .dhIx)), (ht .bhIy).trans (iy.trans (hs .bhIy))⟩

/-- Memory unchanged twice. -/
theorem SameMemory.trans {s t u : State} (h1 : SameMemory s t) (h2 : SameMemory t u) : SameMemory s u := by
  obtain ⟨mem1, bus1, bytes1⟩ := h1
  obtain ⟨mem2, bus2, bytes2⟩ := h2
  exact ⟨mem2.trans mem1, bus2.trans bus1, fun a => (bytes2 a).trans (bytes1 a)⟩

/-- Memory and the bus depend on three fields. -/
theorem SameMemory.of_fields {s t : State} (hm : t.mem = s.mem) (hp : t.platform = s.platform) (hb : t.bus = s.bus) :
    SameMemory s t := ⟨hm, hb, State.readByte_congr hm hp hb⟩

/-- An operand written stays written where neither the registers nor memory change. -/
theorem OperandBecomes.congr {s t u : State} {w : Width} {o : Operand} {v : Val w} (h : OperandBecomes s t w o v)
    (hr : SameRegisters t u) (hm : SameMemory t u) (hp : u.platform = t.platform) (hs : t.platform = s.platform) :
    OperandBecomes s u w o v := by
  cases o with
  | reg d =>
    obtain ⟨value, others, memory⟩ := h
    exact ⟨(hr.readReg w d).trans value, others.congr (.refl s) hr, memory.trans hm⟩
  | mem m =>
    obtain ⟨registers, stores⟩ := h
    exact ⟨registers.trans hr, stores.congr rfl rfl rfl hm.1 hp hm.2.1 hs rfl rfl⟩

/-- The platform is part of the rest. -/
theorem SameRest.platform {s t : State} (h : SameRest s t) : t.platform = s.platform := by
  unfold SameRest at h
  rw [h]

/-- Recorded cycles change the record of the bus only. -/
theorem State.recordCycles_rest (s : State) (cs : List BusCycle) : SameRest s (s.recordCycles cs) := rfl

end Sys2Proof.Machine

end

section

/-! The data transfer instructions (40_data_transfer.md), each by what its one or two writes leave. -/

namespace Sys2Proof.Machine

/-- An instruction that writes one operand, after reads that only the bus shows, moves the value into it. -/
theorem MovesInto.of_writeOperand {i : Instr} {s u : State} {w : Width} {o : Operand} {v : Val w}
    (hx : exec i s = .next (u.writeOperand w o v)) (hp : u.psw = s.psw) (hr : SameRest s u) : MovesInto i s u w o v := by
  obtain ⟨becomes, psw, rest⟩ := u.writeOperand_moves w o v
  exact ⟨_, hx, becomes, psw.trans hp, hr.trans rest⟩

/-- The sign extension of a word: FFFFH where its highest bit is set. -/
theorem signWord_eq (x : Word) : (if x.msb then (0xFFFF : Word) else 0) = if x.toNat < 0x8000 then 0 else 0xFFFF := by
  have sign : x.msb = true ↔ 0x8000 ≤ x.toNat := msb_iff x
  by_cases h : x.msb = true
  · rw [if_pos h, if_neg (Nat.not_lt.mpr (sign.mp h))]
  · rw [if_neg h, if_pos (Nat.not_le.mp fun hle => h (sign.mpr hle))]

/-- Settles O13: each move writes one operand, and only the bus shows the read before it. -/
theorem movesComplete : Obligations.MovesComplete := by
  refine ⟨fun s w d q m imm addr => ?_, fun s w m r imm addr => ?_⟩
  · have ofRegister {i : Instr} {w : Width} {d : Reg} {v : Val w} (hx : exec i s = .next (s.writeReg w d v)) :
        MovesInto i s s w (.reg d) v := .of_writeOperand hx rfl (.refl s)
    have ofMemory {i : Instr} {w : Width} {d : Reg} {v : Val w} {g : SReg} {off : Word}
        (hx : exec i s = .next ((s.afterLoad w g off).writeReg w d v)) :
        MovesInto i s (s.afterLoad w g off) w (.reg d) v := .of_writeOperand hx rfl (s.recordCycles_rest _)
    refine ⟨ofRegister rfl, ofRegister rfl, ofMemory rfl, ofRegister rfl, ofRegister rfl, ofMemory rfl, ofRegister rfl,
      ?_, ofRegister rfl, ?_⟩
    · rw [BitVec.ofNat_toNat]
      exact ofMemory rfl
    · rw [← signWord_eq]
      exact ofRegister rfl
  · have direct : MovesInto (.movDmemAcc w addr) s s w (.mem (.direct addr)) (s.readReg w .alAw) :=
      .of_writeOperand rfl rfl (.refl s)
    obtain ⟨t, hx, ⟨registers, stores⟩, psw, rest⟩ := direct
    exact ⟨.of_writeOperand rfl rfl (.refl s), .of_writeOperand rfl rfl (.refl s), t, hx, stores, registers, psw, rest⟩

/-- What a segment register reads after a write to one of them. -/
theorem State.readSreg_writeSreg (s : State) (g h : SReg) (v : Word) :
    (s.writeSreg g v).readSreg h = if h = g then v else s.readSreg h := by
  cases g <;> cases h <;> rfl

/-- Writing a segment register leaves memory and the bus. -/
theorem State.writeSreg_memory (s : State) (g : SReg) (v : Word) : SameMemory s (s.writeSreg g v) :=
  .of_fields (s.writeSreg_mem g v) (s.writeSreg_platform g v) (s.writeSreg_bus g v)

/-- Writing a segment register changes the segment registers only. -/
theorem State.writeSreg_eq (s : State) (g : SReg) (v : Word) :
    s.writeSreg g v =
      { s with
        ps := (s.writeSreg g v).ps
        ss := (s.writeSreg g v).ss
        ds0 := (s.writeSreg g v).ds0
        ds1 := (s.writeSreg g v).ds1 } := by
  cases g <;> rfl

/-- Opening a window leaves the rest as it is, up to the window. -/
theorem SameRest.openWindow {s t : State} (h : SameRest s t) (x : Window) :
    SameRest { s with window := x } (t.openWindow x) :=
  congrArg (State.openWindow · x) h

/-- A segment register loaded from an operand that was read, and the window opened. -/
theorem State.writeSreg_openWindow_spec (u : State) (g : SReg) (v : Word) :
    let t := (u.writeSreg g v).openWindow .sreg
    t.readSreg g = v ∧ (∀ h, h ≠ g → t.readSreg h = u.readSreg h) ∧ SameMemory u t ∧
      t = { u with ps := t.ps, ss := t.ss, ds0 := t.ds0, ds1 := t.ds1, window := .sreg } := by
  intro t
  exact ⟨(u.readSreg_writeSreg g g v).trans (if_pos rfl), fun h hg => (u.readSreg_writeSreg g h v).trans (if_neg hg),
    u.writeSreg_memory g v, congrArg (State.openWindow · .sreg) (u.writeSreg_eq g v)⟩

/-- An operand written and a window opened. -/
theorem State.writeOperand_openWindow_spec (s : State) (w : Width) (o : Operand) (v : Val w) (x : Window) :
    let t := (s.writeOperand w o v).openWindow x
    OperandBecomes s t w o v ∧ t.psw = s.psw ∧ SameRest { s with window := x } t := by
  obtain ⟨becomes, psw, rest⟩ := s.writeOperand_moves w o v
  exact ⟨becomes.congr (.refl _) (.refl _) rfl rest.platform, psw, rest.openWindow x⟩

/-- A pointer load: a general register and a segment register written after the two reads. -/
theorem State.loadPointer_spec (s : State) (m : MemOp) (r : Reg) (g : SReg) (v x : Word) :
    let t := ((s.afterPtr m).writeReg .word r v).writeSreg g x
    OperandBecomes (s.afterPtr m) t .word (.reg r) v ∧ t.readSreg g = x ∧ t.psw = s.psw ∧
      SameRest (s.writeSreg g x) t := by
  obtain ⟨becomes, psw, rest⟩ := (s.afterPtr m).writeOperand_moves .word (.reg r) v
  refine ⟨becomes.congr (fun q => ?_) (State.writeSreg_memory _ g x) (State.writeSreg_platform _ g x) rest.platform,
    (State.readSreg_writeSreg _ g g x).trans (if_pos rfl), (State.writeSreg_psw _ g x).trans psw, ?_⟩
  · cases g <;> rfl
  · have all : SameRest s ((s.afterPtr m).writeReg .word r v) := (s.recordCycles_rest _).trans rest
    cases g <;> exact congrArg (State.writeSreg · _ x) all

/-- Settles O14: each writes a segment register, an operand, or one of each, and the moves open the window. -/
theorem segmentMovesAndPointerLoadsComplete : Obligations.SegmentMovesAndPointerLoadsComplete := by
  refine ⟨fun s g r m => ⟨⟨_, rfl, ?_⟩, ⟨_, rfl, ?_⟩, ⟨_, rfl, ?_⟩, ⟨_, rfl, ?_⟩⟩,
    fun s r m => ⟨⟨_, rfl, ?_⟩, ⟨_, rfl, ?_⟩⟩⟩
  · exact s.writeSreg_openWindow_spec g (s.readReg16 r)
  · exact (s.afterMem .word m).writeSreg_openWindow_spec g (s.loadMem .word m)
  · exact s.writeOperand_openWindow_spec .word (.reg r) (s.readSreg g) .sreg
  · exact s.writeOperand_openWindow_spec .word (.mem m) (s.readSreg g) .sreg
  · exact s.loadPointer_spec m r .ds0 (s.loadPtr m).1 (s.loadPtr m).2
  · exact s.loadPointer_spec m r .ds1 (s.loadPtr m).1 (s.loadPtr m).2

/-- The bits of AH after MOV AH,PSW, the lowest first; bits 5, 3 and 1 are free (40_data_transfer.md R165). -/
def State.pswLowBits (s : State) : List Bool :=
  [s.psw.cy, Config.freeBool s.draws 1, s.psw.p, Config.freeBool s.draws 3, s.psw.ac, Config.freeBool s.draws 5,
    s.psw.z, s.psw.s]

/-- Each bit of AH after MOV AH,PSW. -/
theorem State.getLsbD_pswLowWithDraws (s : State) {k : Nat} (hk : k < 8) :
    s.pswLowWithDraws.getLsbD k = s.pswLowBits.getD k false := by
  have widths : s.pswLowWithDraws.getLsbD k =
      BitVec.getLsbD (w := 1 + 1 + 1 + 1 + 1 + 1 + 1 + 1) s.pswLowWithDraws k := rfl
  rw [widths, State.pswLowWithDraws]
  simp only [BitVec.getLsbD_append, BitVec.getLsbD_ofBool, State.pswLowBits]
  match k, hk with
  | 0, _ | 1, _ | 2, _ | 3, _ | 4, _ | 5, _ | 6, _ | 7, _ => rfl
  | n + 8, h => exact absurd h (Nat.not_lt.mpr (Nat.le_add_left 8 n))

/-- Settles O15: the bits of the byte that AH becomes, and the frame of a register write. -/
theorem flagBytesMoveThroughAh : Obligations.FlagBytesMoveThroughAh := by
  refine fun s => ⟨⟨s.writeReg .byte .ahSp s.pswLowWithDraws, rfl, ?_⟩, ⟨_, rfl, rfl⟩⟩
  have bit {k : Nat} (hk : k < 8) :
      ((s.writeReg .byte .ahSp s.pswLowWithDraws).readReg8 .ahSp).getLsbD k = s.pswLowBits.getD k false :=
    (congrArg (BitVec.getLsbD · k) (s.readReg_writeReg .byte .ahSp _)).trans (s.getLsbD_pswLowWithDraws hk)
  obtain ⟨others, memory, rest⟩ := s.writeReg_frame .byte .ahSp s.pswLowWithDraws
  exact ⟨bit (by decide), bit (by decide), bit (by decide), bit (by decide), bit (by decide), others, memory,
    s.writeReg_psw _ _ _, rest⟩

/-- Two registers exchanged, also where they are halves of one word or the same. -/
theorem State.exchange_spec (s : State) (w : Width) (d q : Reg) :
    let t := (s.writeReg w d (s.readReg w q)).writeReg w q (s.readReg w d)
    t.readReg w d = s.readReg w q ∧ t.readReg w q = s.readReg w d ∧
      (∀ r, r ≠ d → r ≠ q → t.readReg w r = s.readReg w r) ∧
      (w = .byte → t.sp = s.sp ∧ t.bp = s.bp ∧ t.ix = s.ix ∧ t.iy = s.iy) ∧
      SameMemory s t ∧ t.psw = s.psw ∧ SameRest s t := by
  intro t
  obtain ⟨others1, memory1, rest1⟩ := s.writeReg_frame w d (s.readReg w q)
  obtain ⟨others2, memory2, rest2⟩ := (s.writeReg w d (s.readReg w q)).writeReg_frame w q (s.readReg w d)
  refine ⟨?_, State.readReg_writeReg _ w q _, fun r hd hq => (others2.readReg hq).trans (others1.readReg hd),
    fun hw => ?_, memory1.trans memory2, by simp [t], rest1.trans rest2⟩
  · by_cases h : d = q
    · subst h
      exact State.readReg_writeReg _ w d _
    · exact (others2.readReg h).trans (s.readReg_writeReg w d _)
  · obtain ⟨sp1, bp1, ix1, iy1⟩ := others1.pointers hw
    obtain ⟨sp2, bp2, ix2, iy2⟩ := others2.pointers hw
    exact ⟨sp2.trans sp1, bp2.trans bp1, ix2.trans ix1, iy2.trans iy1⟩

/-- A memory operand and a register exchanged: the operand is read, then stored to, then the register takes its value. -/
theorem State.exchangeMem_spec (s : State) (w : Width) (m : MemOp) (d : Reg) :
    let t := ((s.afterMem w m).storeMem w m (s.readReg w d)).writeReg w d (s.loadMem w m)
    t.readReg w d = s.loadMem w m ∧ SameRegistersBut w d s t ∧
      Stores (s.afterMem w m) t [⟨w, s.memSreg m, s.ea m, s.readReg w d⟩] ∧ t.psw = s.psw ∧ SameRest s t := by
  intro t
  obtain ⟨⟨registers, stores⟩, psw, rest⟩ := (s.afterMem w m).writeOperand_moves w (.mem m) (s.readReg w d)
  obtain ⟨others, memory, rest'⟩ :=
    State.writeReg_frame ((s.afterMem w m).storeMem w m (s.readReg w d)) w d (s.loadMem w m)
  exact ⟨State.readReg_writeReg _ w d _, others.congr registers (.refl _),
    stores.congr rfl rfl rfl memory.1 rest'.platform memory.2.1 rest.platform rfl rfl,
    (State.writeReg_psw _ w d _).trans psw, ((s.recordCycles_rest _).trans rest).trans rest'⟩

/-- Settles O16, by the exchange of two registers and of a memory operand and a register. -/
theorem exchangesComplete : Obligations.ExchangesComplete := by
  refine fun s w d q m => ⟨⟨_, rfl, s.exchange_spec w d q⟩, ⟨_, rfl, s.exchangeMem_spec w m d⟩, ⟨_, rfl, ?_⟩⟩
  obtain ⟨aw, reg, others, -, memory, psw, rest⟩ := s.exchange_spec .word .alAw d
  refine ⟨aw, reg, fun r hr => ?_, memory, psw, rest⟩
  obtain ⟨hne, hd⟩ : r ≠ .alAw ∧ r ≠ d := by simpa using hr
  exact others r hne hd

end Sys2Proof.Machine

end

section

/-! Input and output, and the parts of an element of a block instruction (41_block_bitfield_io.md): the words, the memory
and the rest that each part leaves. -/

namespace Sys2Proof.Machine

/-- A word takes one cycle at an even address of the μPD70116 only. -/
theorem wordInOneCycle_iff (chip : Chip) (a : Nat) :
    wordInOneCycle chip a = true ↔ chip = .uPD70116 ∧ a % 2 = 0 := by
  cases chip with
  | uPD70108 => exact ⟨nofun, nofun⟩
  | uPD70116 => exact ⟨fun h => ⟨rfl, of_decide_eq_true h⟩, fun h => decide_eq_true h.2⟩

/-- The cycles of an access to a byte port. -/
theorem State.ioCycles_byte (s : State) (kind : CycleKind) (port : Word) (v : Byte) :
    s.ioCycles kind .byte port v = [s.busCycle kind none (some port.toNat) [v]] := by
  simp [State.ioCycles, State.cyclesOf]

/-- The cycles of an access to a word port: one at an even port of the μPD70116, else two, the low byte first
(20_memory.md R80, R81). -/
theorem State.ioCycles_word (s : State) (kind : CycleKind) (port : Word) (v : Word) :
    s.ioCycles kind .word port v =
      if s.chip = .uPD70116 ∧ port.toNat % 2 = 0 then
        [s.busCycle kind none (some port.toNat) [lowByte v, highByte v]]
      else
        [s.busCycle kind none (some port.toNat) [lowByte v],
          s.busCycle kind none (some (port + 1).toNat) [highByte v]] := by
  simp only [State.ioCycles, State.cyclesOf, wordInOneCycle_iff, BitVec.ofNat_eq_ofNat, BitVec.add_zero]
  rfl

/-- The word registers outside a list, through two changes. -/
theorem SameWordsBut.trans {xs ys : List Reg} {s t u : State} (h1 : SameWordsBut xs s t) (h2 : SameWordsBut ys t u) :
    SameWordsBut (xs ++ ys) s u := by
  intro r hr
  obtain ⟨hx, hy⟩ := not_or.mp (mt List.mem_append.mpr hr)
  exact (h2 r hy).trans (h1 r hx)

/-- Where every register is unchanged, those outside the empty list are. -/
theorem SameRegisters.words {s t : State} (h : SameRegisters s t) : SameWordsBut [] s t := fun r _ => h r

/-- A store changes no register. -/
theorem State.store_registers (s : State) (w : Width) (g : SReg) (off : Word) (v : Val w) :
    SameRegisters s (s.store w g off v) := by
  intro r
  rw [State.store_eq]
  cases r <;> rfl

/-- A store changes memory and the bus only. -/
theorem State.store_rest (s : State) (w : Width) (g : SReg) (off : Word) (v : Val w) :
    SameRest s (s.store w g off v) := by
  unfold SameRest
  rw [State.store_eq]

/-- Writing AL or AW changes the word AW only. -/
theorem State.writeReg_acc_words (s : State) (w : Width) (v : Val w) :
    SameWordsBut [.alAw] s (s.writeReg w .alAw v) := by
  intro r hr
  cases r with
  | alAw => exact absurd (List.mem_singleton.mpr rfl) hr
  | _ => cases w <;> rfl

/-- Stores stay made where memory, the platform and the bus do not change. -/
theorem Stores.sameMemory {s t u : State} {ops : List StoreOp} (h : Stores s t ops) (hm : SameMemory t u)
    (hp : u.platform = t.platform) (st : t.platform = s.platform) : Stores s u ops :=
  h.congr rfl rfl rfl hm.1 hp hm.2.1 st rfl rfl

/-- IX moved past one element, in a state with the direction of `s`. -/
theorem State.advanceIx_spec {s : State} (u : State) (w : Width) (hi : u.ix = s.ix) (hd : u.psw.dir = s.psw.dir) :
    let t := u.advanceIx w
    t.ix = s.stepIndex w s.ix ∧ SameWordsBut [.dhIx] u t ∧ SameMemory u t ∧ SameRest u t := by
  refine ⟨?_, fun r hr => ?_, .of_fields rfl rfl rfl, rfl⟩
  · rw [State.advanceIx_ix, State.stepIndex, State.stepIndex, hi, hd]
  · cases r with
    | dhIx => exact absurd (List.mem_singleton.mpr rfl) hr
    | _ => rfl

/-- IY moved past one element, in a state with the direction of `s`. -/
theorem State.advanceIy_spec {s : State} (u : State) (w : Width) (hi : u.iy = s.iy) (hd : u.psw.dir = s.psw.dir) :
    let t := u.advanceIy w
    t.iy = s.stepIndex w s.iy ∧ SameWordsBut [.bhIy] u t ∧ SameMemory u t ∧ SameRest u t := by
  refine ⟨?_, fun r hr => ?_, .of_fields rfl rfl rfl, rfl⟩
  · rw [State.advanceIy_iy, State.stepIndex, State.stepIndex, hi, hd]
  · cases r with
    | bhIy => exact absurd (List.mem_singleton.mpr rfl) hr
    | _ => rfl

/-- IN: the accumulator holds the value that the read cycles carry (41_block_bitfield_io.md R230, R231). -/
theorem State.input_spec (s : State) (w : Width) (port : Word) :
    let t := s.input w port
    SameMemory (s.recordCycles (s.ioCycles .ioRead w port (t.readReg w .alAw))) t ∧ SameRegistersBut w .alAw s t ∧
      t.psw = s.psw ∧ SameRest s t := by
  intro t
  have value : t.readReg w .alAw = s.ioRead w port := State.readReg_writeReg _ w .alAw _
  obtain ⟨others, memory, rest⟩ := (s.afterIoRead w port).writeReg_frame w .alAw (s.ioRead w port)
  rw [value]
  exact ⟨memory, others.congr (.refl s) (.refl t), State.writeReg_psw _ w .alAw _, (s.recordCycles_rest _).trans rest⟩

/-- Settles O22, by `State.input_spec` and the split of an access into cycles. -/
theorem inputAndOutputComplete : Obligations.InputAndOutputComplete := by
  intro s w imm
  refine ⟨?_, ?_, fun kind port v => ?_⟩
  · simp only [List.forall_mem_cons]
    exact ⟨⟨_, rfl, s.input_spec w _⟩, ⟨_, rfl, s.input_spec w _⟩, List.forall_mem_nil _⟩
  · simp only [List.forall_mem_cons]
    exact ⟨rfl, rfl, List.forall_mem_nil _⟩
  · cases w with
    | byte =>
      intro cycle
      rw [State.ioCycles_byte, if_pos rfl, show BitVec.setWidth 8 v = v from BitVec.setWidth_eq v]
      rfl
    | word => exact s.ioCycles_word kind port v

end Sys2Proof.Machine

end

section

/-! One element of each block instruction (41_block_bitfield_io.md R205, R210 to R214, R234, R235): an access or two,
then the flags or the accumulator, then the index registers. -/

namespace Sys2Proof.Machine

/-- IX and IY moved past one element, in a state that agrees with `s` on them and on the direction. -/
theorem State.advanceBoth_spec {s : State} (u : State) (w : Width) (hr : SameRegisters s u)
    (hd : u.psw.dir = s.psw.dir) :
    let t := (u.advanceIx w).advanceIy w
    t.ix = s.stepIndex w s.ix ∧ t.iy = s.stepIndex w s.iy ∧ SameWordsBut [.dhIx, .bhIy] s t ∧ SameMemory u t ∧
      SameRest u t := by
  intro t
  obtain ⟨ix, words1, memory1, rest1⟩ := u.advanceIx_spec (s := s) w (hr .dhIx) hd
  obtain ⟨iy, words2, memory2, rest2⟩ := (u.advanceIx w).advanceIy_spec (s := s) w (hr .bhIy) hd
  exact ⟨ix, iy, hr.words.trans (words1.trans words2), memory1.trans memory2, rest1.trans rest2⟩

/-- MOVBK: the source element, stored to the destination after its read (R210). -/
theorem State.moveElement_spec (s : State) (w : Width) :
    let t := s.moveElement w
    Stores (s.afterSource w) t [⟨w, .ds1, s.iy, s.sourceElement w⟩] ∧ t.ix = s.stepIndex w s.ix ∧
      t.iy = s.stepIndex w s.iy ∧ SameWordsBut [.dhIx, .bhIy] s t ∧ t.psw = s.psw ∧ SameRest s t := by
  intro t
  let u := (s.afterSource w).storeDest w (s.sourceElement w)
  have psw : u.psw = s.psw := (s.afterSource w).storeDest_psw w _
  have platform : u.platform = s.platform := (s.afterSource w).storeDest_platform w _
  obtain ⟨ix, iy, words, memory, rest⟩ := u.advanceBoth_spec (s := s) w
    ((s.afterSource w).store_registers w .ds1 s.iy _) (congrArg Psw.dir psw)
  exact ⟨((s.afterSource w).store_stores w .ds1 s.iy _).sameMemory memory rfl platform, ix, iy, words, psw,
    ((s.recordCycles_rest _).trans ((s.afterSource w).store_rest w .ds1 s.iy _)).trans rest⟩

/-- CMPBK: the flags of source minus destination, which are read in this order (R211). -/
theorem State.compareElement_spec (s : State) (w : Width) :
    let t := s.compareElement w
    let u := s.afterSource w
    DifferenceBorrows t.psw (s.sourceElement w) (u.destElement w) false ∧
      ResultFlags t.psw (s.sourceElement w - u.destElement w) ∧ SameControlFlags s.psw t.psw ∧
      t.ix = s.stepIndex w s.ix ∧ t.iy = s.stepIndex w s.iy ∧ SameWordsBut [.dhIx, .bhIy] s t ∧
      SameMemory (u.afterDest w) t ∧ SameRest s t := by
  intro t u
  obtain ⟨borrows, result⟩ := (u.afterDest w).setSubFlags_spec w (s.sourceElement w) (u.destElement w)
  obtain ⟨control, registers, memory, rest⟩ :=
    (u.afterDest w).setStatus_frame (subFlags (s.sourceElement w) (u.destElement w) false)
  obtain ⟨ix, iy, words, memory', rest'⟩ :=
    State.advanceBoth_spec (s := s) _ w ((SameRegisters.refl s).trans registers) rfl
  exact ⟨borrows, result, control, ix, iy, words, memory.trans memory', rest.trans rest'⟩

/-- CMPM: the flags of the accumulator minus the destination (R212). -/
theorem State.scanElement_spec (s : State) (w : Width) :
    let t := s.scanElement w
    DifferenceBorrows t.psw (s.readReg w .alAw) (s.destElement w) false ∧
      ResultFlags t.psw (s.readReg w .alAw - s.destElement w) ∧ SameControlFlags s.psw t.psw ∧
      t.iy = s.stepIndex w s.iy ∧ SameWordsBut [.bhIy] s t ∧ SameMemory (s.afterDest w) t ∧ SameRest s t := by
  intro t
  obtain ⟨borrows, result⟩ := (s.afterDest w).setSubFlags_spec w (s.readReg w .alAw) (s.destElement w)
  obtain ⟨control, registers, memory, rest⟩ :=
    (s.afterDest w).setStatus_frame (subFlags (s.readReg w .alAw) (s.destElement w) false)
  obtain ⟨iy, words, memory', rest'⟩ := State.advanceIy_spec (s := s) _ w (registers .bhIy) rfl
  exact ⟨borrows, result, control, iy, registers.words.trans words, memory.trans memory', rest.trans rest'⟩

/-- LDM: the accumulator takes the source element (R213). -/
theorem State.loadElement_spec (s : State) (w : Width) :
    let t := s.loadElement w
    t.readReg w .alAw = s.sourceElement w ∧ (w = .byte → t.readReg8 .ahSp = s.readReg8 .ahSp) ∧
      t.ix = s.stepIndex w s.ix ∧ SameWordsBut [.alAw, .dhIx] s t ∧ SameMemory (s.afterSource w) t ∧ t.psw = s.psw ∧
      SameRest s t := by
  intro t
  let u := (s.afterSource w).writeReg w .alAw (s.sourceElement w)
  have value : u.readReg w .alAw = s.sourceElement w := State.readReg_writeReg _ w .alAw _
  have psw : u.psw = s.psw := State.writeReg_psw _ w .alAw _
  have words := (s.afterSource w).writeReg_acc_words w (s.sourceElement w)
  obtain ⟨others, memory, rest⟩ := (s.afterSource w).writeReg_frame w .alAw (s.sourceElement w)
  obtain ⟨ix, words', memory', rest'⟩ := u.advanceIx_spec (s := s) w (words .dhIx (by decide)) (congrArg Psw.dir psw)
  refine ⟨?_, fun hw => ?_, ix, words.trans words', memory.trans memory', psw,
    ((s.recordCycles_rest _).trans rest).trans rest'⟩
  · rw [← value]
    cases w <;> rfl
  · subst hw
    exact others.readReg (r := .ahSp) Reg.noConfusion

/-- A value stored to the destination element after reads that only the bus shows, and IY moved. -/
theorem State.storeDest_advanceIy_spec (s : State) (w : Width) (cs : List BusCycle) (v : Val w) :
    let t := ((s.recordCycles cs).storeDest w v).advanceIy w
    Stores (s.recordCycles cs) t [⟨w, .ds1, s.iy, v⟩] ∧ t.iy = s.stepIndex w s.iy ∧ SameWordsBut [.bhIy] s t ∧
      t.psw = s.psw ∧ SameRest s t := by
  intro t
  let u := (s.recordCycles cs).storeDest w v
  have psw : u.psw = s.psw := (s.recordCycles cs).storeDest_psw w v
  have platform : u.platform = s.platform := (s.recordCycles cs).storeDest_platform w v
  have registers : SameRegisters s u := (s.recordCycles cs).store_registers w .ds1 s.iy v
  obtain ⟨iy, words, memory, rest⟩ := u.advanceIy_spec (s := s) w (registers .bhIy) (congrArg Psw.dir psw)
  exact ⟨((s.recordCycles cs).store_stores w .ds1 s.iy v).sameMemory memory rfl platform, iy,
    registers.words.trans words, psw,
    ((s.recordCycles_rest cs).trans ((s.recordCycles cs).store_rest w .ds1 s.iy v)).trans rest⟩

/-- Without a repeat prefix one pass is one element (R202, R205). -/
theorem State.repeatElement_plain {s : State} (i : Instr) (k : BlockKind) (element : State → State)
    (h : s.prefixes.rep = none) : s.repeatElement i k element = element s := by
  rw [State.repeatElement, h]

/-- A block instruction without a repeat prefix completes in the state after one element. -/
theorem Completes.of_element {i : Instr} {s : State} {k : BlockKind} {element : State → State} {post : State → Prop}
    (h : s.prefixes.rep = none) (hx : exec i s = .next (s.repeatElement i k element)) (hp : post (element s)) :
    Completes i s post :=
  ⟨element s, hx.trans (congrArg _ (State.repeatElement_plain i k element h)), hp⟩

/-- Settles O18, by what one element of each block instruction leaves. -/
theorem blockElementsComplete : Obligations.BlockElementsComplete := by
  intro s w h
  exact ⟨.of_element h rfl (s.moveElement_spec w), .of_element h rfl (s.compareElement_spec w),
    .of_element h rfl (s.scanElement_spec w), .of_element h rfl (s.loadElement_spec w),
    .of_element h rfl (s.storeDest_advanceIy_spec w [] _),
    .of_element h rfl ⟨s.ioRead w s.dw, s.storeDest_advanceIy_spec w _ _⟩, .of_element h rfl rfl⟩

end Sys2Proof.Machine

end

section

/-! The repeat loop (41_block_bitfield_io.md R201 to R206): one pass, and the elements, in which
the repeat prefix and CW take no part. -/

namespace Sys2Proof.Machine

/-- The state with another repeat prefix in force, or none. -/
def State.withRep (s : State) (r : Option Repeat) : State := { s with prefixes := { s.prefixes with rep := r } }

/-- The repeat prefix takes no part in writing a byte. -/
theorem State.writeByte_withRep (s : State) (r : Option Repeat) (a : Nat) (v : Byte) :
    (s.withRep r).writeByte a v = (s.writeByte a v).withRep r := by
  unfold State.writeByte
  rw [show (s.withRep r).platform = s.platform from rfl]
  cases kindAt s.platform a <;> rfl

/-- The repeat prefix takes no part in a store. -/
theorem State.store_withRep (s : State) (r : Option Repeat) (w : Width) (g : SReg) (off : Word) (v : Val w) :
    (s.withRep r).store w g off v = (s.store w g off v).withRep r := by
  have bytes : (s.withRep r).storeBytes w (s.readSreg g) off v = (s.storeBytes w (s.readSreg g) off v).withRep r := by
    cases w with
    | byte => exact s.writeByte_withRep r _ v
    | word =>
      show ((s.withRep r).writeByte _ _).writeByte _ _ = State.withRep (State.writeByte _ _ _) r
      rw [State.writeByte_withRep, State.writeByte_withRep]
  exact congrArg (State.recordCycles · (s.writeCycles w g off v)) bytes

/-- The repeat prefix takes no part in moving IX. -/
theorem State.advanceIx_withRep (s : State) (r : Option Repeat) (w : Width) :
    (s.withRep r).advanceIx w = (s.advanceIx w).withRep r := rfl

/-- The repeat prefix takes no part in moving IY. -/
theorem State.advanceIy_withRep (s : State) (r : Option Repeat) (w : Width) :
    (s.withRep r).advanceIy w = (s.advanceIy w).withRep r := rfl

/-- The repeat prefix takes no part in storing to the destination element, at DS1:IY. -/
theorem State.storeDest_withRep (s : State) (r : Option Repeat) (w : Width) (v : Val w) :
    (s.withRep r).storeDest w v = (s.storeDest w v).withRep r := s.store_withRep r w .ds1 s.iy v

/-- What one pass of the loop asks of an element: it leaves CW alone, and the repeat prefix takes no part in it. -/
structure LoopElement (element : State → State) : Prop extends KeepsLoop element where
  cw : ∀ s : State, (element s).cw = s.cw
  rep : ∀ (s : State) (r : Option Repeat), element (s.withRep r) = (element s).withRep r

namespace LoopElement

theorem moveElement (w : Width) : LoopElement (State.moveElement w) where
  toKeepsLoop := .moveElement w
  cw s := by
    obtain ⟨_, _, _, words, _⟩ := s.moveElement_spec w
    exact words .clCw (by decide)
  rep s r := by
    have source : (s.withRep r).afterSource w = (s.afterSource w).withRep r := rfl
    have value : (s.withRep r).sourceElement w = s.sourceElement w := rfl
    rw [State.moveElement, source, value, State.storeDest_withRep, State.advanceIx_withRep, State.advanceIy_withRep,
      State.moveElement]

theorem compareElement (w : Width) : LoopElement (State.compareElement w) where
  toKeepsLoop := .compareElement w
  cw s := by
    obtain ⟨_, _, _, _, _, words, _⟩ := s.compareElement_spec w
    exact words .clCw (by decide)
  rep s r := by
    have source : (s.withRep r).afterSource w = (s.afterSource w).withRep r := rfl
    have src : (s.withRep r).sourceElement w = s.sourceElement w := rfl
    have dst : ((s.afterSource w).withRep r).destElement w = (s.afterSource w).destElement w := rfl
    rw [State.compareElement, source, src, dst]
    rfl

theorem scanElement (w : Width) : LoopElement (State.scanElement w) where
  toKeepsLoop := .scanElement w
  cw s := by
    obtain ⟨_, _, _, _, words, _⟩ := s.scanElement_spec w
    exact words .clCw (by decide)
  rep _ _ := rfl

theorem loadElement (w : Width) : LoopElement (State.loadElement w) where
  toKeepsLoop := .loadElement w
  cw s := by
    obtain ⟨_, _, _, words, _⟩ := s.loadElement_spec w
    exact words .clCw (by decide)
  rep s r := by cases w <;> rfl

theorem storeElement (w : Width) : LoopElement (State.storeElement w) where
  toKeepsLoop := .storeElement w
  cw s := by simp [State.storeElement]
  rep s r := by
    have value : (s.withRep r).readReg w .alAw = s.readReg w .alAw := by cases w <;> rfl
    rw [State.storeElement, value, State.storeDest_withRep, State.advanceIy_withRep, State.storeElement]

theorem inputElement (w : Width) : LoopElement (State.inputElement w) where
  toKeepsLoop := .inputElement w
  cw s := by simp [State.inputElement]
  rep s r := by
    have port : (s.withRep r).afterIoRead w (s.withRep r).dw = (s.afterIoRead w s.dw).withRep r := rfl
    have value : (s.withRep r).ioRead w (s.withRep r).dw = s.ioRead w s.dw := by cases w <;> rfl
    rw [State.inputElement, port, value, State.storeDest_withRep, State.advanceIy_withRep, State.inputElement]

theorem outputElement (w : Width) : LoopElement (State.outputElement w) where
  toKeepsLoop := .outputElement w
  cw s := by simp [State.outputElement]
  rep _ _ := rfl

end LoopElement

/-- When a repeat prefix ends the loop early: after a comparison only, by CY or by Z (R201 to R204). -/
theorem exitTest_iff (p : Repeat) (k : BlockKind) (psw : Psw) :
    exitTest p k psw = true ↔
      k = .compares ∧
        ((p = .repc ∧ psw.cy = false) ∨ (p = .repnc ∧ psw.cy = true) ∨ (p = .rep ∧ psw.z = false) ∨
          (p = .repne ∧ psw.z = true)) := by
  cases k <;> cases p <;> simp [exitTest]

/-- The block instructions as passes of the loop around their elements; CMPBK and CMPM are those that compare. -/
theorem exec_block_eq (w : Width) :
    ∀ i ∈ [Instr.movbk w, .cmpbk w, .cmpm w, .ldm w, .stm w, .inm w, .outm w],
      ∃ (k : BlockKind) (element : State → State), LoopElement element ∧
        (∀ s : State, exec i s = .next (s.repeatElement i k element)) ∧
        (k = .compares ↔ i = .cmpbk w ∨ i = .cmpm w) := by
  simp only [List.forall_mem_cons]
  exact ⟨⟨.moves, _, .moveElement w, fun _ => rfl, by simp⟩, ⟨.compares, _, .compareElement w, fun _ => rfl, by simp⟩,
    ⟨.compares, _, .scanElement w, fun _ => rfl, by simp⟩, ⟨.moves, _, .loadElement w, fun _ => rfl, by simp⟩,
    ⟨.moves, _, .storeElement w, fun _ => rfl, by simp⟩, ⟨.moves, _, .inputElement w, fun _ => rfl, by simp⟩,
    ⟨.moves, _, .outputElement w, fun _ => rfl, by simp⟩, List.forall_mem_nil _⟩

/-- Under a repeat prefix nothing happens when CW is 0 (R202). -/
theorem State.repeatElement_zero {s : State} {p : Repeat} (i : Instr) (k : BlockKind) (element : State → State)
    (hp : s.prefixes.rep = some p) (hc : s.cw = 0) : s.repeatElement i k element = s := by
  rw [State.repeatElement, hp]
  exact if_pos hc

/-- Under a repeat prefix, one pass when CW is not 0: the element as without the prefix, CW - 1, and the exit test on
the flags that the element left (R202). -/
theorem State.repeatElement_pass {s : State} {p : Repeat} {element : State → State} (i : Instr) (k : BlockKind)
    (he : LoopElement element) (hp : s.prefixes.rep = some p) (hc : s.cw ≠ 0) :
    let e := element (s.withRep none)
    s.repeatElement i k element =
      if exitTest p k e.psw then { e with cw := s.cw - 1, prefixes := s.prefixes }
      else { e with cw := s.cw - 1, prefixes := s.prefixes, inProgress := some i } := by
  intro e
  have count : e.cw = s.cw := he.cw _
  have prefixes : e.prefixes = { s.prefixes with rep := none } := he.prefixes _
  have same : element s = { e with prefixes := s.prefixes } := by
    have again : element s = e.withRep s.prefixes.rep := he.rep (s.withRep none) s.prefixes.rep
    rw [again, State.withRep, prefixes]
  rw [State.repeatElement, hp]
  simp only [if_neg hc, same, count]

/-- Settles O19, by the loop around the element of each block instruction. -/
theorem repeatedBlockInstructionsComplete : Obligations.RepeatedBlockInstructionsComplete := by
  intro s w p hp i hi
  obtain ⟨k, element, he, hx, hk⟩ := exec_block_eq w i hi
  refine ⟨fun hc => (hx s).trans (congrArg _ (State.repeatElement_zero i k element hp hc)), fun hc => ?_⟩
  have pass := State.repeatElement_pass i k he hp hc
  refine ⟨element (s.withRep none), (hx _).trans (congrArg _ (State.repeatElement_plain i k element rfl)), ?_⟩
  intro ends
  have test : exitTest p k (element (s.withRep none)).psw = true ↔ ends := by rw [exitTest_iff, hk]
  rw [hx s, pass]
  exact ⟨fun h => congrArg _ (if_pos (test.mpr h)), fun h => congrArg _ (if_neg (mt test.mp h))⟩

end Sys2Proof.Machine

end

section

/-! Bit fields (41_block_bitfield_io.md R220): the operands, the bits of the words that hold a field, and the
words stored. -/

namespace Sys2Proof.Machine

/-- A field reaches into the next word when its last bit does. -/
theorem crossesWord_iff (o l : BitVec 4) : crossesWord o l = true ↔ 16 ≤ o.toNat + l.toNat := by
  rw [crossesWord, decide_eq_true_iff, Nat.lt_succ_iff]

/-- An index register after a field: moved where the next field starts in the next word. -/
theorem ite_passesWord (o l : BitVec 4) (x y : Word) :
    (if passesWord o l then x else y) = if 16 ≤ o.toNat + l.toNat + 1 then x else y := by
  simp only [passesWord, decide_eq_true_eq]

/-- A register operand below 16 is the nibble that INS and EXT use. -/
theorem State.fieldOperand_toNat (s : State) (slot : Nat) {v : Byte} (h : v.toNat < 16) :
    (s.fieldOperand slot v).toNat = v.toNat := by
  have high : v.extractLsb' 4 4 = 0 := by
    apply BitVec.eq_of_toNat_eq
    rw [BitVec.extractLsb'_toNat, Nat.shiftRight_eq_div_pow, Nat.div_eq_of_lt h]
    rfl
  rw [State.fieldOperand, if_pos high, BitVec.extractLsb'_toNat]
  exact Nat.mod_eq_of_lt h

/-- The offset of the next field, as a number. -/
theorem nextOffset_toNat (o l : BitVec 4) : (nextOffset o l).toNat = (o.toNat + l.toNat + 1) % 16 := by
  rw [nextOffset, BitVec.toNat_ofNat]
  omega

/-- The mask of a field has the bits of the field. -/
theorem getLsbD_fieldMask (o l : BitVec 4) {k : Nat} (hk : k < 32) :
    (fieldMask o l).getLsbD k = decide (o.toNat ≤ k ∧ k ≤ o.toNat + l.toNat) := by
  rw [fieldMask, BitVec.getLsbD_shiftLeft, BitVec.getLsbD_ofNat, Nat.testBit_two_pow_sub_one, Bool.eq_iff_iff]
  simp only [Bool.and_eq_true, Bool.not_eq_true', decide_eq_true_eq, decide_eq_false_iff_not]
  omega

/-- The low bits of the words that hold a field are those of the first word. -/
theorem State.getLsbD_fieldWords_low (s : State) (seg off : Word) (o l : BitVec 4) {k : Nat} (hk : k < 16) :
    (s.fieldWords seg off o l).getLsbD k = BitVec.getLsbD (w := 16) (s.load .word seg off) k :=
  BitVec.getLsbD_append.trans (if_pos hk)

/-- The high bits are those of the next word, where the field reaches into it. -/
theorem State.getLsbD_fieldWords_high (s : State) (seg off : Word) {o l : BitVec 4} (h : 16 ≤ o.toNat + l.toNat)
    (k : Nat) :
    (s.fieldWords seg off o l).getLsbD (k + 16) = BitVec.getLsbD (w := 16) (s.load .word seg (off + 2)) k := by
  rw [State.fieldWords, (crossesWord_iff o l).mpr h]
  exact BitVec.getLsbD_append.trans (if_neg (Nat.not_lt.mpr (Nat.le_add_left 16 k)))

/-- The words that hold a field, with the low bits of `v` put into the field. -/
def insertedWords (old : BitVec 32) (v : Word) (o l : BitVec 4) : BitVec 32 :=
  (old &&& ~~~fieldMask o l) ||| ((v.setWidth 32 <<< o.toNat) &&& fieldMask o l)

/-- Each bit of those words: inside the field it is one of `v`, outside it stays. -/
theorem getLsbD_insertedWords (old : BitVec 32) (v : Word) (o l : BitVec 4) {k : Nat} (hk : k < 32) :
    (insertedWords old v o l).getLsbD k =
      if o.toNat ≤ k ∧ k ≤ o.toNat + l.toNat then v.getLsbD (k - o.toNat) else old.getLsbD k := by
  rw [insertedWords, BitVec.getLsbD_or, BitVec.getLsbD_and, BitVec.getLsbD_and, BitVec.getLsbD_not,
    getLsbD_fieldMask o l hk]
  by_cases field : o.toNat ≤ k ∧ k ≤ o.toNat + l.toNat
  · have shifted : (v.setWidth 32 <<< o.toNat).getLsbD k = v.getLsbD (k - o.toNat) := by simp [hk, field.1]
    simp [field, shifted]
  · simp [field, hk]

/-- The bits of the first word after the insertion. -/
theorem State.getLsbD_inserted_low (s : State) (seg off v : Word) (o l : BitVec 4) {k : Nat} (hk : k < 16) :
    ((insertedWords (s.fieldWords seg off o l) v o l).extractLsb' 0 16).getLsbD k =
      if o.toNat ≤ k ∧ k ≤ o.toNat + l.toNat then v.getLsbD (k - o.toNat)
      else BitVec.getLsbD (w := 16) (s.load .word seg off) k := by
  rw [BitVec.getLsbD_extractLsb', decide_eq_true hk, Bool.true_and, Nat.zero_add,
    getLsbD_insertedWords _ v o l (by omega), State.getLsbD_fieldWords_low s seg off o l hk]

/-- The bits of the next word after the insertion, where the field reaches into it. -/
theorem State.getLsbD_inserted_high (s : State) (seg off v : Word) {o l : BitVec 4} (h : 16 ≤ o.toNat + l.toNat)
    {k : Nat} (hk : k < 16) :
    ((insertedWords (s.fieldWords seg off o l) v o l).extractLsb' 16 16).getLsbD k =
      if k + 16 ≤ o.toNat + l.toNat then v.getLsbD (k + 16 - o.toNat)
      else BitVec.getLsbD (w := 16) (s.load .word seg (off + 2)) k := by
  have after : o.toNat ≤ k + 16 := by omega
  rw [BitVec.getLsbD_extractLsb', decide_eq_true hk, Bool.true_and, Nat.add_comm 16 k,
    getLsbD_insertedWords _ v o l (by omega), State.getLsbD_fieldWords_high s seg off h]
  simp only [after, true_and]

/-- Where the stores of a list go does not depend on a store made before. -/
theorem State.cellsOfStores_store (s : State) (w : Width) (g : SReg) (off : Word) (v : Val w) (ops : List StoreOp) :
    (s.store w g off v).cellsOfStores ops = s.cellsOfStores ops := by
  rw [State.store_eq]
  rfl

/-- The cycles of a list of stores do not depend on a store made before. -/
theorem State.cyclesOfStores_store (s : State) (w : Width) (g : SReg) (off : Word) (v : Val w) (ops : List StoreOp) :
    (s.store w g off v).cyclesOfStores ops = s.cyclesOfStores ops := by
  rw [State.store_eq]
  rfl

/-- The stores that write back the words of a field: the first word, and the next one if the field reaches into it. -/
def fieldStores (g : SReg) (off : Word) (o l : BitVec 4) (x : BitVec 32) : List StoreOp :=
  ⟨.word, g, off, x.extractLsb' 0 16⟩ ::
    if 16 ≤ o.toNat + l.toNat then [⟨.word, g, off + 2, x.extractLsb' 16 16⟩] else []

/-- The words of a field written back: their stores, and no register or other part of the state. -/
theorem State.storeFieldWords_spec (s : State) (g : SReg) (off : Word) (o l : BitVec 4) (x : BitVec 32) :
    let t := s.storeFieldWords g off o l x
    Stores s t (fieldStores g off o l x) ∧ SameRegisters s t ∧ t.psw = s.psw ∧ SameRest s t := by
  let u := s.store .word g off (x.extractLsb' 0 16)
  have first : Stores s u [⟨.word, g, off, x.extractLsb' 0 16⟩] := s.store_stores .word g off _
  have registers : SameRegisters s u := s.store_registers .word g off _
  have psw : u.psw = s.psw := s.store_psw .word g off _
  have rest : SameRest s u := s.store_rest .word g off _
  by_cases h : 16 ≤ o.toNat + l.toNat
  · have both : s.storeFieldWords g off o l x = u.store .word g (off + 2) (x.extractLsb' 16 16) :=
      if_pos ((crossesWord_iff o l).mpr h)
    intro t
    rw [fieldStores, if_pos h, show t = _ from both]
    exact ⟨first.trans (u.store_stores .word g (off + 2) _) rest.platform (s.cellsOfStores_store ..)
        (s.cyclesOfStores_store ..), registers.trans (u.store_registers .word g (off + 2) _),
      (u.store_psw ..).trans psw, rest.trans (u.store_rest ..)⟩
  · have one : s.storeFieldWords g off o l x = u := if_neg (mt (crossesWord_iff o l).mp h)
    intro t
    rw [fieldStores, if_neg h, show t = _ from one]
    exact ⟨first, registers, psw, rest⟩

/-- The cycles that read the words of a field are those of the first word, and of the next one if the field reaches into
it. -/
theorem State.afterFieldWords_eq (s : State) (g : SReg) (off : Word) (o l : BitVec 4) :
    s.afterFieldWords g off o l =
      s.recordCycles (s.readCycles .word g off ++
        if 16 ≤ o.toNat + l.toNat then s.readCycles .word g (off + 2) else []) := by
  simp only [State.afterFieldWords, crossesWord_iff]

end Sys2Proof.Machine

end

section

/-! INS and EXT (41_block_bitfield_io.md R221 to R224): the bits of the field, the registers written, and the rest. -/

namespace Sys2Proof.Machine

/-- The stores of an inserted field, with the bits of the next word wherever it is stored. -/
theorem State.fieldStores_inserted (s : State) (g : SReg) (seg off v : Word) (o l : BitVec 4) :
    ∃ high : Word,
      (∀ k, k < 16 → high.getLsbD k =
        if k + 16 ≤ o.toNat + l.toNat then v.getLsbD (k + 16 - o.toNat)
        else BitVec.getLsbD (w := 16) (s.load .word seg (off + 2)) k) ∧
      fieldStores g off o l (insertedWords (s.fieldWords seg off o l) v o l) =
        ⟨.word, g, off, (insertedWords (s.fieldWords seg off o l) v o l).extractLsb' 0 16⟩ ::
          if 16 ≤ o.toNat + l.toNat then [⟨.word, g, off + 2, high⟩] else [] := by
  by_cases h : 16 ≤ o.toNat + l.toNat
  · exact ⟨_, fun k hk => s.getLsbD_inserted_high seg off v h hk, rfl⟩
  · refine ⟨s.load .word seg (off + 2), fun k _ => (if_neg (by omega)).symm, ?_⟩
    rw [fieldStores, if_neg h, if_neg h]

/-- INS in the words of the claims: the words stored, then the offset register, IY and the flags. -/
theorem State.insertField_eq (s : State) (d : Reg) (o l : BitVec 4) :
    s.insertField d o l =
      { ((s.afterFieldWords .ds1 s.iy o l).storeFieldWords .ds1 s.iy o l
            (insertedWords (s.fieldWords s.ds1 s.iy o l) s.aw o l)).writeReg .byte d (nextOffset o l) with
          iy := if passesWord o l then s.iy + 2 else s.iy }.setStatus s.drawnStatus := rfl

/-- What INS leaves. -/
theorem State.insertField_spec (s : State) (d : Reg) (o l : BitVec 4) :
    let t := s.insertField d o l
    ∃ low high : Word,
      (∀ k, k < 16 → low.getLsbD k =
        if o.toNat ≤ k ∧ k ≤ o.toNat + l.toNat then s.aw.getLsbD (k - o.toNat)
        else BitVec.getLsbD (w := 16) (s.load .word s.ds1 s.iy) k) ∧
      (∀ k, k < 16 → high.getLsbD k =
        if k + 16 ≤ o.toNat + l.toNat then s.aw.getLsbD (k + 16 - o.toNat)
        else BitVec.getLsbD (w := 16) (s.load .word s.ds1 (s.iy + 2)) k) ∧
      Stores (s.recordCycles (s.readCycles .word .ds1 s.iy ++
          if 16 ≤ o.toNat + l.toNat then s.readCycles .word .ds1 (s.iy + 2) else [])) t
        (⟨.word, .ds1, s.iy, low⟩ :: if 16 ≤ o.toNat + l.toNat then [⟨.word, .ds1, s.iy + 2, high⟩] else []) ∧
      (t.readReg8 d).toNat = (o.toNat + l.toNat + 1) % 16 ∧
      t.iy = (if 16 ≤ o.toNat + l.toNat + 1 then s.iy + 2 else s.iy) ∧
      (∀ r, r ≠ d → t.readReg8 r = s.readReg8 r) ∧ t.sp = s.sp ∧ t.bp = s.bp ∧ t.ix = s.ix ∧
      t.psw.status = s.drawnStatus ∧ SameControlFlags s.psw t.psw ∧ SameRest s t := by
  rw [State.insertField_eq]
  intro t
  let read := s.afterFieldWords .ds1 s.iy o l
  let stored := read.storeFieldWords .ds1 s.iy o l (insertedWords (s.fieldWords s.ds1 s.iy o l) s.aw o l)
  let written := stored.writeReg .byte d (nextOffset o l)
  obtain ⟨stores, registers, psw, rest⟩ := read.storeFieldWords_spec .ds1 s.iy o l
    (insertedWords (s.fieldWords s.ds1 s.iy o l) s.aw o l)
  obtain ⟨others, memory, rest'⟩ := stored.writeReg_frame .byte d (nextOffset o l)
  obtain ⟨sp, bp, ix, -⟩ := others.pointers rfl
  have value : written.readReg .byte d = nextOffset o l := stored.readReg_writeReg .byte d _
  have flags : t.psw = s.psw.withStatus s.drawnStatus :=
    congrArg (Psw.withStatus · s.drawnStatus) ((stored.writeReg_psw .byte d _).trans psw)
  have byte (r : Reg) : t.readReg8 r = written.readReg .byte r := by cases r <;> rfl
  have same : SameMemory written t := .of_fields rfl rfl rfl
  obtain ⟨high, bits, ops⟩ := s.fieldStores_inserted .ds1 s.ds1 s.iy s.aw o l
  refine ⟨_, high, fun k hk => s.getLsbD_inserted_low s.ds1 s.iy s.aw o l hk, bits, ?_, ?_, ?_, fun r hr => ?_,
    sp.trans (registers .ahSp), bp.trans (registers .chBp), ix.trans (registers .dhIx), rfl, ?_,
    (((s.recordCycles_rest _).trans rest).trans rest').trans rfl⟩
  · rw [← ops, ← State.afterFieldWords_eq]
    exact stores.sameMemory (memory.trans same) rest'.platform rest.platform
  · rw [byte, value, nextOffset_toNat]
  · exact ite_passesWord o l _ _
  · exact (byte r).trans ((others.readReg hr).trans (registers.readReg .byte r))
  · rw [flags]
    exact Psw.withStatus_control _ _

/-- The field of `words`, moved down to bit 0, with zeros above. -/
def extractedField (words : BitVec 32) (o l : BitVec 4) : Word :=
  ((words &&& fieldMask o l) >>> o.toNat).setWidth 16

/-- Each bit of an extracted field. -/
theorem State.getLsbD_extractedField (s : State) (seg off : Word) (o l : BitVec 4) {k : Nat} (hk : k < 16) :
    (extractedField (s.fieldWords seg off o l) o l).getLsbD k =
      if k ≤ l.toNat then
        (if o.toNat + k < 16 then BitVec.getLsbD (w := 16) (s.load .word seg off) (o.toNat + k)
         else BitVec.getLsbD (w := 16) (s.load .word seg (off + 2)) (o.toNat + k - 16))
      else false := by
  have inside : o.toNat + k < 32 := by omega
  rw [extractedField, BitVec.getLsbD_setWidth, decide_eq_true hk, Bool.true_and, BitVec.getLsbD_ushiftRight,
    BitVec.getLsbD_and, getLsbD_fieldMask o l inside]
  by_cases field : k ≤ l.toNat
  · have within : o.toNat ≤ o.toNat + k ∧ o.toNat + k ≤ o.toNat + l.toNat := by omega
    rw [if_pos field, decide_eq_true within, Bool.and_true]
    by_cases low : o.toNat + k < 16
    · rw [if_pos low, State.getLsbD_fieldWords_low s seg off o l low]
    · have crosses : 16 ≤ o.toNat + l.toNat := by omega
      rw [if_neg low, ← State.getLsbD_fieldWords_high s seg off crosses, Nat.sub_add_cancel (Nat.not_lt.mp low)]
  · have beyond : ¬ (o.toNat ≤ o.toNat + k ∧ o.toNat + k ≤ o.toNat + l.toNat) := by omega
    rw [if_neg field, decide_eq_false beyond, Bool.and_false]

/-- Writing a byte register changes AW, BW, CW and DW at most. -/
theorem State.writeReg8_eq (s : State) (d : Reg) (n : Byte) :
    s.writeReg8 d n =
      { s with
        aw := (s.writeReg8 d n).aw
        bw := (s.writeReg8 d n).bw
        cw := (s.writeReg8 d n).cw
        dw := (s.writeReg8 d n).dw } := by
  cases d <;> rfl

/-- The byte registers outside AW read as before a write to AW. -/
theorem State.readReg8_writeAw (s : State) (v : Word) {r : Reg} (hl : r ≠ .alAw) (hh : r ≠ .ahSp) :
    (s.writeReg16 .alAw v).readReg8 r = s.readReg8 r := by
  cases r with
  | alAw => exact absurd rfl hl
  | ahSp => exact absurd rfl hh
  | _ => rfl

/-- A byte register outside AW leaves AW. -/
theorem State.writeReg8_aw (s : State) (n : Byte) {d : Reg} (hl : d ≠ .alAw) (hh : d ≠ .ahSp) :
    (s.writeReg8 d n).aw = s.aw := by
  cases d with
  | alAw => exact absurd rfl hl
  | ahSp => exact absurd rfl hh
  | _ => rfl

/-- The two writes of EXT: the field to AW and the next offset to its register, in the order that is open where the
register is a half of AW (log entry 10). -/
def State.writeFieldAndOffset (s : State) (d : Reg) (v : Word) (n : Byte) : State :=
  if d = .alAw ∨ d = .ahSp then
    (if Config.extWritesOffsetLast then (s.writeReg16 .alAw v).writeReg8 d n else (s.writeReg8 d n).writeReg16 .alAw v)
  else (s.writeReg16 .alAw v).writeReg8 d n

/-- EXT in the words of the claims: the words read, then the two writes, IX and the flags. -/
theorem State.extractField_eq (s : State) (d : Reg) (o l : BitVec 4) :
    s.extractField d o l =
      { (s.afterFieldWords s.dataSreg s.ix o l).writeFieldAndOffset d
            (extractedField (s.fieldWords s.dataSeg s.ix o l) o l) (nextOffset o l) with
          ix := if passesWord o l then s.ix + 2 else s.ix }.setStatus s.drawnStatus := rfl

/-- The order of the two writes: the offset last, or first into a half of AW. -/
theorem State.writeFieldAndOffset_cases (s : State) (d : Reg) (v : Word) (n : Byte) :
    s.writeFieldAndOffset d v n = (s.writeReg16 .alAw v).writeReg8 d n ∨
      (d = .alAw ∨ d = .ahSp) ∧ s.writeFieldAndOffset d v n = (s.writeReg8 d n).writeReg16 .alAw v := by
  unfold State.writeFieldAndOffset
  split
  · rename_i half
    split
    · exact .inl rfl
    · exact .inr ⟨half, rfl⟩
  · exact .inl rfl

/-- The two writes of EXT change AW, BW, CW and DW at most. -/
theorem State.writeFieldAndOffset_frame (s : State) (d : Reg) (v : Word) (n : Byte) :
    let t := s.writeFieldAndOffset d v n
    SameMemory s t ∧ t.psw = s.psw ∧ t.sp = s.sp ∧ t.bp = s.bp ∧ t.ix = s.ix ∧ t.iy = s.iy ∧ SameRest s t := by
  intro t
  rcases s.writeFieldAndOffset_cases d v n with e | ⟨-, e⟩ <;> rw [show t = _ from e, State.writeReg8_eq]
  · exact ⟨.of_fields rfl rfl rfl, rfl, rfl, rfl, rfl, rfl, rfl⟩
  · exact ⟨.of_fields rfl rfl rfl, rfl, rfl, rfl, rfl, rfl, rfl⟩

/-- The two writes of EXT where the offset register is no half of AW. -/
theorem State.writeFieldAndOffset_apart (s : State) {d : Reg} (v : Word) (n : Byte) (hl : d ≠ .alAw) (hh : d ≠ .ahSp) :
    let t := s.writeFieldAndOffset d v n
    t.aw = v ∧ t.readReg8 d = n ∧ ∀ r, r ≠ d → r ≠ .alAw → r ≠ .ahSp → t.readReg8 r = s.readReg8 r := by
  have order : s.writeFieldAndOffset d v n = (s.writeReg16 .alAw v).writeReg8 d n := if_neg (not_or.mpr ⟨hl, hh⟩)
  intro t
  obtain ⟨others, -, -⟩ := (s.writeReg16 .alAw v).writeReg_frame .byte d n
  rw [show t = _ from order]
  exact ⟨State.writeReg8_aw _ n hl hh, State.readReg_writeReg _ .byte d n,
    fun r hr hl hh => (others.readReg hr).trans (s.readReg8_writeAw v hl hh)⟩

/-- The two writes of EXT where the offset register is AL. -/
theorem State.writeFieldAndOffset_al (s : State) (v : Word) (n : Byte) :
    let t := s.writeFieldAndOffset .alAw v n
    (t.aw = v ∨ t.aw = highByte v ++ n) ∧ t.bw = s.bw ∧ t.cw = s.cw ∧ t.dw = s.dw := by
  intro t
  rcases s.writeFieldAndOffset_cases .alAw v n with e | ⟨-, e⟩ <;> rw [show t = _ from e]
  · exact ⟨.inr rfl, rfl, rfl, rfl⟩
  · exact ⟨.inl rfl, rfl, rfl, rfl⟩

/-- The two writes of EXT where the offset register is AH. -/
theorem State.writeFieldAndOffset_ah (s : State) (v : Word) (n : Byte) :
    let t := s.writeFieldAndOffset .ahSp v n
    (t.aw = v ∨ t.aw = n ++ lowByte v) ∧ t.bw = s.bw ∧ t.cw = s.cw ∧ t.dw = s.dw := by
  intro t
  rcases s.writeFieldAndOffset_cases .ahSp v n with e | ⟨-, e⟩ <;> rw [show t = _ from e]
  · exact ⟨.inr rfl, rfl, rfl, rfl⟩
  · exact ⟨.inl rfl, rfl, rfl, rfl⟩

/-- What EXT leaves. -/
theorem State.extractField_spec (s : State) (d : Reg) (o l : BitVec 4) :
    let t := s.extractField d o l
    ∃ field : Word,
      (∀ k, k < 16 → field.getLsbD k =
        if k ≤ l.toNat then
          (if o.toNat + k < 16 then BitVec.getLsbD (w := 16) (s.load .word s.dataSeg s.ix) (o.toNat + k)
           else BitVec.getLsbD (w := 16) (s.load .word s.dataSeg (s.ix + 2)) (o.toNat + k - 16))
        else false) ∧
      (d ≠ .alAw → d ≠ .ahSp →
        t.aw = field ∧ (t.readReg8 d).toNat = (o.toNat + l.toNat + 1) % 16 ∧
        (∀ r, r ≠ d → r ≠ .alAw → r ≠ .ahSp → t.readReg8 r = s.readReg8 r)) ∧
      (d = .alAw → t.aw = field ∨ t.aw = highByte field ++ nextOffset o l) ∧
      (d = .ahSp → t.aw = field ∨ t.aw = nextOffset o l ++ lowByte field) ∧
      (d = .alAw ∨ d = .ahSp → t.bw = s.bw ∧ t.cw = s.cw ∧ t.dw = s.dw) ∧
      t.ix = (if 16 ≤ o.toNat + l.toNat + 1 then s.ix + 2 else s.ix) ∧ t.sp = s.sp ∧ t.bp = s.bp ∧ t.iy = s.iy ∧
      t.psw.status = s.drawnStatus ∧ SameControlFlags s.psw t.psw ∧
      SameMemory (s.recordCycles (s.readCycles .word s.dataSreg s.ix ++
        if 16 ≤ o.toNat + l.toNat then s.readCycles .word s.dataSreg (s.ix + 2) else [])) t ∧ SameRest s t := by
  rw [State.extractField_eq]
  intro t
  let read := s.afterFieldWords s.dataSreg s.ix o l
  let field := extractedField (s.fieldWords s.dataSeg s.ix o l) o l
  let written := read.writeFieldAndOffset d field (nextOffset o l)
  obtain ⟨memory, psw, sp, bp, -, iy, rest⟩ := read.writeFieldAndOffset_frame d field (nextOffset o l)
  have same : SameMemory written t := .of_fields rfl rfl rfl
  have flags : t.psw = s.psw.withStatus s.drawnStatus := congrArg (Psw.withStatus · s.drawnStatus) psw
  have byte (r : Reg) : t.readReg8 r = written.readReg8 r := by cases r <;> rfl
  refine ⟨field, fun k hk => s.getLsbD_extractedField s.dataSeg s.ix o l hk, fun hl hh => ?_, fun hd => ?_,
    fun hd => ?_, fun hd => ?_, ite_passesWord o l _ _, sp, bp, iy, rfl, ?_, ?_,
    ((s.recordCycles_rest _).trans rest).trans rfl⟩
  · obtain ⟨aw, offset, others⟩ := read.writeFieldAndOffset_apart field (nextOffset o l) hl hh
    exact ⟨aw, by rw [byte, offset, nextOffset_toNat], fun r hr hl hh => (byte r).trans (others r hr hl hh)⟩
  · subst hd
    exact (read.writeFieldAndOffset_al field (nextOffset o l)).1
  · subst hd
    exact (read.writeFieldAndOffset_ah field (nextOffset o l)).1
  · rcases hd with rfl | rfl
    · exact (read.writeFieldAndOffset_al field (nextOffset o l)).2
    · exact (read.writeFieldAndOffset_ah field (nextOffset o l)).2
  · rw [flags]
    exact Psw.withStatus_control _ _
  · rw [← State.afterFieldWords_eq]
    exact memory.trans same

/-- The length code of an immediate byte is its low four bits. -/
theorem immediateLength_eq (imm : Byte) : imm.setWidth 4 = imm.extractLsb' 0 4 :=
  BitVec.setWidth_eq_extractLsb' (by decide)

/-- Settles O20, by what INS leaves for every offset and length code. -/
theorem insertBitFieldCompletes : Obligations.InsertBitFieldCompletes := by
  intro s d q imm
  simp only [List.forall_mem_cons]
  refine ⟨⟨s.fieldOperand_toNat 0, s.fieldOperand_toNat 1, _, rfl, s.insertField_spec d _ _⟩,
    ⟨s.fieldOperand_toNat 0, s.fieldOperand_toNat 1, _, rfl, ?_⟩, List.forall_mem_nil _⟩
  rw [immediateLength_eq]
  exact s.insertField_spec d _ _

/-- Settles O21, by what EXT leaves for every offset and length code. -/
theorem extractBitFieldCompletes : Obligations.ExtractBitFieldCompletes := by
  intro s d q imm
  simp only [List.forall_mem_cons]
  refine ⟨⟨_, rfl, s.extractField_spec d _ _⟩, ⟨_, rfl, ?_⟩, List.forall_mem_nil _⟩
  rw [immediateLength_eq]
  exact s.extractField_spec d _ _

end Sys2Proof.Machine

end

section

/-! Addition and subtraction on memory, and increment and decrement (42_add_sub_bcd.md R250 to R274, R290 to R296). -/

namespace Sys2Proof.Machine

/-- Settles O24, by what `addWith` and `subWith` leave of a memory operand. -/
theorem additionAndSubtractionInMemoryComplete : Obligations.AdditionAndSubtractionInMemoryComplete := by
  intro s w z m r imm
  exact ⟨⟨_, rfl, s.addWith_spec w (.mem m) _ false⟩, ⟨_, rfl, s.addWith_spec z.width (.mem m) _ false⟩,
    ⟨_, rfl, s.addWith_spec w (.mem m) _ s.psw.cy⟩, ⟨_, rfl, s.addWith_spec z.width (.mem m) _ s.psw.cy⟩,
    ⟨_, rfl, s.subWith_spec w (.mem m) _ false⟩, ⟨_, rfl, s.subWith_spec z.width (.mem m) _ false⟩,
    ⟨_, rfl, s.subWith_spec w (.mem m) _ s.psw.cy⟩, ⟨_, rfl, s.subWith_spec z.width (.mem m) _ s.psw.cy⟩⟩

/-- The operand 1 of INC and DEC, as a number and as a signed number. -/
theorem one_of_width (w : Width) : (1 : Val w).toNat = 1 ∧ (1 : Val w).toInt = 1 := by
  cases w <;> exact ⟨rfl, rfl⟩

/-- An operand written with the flags of the result but CY kept. -/
theorem State.writeOperand_keepCarry (s : State) (w : Width) (o : Operand) (v : Val w) (f : Status)
    (hs : f.s = v.msb) (hz : f.z = (v == 0)) (hp : f.p = evenParity v) :
    let t := ((s.afterOperand w o).writeOperand w o v).setStatus { f with cy := s.psw.cy }
    OperandBecomes (s.afterOperand w o) t w o v ∧ ResultFlags t.psw v ∧ t.psw.ac = f.ac ∧ t.psw.v = f.v ∧
      t.psw.cy = s.psw.cy ∧ SameControlFlags s.psw t.psw ∧ SameRest s t := by
  intro t
  obtain ⟨becomes, psw, control, rest⟩ := s.writeOperand_setStatus w o v { f with cy := s.psw.cy }
  exact ⟨becomes, resultFlags_of _ _ ((congrArg Psw.s psw).trans hs) ((congrArg Psw.z psw).trans hz)
    ((congrArg Psw.p psw).trans hp), congrArg Psw.ac psw, congrArg Psw.v psw, (congrArg Psw.cy psw :), control, rest⟩

/-- AC and V of a value plus 1. -/
theorem addFlags_one {w : Width} (x : Val w) :
    ((addFlags x 1 false).ac = true ↔ x.toNat % 16 = 15) ∧
      ((addFlags x 1 false).v = true ↔ Overflows w.bits (x.toInt + 1)) := by
  obtain ⟨-, ac, v⟩ : SumCarries (State.reset.psw.withStatus (addFlags x 1 false)) x 1 false :=
    addFlags_carries (width_bits_cases w) rfl rfl rfl
  obtain ⟨one, oneInt⟩ := one_of_width w
  rw [one, Bool.toNat_false] at ac
  rw [oneInt, Bool.toNat_false, Int.natCast_zero, Int.add_zero] at v
  exact ⟨ac.trans (by omega), v⟩

/-- AC and V of a value minus 1. -/
theorem subFlags_one {w : Width} (x : Val w) :
    ((subFlags x 1 false).ac = true ↔ x.toNat % 16 = 0) ∧
      ((subFlags x 1 false).v = true ↔ Overflows w.bits (x.toInt - 1)) := by
  obtain ⟨-, ac, v⟩ : DifferenceBorrows (State.reset.psw.withStatus (subFlags x 1 false)) x 1 false :=
    subFlags_borrows (width_bits_cases w) rfl rfl rfl
  obtain ⟨one, oneInt⟩ := one_of_width w
  rw [one, Bool.toNat_false] at ac
  rw [oneInt, Bool.toNat_false, Int.natCast_zero, Int.sub_zero] at v
  exact ⟨ac.trans (by omega), v⟩

/-- INC: what `incAt` leaves; CY is kept (R296). -/
theorem State.incAt_spec (s : State) (w : Width) (o : Operand) :
    let t := s.incAt w o
    OperandBecomes (s.afterOperand w o) t w o (s.readOperand w o + 1) ∧
      ResultFlags t.psw (s.readOperand w o + 1) ∧
      (t.psw.ac = true ↔ (s.readOperand w o).toNat % 16 = 15) ∧
      (t.psw.v = true ↔ Overflows w.bits ((s.readOperand w o).toInt + 1)) ∧
      t.psw.cy = s.psw.cy ∧ SameControlFlags s.psw t.psw ∧ SameRest s t := by
  have sum : addValue (s.readOperand w o) 1 false = s.readOperand w o + 1 := by
    rw [addValue, Bool.toNat_false, Nat.add_zero, BitVec.ofNat_add, BitVec.ofNat_toNat, BitVec.ofNat_toNat,
      BitVec.setWidth_eq, BitVec.setWidth_eq]
  obtain ⟨acOne, vOne⟩ := addFlags_one (s.readOperand w o)
  obtain ⟨becomes, result, ac, v, kept⟩ := s.writeOperand_keepCarry w o (addValue (s.readOperand w o) 1 false)
    (addFlags (s.readOperand w o) 1 false) rfl rfl rfl
  rw [← sum, ← acOne, ← ac, ← vOne, ← v]
  exact ⟨becomes, result, .rfl, .rfl, kept⟩

/-- DEC: what `decAt` leaves; CY is kept (R296). -/
theorem State.decAt_spec (s : State) (w : Width) (o : Operand) :
    let t := s.decAt w o
    OperandBecomes (s.afterOperand w o) t w o (s.readOperand w o - 1) ∧
      ResultFlags t.psw (s.readOperand w o - 1) ∧
      (t.psw.ac = true ↔ (s.readOperand w o).toNat % 16 = 0) ∧
      (t.psw.v = true ↔ Overflows w.bits ((s.readOperand w o).toInt - 1)) ∧
      t.psw.cy = s.psw.cy ∧ SameControlFlags s.psw t.psw ∧ SameRest s t := by
  have difference : subValue (s.readOperand w o) 1 false = s.readOperand w o - 1 := by
    rw [subValue_eq (width_bits_cases w), Bool.toNat_false, BitVec.sub_zero]
  obtain ⟨acOne, vOne⟩ := subFlags_one (s.readOperand w o)
  obtain ⟨becomes, result, ac, v, kept⟩ := s.writeOperand_keepCarry w o (subValue (s.readOperand w o) 1 false)
    (subFlags (s.readOperand w o) 1 false) rfl rfl rfl
  rw [← difference, ← acOne, ← ac, ← vOne, ← v]
  exact ⟨becomes, result, .rfl, .rfl, kept⟩

/-- Settles O25, by what `incAt` and `decAt` leave. -/
theorem incrementAndDecrementComplete : Obligations.IncrementAndDecrementComplete := by
  intro s w r m
  simp only [List.forall_mem_cons]
  exact ⟨⟨⟨_, rfl, s.incAt_spec .byte (.reg r)⟩, ⟨_, rfl, s.incAt_spec w (.mem m)⟩,
      ⟨_, rfl, s.incAt_spec .word (.reg r)⟩, ⟨_, rfl, s.incAt_spec .word (.reg r)⟩, List.forall_mem_nil _⟩,
    ⟨⟨_, rfl, s.decAt_spec .byte (.reg r)⟩, ⟨_, rfl, s.decAt_spec w (.mem m)⟩,
      ⟨_, rfl, s.decAt_spec .word (.reg r)⟩, ⟨_, rfl, s.decAt_spec .word (.reg r)⟩, List.forall_mem_nil _⟩⟩

end Sys2Proof.Machine

end

section

/-! The nibble rotates (42_add_sub_bcd.md R285 to R288): the three nibbles as numbers, then the register and the memory
form, each for ROL4 and ROR4 alike. -/

namespace Sys2Proof.Machine

/-- Two nibbles as the number of their byte. -/
theorem nibbles_toNat (x y : BitVec 4) : (x ++ y : Byte).toNat = x.toNat * 16 + y.toNat := by
  rw [BitVec.toNat_append, ← Nat.shiftLeft_add_eq_or_of_lt y.isLt, Nat.shiftLeft_eq]

/-- The low nibble of a byte as a number. -/
theorem lowNibble_toNat (x : Byte) : (x.extractLsb' 0 4).toNat = x.toNat % 16 := BitVec.extractLsb'_toNat ..

/-- The high nibble of a byte as a number. -/
theorem highNibble_toNat (x : Byte) : (x.extractLsb' 4 4).toNat = x.toNat / 16 := by
  rw [BitVec.extractLsb'_toNat, Nat.shiftRight_eq_div_pow]
  exact Nat.mod_eq_of_lt (Nat.div_lt_of_lt_mul x.isLt)

/-- The operand after ROL4: its low digit moves up and that of AL comes in below (R285). -/
theorem NibbleRotate.rol4_result_toNat (t al : Byte) :
    (NibbleRotate.rol4.result t al).toNat = t.toNat % 16 * 16 + al.toNat % 16 := by
  rw [NibbleRotate.result, nibbles_toNat, lowNibble_toNat, lowNibble_toNat]

/-- The operand after ROR4: its high digit moves down and that of AL comes in above (R287). -/
theorem NibbleRotate.ror4_result_toNat (t al : Byte) :
    (NibbleRotate.ror4.result t al).toNat = al.toNat % 16 * 16 + t.toNat / 16 := by
  rw [NibbleRotate.result, nibbles_toNat, lowNibble_toNat, highNibble_toNat]

/-- The low half of AL is the digit turned out of the operand, whatever its free upper half. -/
theorem State.nibbleAl_toNat (s : State) (x : BitVec 4) : (s.nibbleAl x).toNat % 16 = x.toNat := by
  have low : x.toNat < 16 := x.isLt
  rw [State.nibbleAl, nibbles_toNat]
  omega

/-- A byte register is part of AW, BW, CW or DW. -/
theorem SameRegistersBut.words {d : Reg} {s t : State} (h : SameRegistersBut .byte d s t) :
    SameWordsBut [.alAw, .blBw, .clCw, .dlDw] s t := by
  obtain ⟨sp, bp, ix, iy⟩ := h.pointers rfl
  intro r hr
  cases r with
  | ahSp => exact sp
  | chBp => exact bp
  | dhIx => exact ix
  | bhIy => exact iy
  | alAw | clCw | dlDw | blBw => exact absurd hr (by decide)

/-- A nibble rotate of a register: the operand and the low half of AL, where they are two registers, and the rest. -/
theorem State.rotateNibbleReg_spec (s : State) (k : NibbleRotate) (r : Reg) :
    let t := s.rotateNibbleReg k r
    (r ≠ .alAw → t.readReg8 r = k.result (s.readReg8 r) (s.readReg8 .alAw) ∧
      (t.readReg8 .alAw).toNat % 16 = (k.out (s.readReg8 r)).toNat) ∧
      (∀ q, q ≠ r → q ≠ .alAw → t.readReg8 q = s.readReg8 q) ∧ SameWordsBut [.alAw, .blBw, .clCw, .dlDw] s t ∧
      SameMemory s t ∧ t.psw = s.psw ∧ SameRest s t := by
  intro t
  by_cases h : r = .alAw
  · have drawn : t = s.writeReg .byte .alAw (Config.freeByte s.draws 0) := if_pos h
    obtain ⟨others, memory, rest⟩ := s.writeReg_frame .byte .alAw (Config.freeByte s.draws 0)
    rw [drawn]
    exact ⟨fun hr => absurd h hr, fun q _ hq => others.readReg hq, others.words, memory, s.writeReg_psw .byte _ _, rest⟩
  · let result := k.result (s.readReg8 r) (s.readReg8 .alAw)
    let al := s.nibbleAl (k.out (s.readReg8 r))
    have turned : t = (s.writeReg .byte r result).writeReg .byte .alAw al := if_neg h
    have operand : (s.writeReg .byte r result).readReg .byte r = result := s.readReg_writeReg .byte r result
    have low : t.readReg .byte .alAw = al := by rw [turned, State.readReg_writeReg]
    obtain ⟨others1, memory1, rest1⟩ := s.writeReg_frame .byte r result
    obtain ⟨others2, memory2, rest2⟩ := (s.writeReg .byte r result).writeReg_frame .byte .alAw al
    rw [← turned] at others2 memory2 rest2
    refine ⟨fun _ => ⟨(others2.readReg h).trans operand, ?_⟩,
      fun q hr hq => (others2.readReg hq).trans (others1.readReg hr),
      fun q hq => (others2.words q hq).trans (others1.words q hq), memory1.trans memory2, ?_, rest1.trans rest2⟩
    · exact (congrArg (fun x : Byte => x.toNat % 16) low).trans (s.nibbleAl_toNat _)
    · rw [turned, State.writeReg_psw, State.writeReg_psw]

/-- A nibble rotate of a byte of memory, which is read, then stored to, before AL takes the digit turned out. -/
theorem State.rotateNibbleMem_spec (s : State) (k : NibbleRotate) (m : MemOp) :
    let t := s.rotateNibbleMem k m
    Stores (s.afterMem .byte m) t
        [⟨.byte, s.memSreg m, s.ea m, k.result (s.loadMem .byte m) (s.readReg8 .alAw)⟩] ∧
      (t.readReg8 .alAw).toNat % 16 = (k.out (s.loadMem .byte m)).toNat ∧
      SameRegistersBut .byte .alAw s t ∧ t.psw = s.psw ∧ SameRest s t := by
  intro t
  let al := s.nibbleAl (k.out (s.loadMem .byte m))
  let u := (s.afterMem .byte m).storeMem .byte m (k.result (s.loadMem .byte m) (s.readReg8 .alAw))
  obtain ⟨⟨registers, stores⟩, psw, rest⟩ :=
    (s.afterMem .byte m).writeOperand_moves .byte (.mem m) (k.result (s.loadMem .byte m) (s.readReg8 .alAw))
  obtain ⟨others, memory, rest'⟩ := u.writeReg_frame .byte .alAw al
  have low : t.readReg .byte .alAw = al := u.readReg_writeReg .byte .alAw al
  refine ⟨stores.sameMemory memory rest'.platform rest.platform, ?_, others.congr registers (.refl t),
    (u.writeReg_psw .byte .alAw al).trans psw, ((s.recordCycles_rest _).trans rest).trans rest'⟩
  exact (congrArg (fun x : Byte => x.toNat % 16) low).trans (s.nibbleAl_toNat _)

/-- Settles O40: the register and the memory form, with the nibbles as numbers. -/
theorem nibbleRotatesComplete : Obligations.NibbleRotatesComplete := by
  intro s r m al x y
  have ofToNat {b : Byte} {n : Nat} (h : b.toNat = n) : b = BitVec.ofNat 8 n := by
    rw [← h, BitVec.ofNat_toNat, BitVec.setWidth_eq]
  have rolOut (t : Byte) : (NibbleRotate.rol4.out t).toNat = t.toNat / 16 := highNibble_toNat t
  have rorOut (t : Byte) : (NibbleRotate.ror4.out t).toNat = t.toNat % 16 := lowNibble_toNat t
  obtain ⟨rol, rolFrame⟩ := s.rotateNibbleReg_spec .rol4 r
  obtain ⟨ror, rorFrame⟩ := s.rotateNibbleReg_spec .ror4 r
  obtain ⟨rolStores, rolAl, rolMemFrame⟩ := s.rotateNibbleMem_spec .rol4 m
  obtain ⟨rorStores, rorAl, rorMemFrame⟩ := s.rotateNibbleMem_spec .ror4 m
  rw [rolOut] at rolAl
  rw [rorOut] at rorAl
  rw [ofToNat (NibbleRotate.rol4_result_toNat _ _)] at rolStores
  rw [ofToNat (NibbleRotate.ror4_result_toNat _ _)] at rorStores
  refine ⟨⟨_, rfl, fun h => ?_, rolFrame⟩, ⟨_, rfl, fun h => ?_, rorFrame⟩, ⟨_, rfl, rolStores, rolAl, rolMemFrame⟩,
    ⟨_, rfl, rorStores, rorAl, rorMemFrame⟩⟩
  · obtain ⟨operand, out⟩ := rol h
    exact ⟨by rw [operand, NibbleRotate.rol4_result_toNat], by rw [out, rolOut]⟩
  · obtain ⟨operand, out⟩ := ror h
    exact ⟨by rw [operand, NibbleRotate.ror4_result_toNat], by rw [out, rorOut]⟩

end Sys2Proof.Machine

end

section

/-! The BCD strings (42_add_sub_bcd.md R280 to R283): the bytes of both strings, what one pass of the loop does to memory
and the bus, and the loop and the instruction from it. -/

namespace Sys2Proof.Machine

/-- `t` is `s` but for memory and the record of the bus. -/
def SameButMemory (s t : State) : Prop := t = { s with mem := t.mem, bus := t.bus }

namespace SameButMemory

theorem refl (s : State) : SameButMemory s s := rfl

theorem trans {s t u : State} (h1 : SameButMemory s t) (h2 : SameButMemory t u) : SameButMemory s u := by
  unfold SameButMemory at *
  rw [h1] at h2
  exact h2

theorem psw {s t : State} (h : SameButMemory s t) : t.psw = s.psw := by rw [h]

theorem platform {s t : State} (h : SameButMemory s t) : t.platform = s.platform := by rw [h]

theorem prefixes {s t : State} (h : SameButMemory s t) : t.prefixes = s.prefixes := by rw [h]

theorem registers {s t : State} (h : SameButMemory s t) : SameRegisters s t := by
  intro r
  rw [h]
  cases r <;> rfl

theorem rest {s t : State} (h : SameButMemory s t) : SameRest s t := by
  unfold SameRest
  rw [h]

end SameButMemory

/-- The address of byte `k` of the source string. -/
def State.bcdSource (s : State) (k : Nat) : Nat := byteAddr s.dataSeg (s.ix + BitVec.ofNat 16 k) 0

/-- The address of byte `k` of the destination string. -/
def State.bcdDest (s : State) (k : Nat) : Nat := byteAddr s.ds1 (s.iy + BitVec.ofNat 16 k) 0

theorem SameButMemory.bcdSource {s t : State} (h : SameButMemory s t) (k : Nat) : t.bcdSource k = s.bcdSource k := by
  rw [h]
  rfl

theorem SameButMemory.bcdDest {s t : State} (h : SameButMemory s t) (k : Nat) : t.bcdDest k = s.bcdDest k := by
  rw [h]
  rfl

/-- Whether the operation stores its result (R283). -/
def BcdOp.stores : BcdOp → Bool
  | .add | .sub => true
  | .cmp => false

/-- The bus has seen single-byte cycles of these types, segments and addresses, in this order. -/
def SeesBytes (s t : State) (accesses : List (CycleKind × SReg × Nat)) : Prop :=
  ∃ cycles : List BusCycle, t.bus = (cycles.map BusEvent.cycle).reverse ++ s.bus ∧
    cycles.map (fun c => (c.kind, c.segment, c.address)) =
      accesses.map (fun x => (x.1, some x.2.1, some x.2.2)) ∧
    ∀ c ∈ cycles, c.data.length = 1 ∧ c.ps3 = (!s.psw.md) ∧ c.ps2 = s.psw.ie ∧ c.locked = s.prefixes.buslock

namespace SeesBytes

theorem nil (s : State) : SeesBytes s s [] := ⟨[], rfl, rfl, List.forall_mem_nil _⟩

theorem trans {s t u : State} {xs ys : List (CycleKind × SReg × Nat)} (h1 : SeesBytes s t xs) (h2 : SeesBytes t u ys)
    (h : SameButMemory s t) : SeesBytes s u (xs ++ ys) := by
  obtain ⟨cs, bus1, seen1, shown1⟩ := h1
  obtain ⟨ds, bus2, seen2, shown2⟩ := h2
  rw [h.psw, h.prefixes] at shown2
  refine ⟨cs ++ ds, ?_, by rw [List.map_append, List.map_append, seen1, seen2],
    List.forall_mem_append.mpr ⟨shown1, shown2⟩⟩
  rw [bus2, bus1, List.map_append, List.reverse_append, List.append_assoc]

/-- A byte read. -/
theorem afterLoad (s : State) (g : SReg) (off : Word) :
    SeesBytes s (s.afterLoad .byte g off) [(.memRead, g, byteAddr (s.readSreg g) off 0)] :=
  ⟨s.readCycles .byte g off, rfl, rfl, List.forall_mem_singleton.mpr ⟨rfl, rfl, rfl, rfl⟩⟩

/-- A byte stored. -/
theorem store (s : State) (g : SReg) (off : Word) (v : Byte) :
    SeesBytes s (s.store .byte g off v) [(.memWrite, g, byteAddr (s.readSreg g) off 0)] :=
  ⟨s.writeCycles .byte g off v, s.store_bus .byte g off v, rfl, List.forall_mem_singleton.mpr ⟨rfl, rfl, rfl, rfl⟩⟩

end SeesBytes

/-- What the bus sees of byte `k` of the strings (R280 (e)). -/
def State.bcdAccesses (s : State) (op : BcdOp) (k : Nat) : List (CycleKind × SReg × Nat) :=
  [(.memRead, s.dataSreg, s.bcdSource k), (.memRead, .ds1, s.bcdDest k)] ++
    if op.stores then [(.memWrite, .ds1, s.bcdDest k)] else []

/-- What byte `k` of the strings leaves in memory: the result byte, if the operation stores it. -/
def State.bcdCells (s : State) (op : BcdOp) (k : Nat) (v : Byte) : List (Nat × Byte) :=
  if op.stores then [(s.bcdDest k, v)] else []

theorem SameButMemory.bcdAccesses {s t : State} (h : SameButMemory s t) (op : BcdOp) :
    t.bcdAccesses op = s.bcdAccesses op := by
  rw [h]
  rfl

/-- What operation `op` leaves of a run over the bytes `ks`: its bytes in memory and its cycles, and nothing else. -/
structure BcdRun (op : BcdOp) (ks : List Nat) (s t : State) : Prop where
  same : SameButMemory s t
  cells : ∃ cells : List (Nat × Byte), StoresCells s t cells ∧
    cells.map (·.1) = if op.stores then ks.map s.bcdDest else []
  sees : SeesBytes s t (ks.flatMap (s.bcdAccesses op))
  mem : op.stores = false → t.mem = s.mem

/-- No byte, nothing changed. -/
theorem BcdRun.nil (op : BcdOp) (s : State) : BcdRun op [] s s :=
  ⟨.refl s, ⟨[], .nil s, by cases op <;> rfl⟩, .nil s, fun _ => rfl⟩

/-- A run over two parts of the strings, one after the other. -/
theorem BcdRun.append {op : BcdOp} {ks ls : List Nat} {s t u : State} (h1 : BcdRun op ks s t) (h2 : BcdRun op ls t u) :
    BcdRun op (ks ++ ls) s u := by
  obtain ⟨same1, ⟨cells1, stored1, at1⟩, sees1, mem1⟩ := h1
  obtain ⟨same2, ⟨cells2, stored2, at2⟩, sees2, mem2⟩ := h2
  rw [same1.bcdAccesses] at sees2
  rw [funext same1.bcdDest] at at2
  refine ⟨same1.trans same2, ⟨cells1 ++ cells2, stored1.trans stored2 same1.platform, ?_⟩, ?_,
    fun h => (mem2 h).trans (mem1 h)⟩
  · rw [List.map_append, at1, at2]
    cases op <;> simp [BcdOp.stores]
  · rw [List.flatMap_append]
    exact sees1.trans sees2 same1

/-- One pass: what reading byte `k` of both strings and storing `v` leaves. -/
theorem State.bcdPass_spec (s : State) (op : BcdOp) (k : Nat) (v : Byte) :
    let t := (s.afterBcd k).storeBcd op k v
    SameButMemory s t ∧ StoresCells s t (s.bcdCells op k v) ∧ SeesBytes s t (s.bcdAccesses op k) ∧
      (op.stores = false → t.mem = s.mem) := by
  have read : SameButMemory s (s.afterBcd k) := rfl
  have reads : SeesBytes s (s.afterBcd k) [(.memRead, s.dataSreg, s.bcdSource k), (.memRead, .ds1, s.bcdDest k)] :=
    (SeesBytes.afterLoad s s.dataSreg _).trans (.afterLoad _ .ds1 _) rfl
  have none : StoresCells s (s.afterBcd k) [] := (StoresCells.nil s).congr rfl rfl rfl rfl rfl
  let stored := (s.afterBcd k).store .byte .ds1 (s.iy + BitVec.ofNat 16 k) v
  have same : SameButMemory s stored := read.trans (State.store_eq ..)
  have cells : StoresCells s stored [(s.bcdDest k, v)] :=
    none.trans ((s.afterBcd k).store_stores .byte .ds1 _ v).memory rfl
  have sees := reads.trans (SeesBytes.store (s.afterBcd k) .ds1 (s.iy + BitVec.ofNat 16 k) v) read
  cases op with
  | add | sub => exact ⟨same, cells, sees, nofun⟩
  | cmp => exact ⟨read, none, reads, fun _ => rfl⟩

/-- One pass is a run over one byte. -/
theorem State.bcdPass_run (s : State) (op : BcdOp) (k : Nat) (v : Byte) :
    BcdRun op [k] s ((s.afterBcd k).storeBcd op k v) := by
  obtain ⟨same, cells, sees, mem⟩ := s.bcdPass_spec op k v
  refine ⟨same, ⟨s.bcdCells op k v, cells, ?_⟩, ?_, mem⟩
  · cases op <;> rfl
  · rw [List.flatMap_singleton]
    exact sees

/-- The loop is a run over its bytes. -/
theorem State.bcdLoop_run (op : BcdOp) (odd : Bool) (n k : Nat) (c zero : Bool) (s : State) :
    BcdRun op (List.range' k n) s (State.bcdLoop op odd n k c zero s).1 := by
  induction n generalizing k c zero s with
  | zero => exact .nil op s
  | succ n ih => exact (s.bcdPass_run op k _).append (ih (k + 1) _ _ _)

/-- The instruction: a run over the bytes of the strings, and the flags, of which only Z and CY are not drawn. -/
theorem State.bcdString_spec (s : State) (op : BcdOp) :
    let t := s.bcdString op
    ∃ u, BcdRun op (List.range ((s.bcdDigits + 1) / 2)) s u ∧ SameRegisters s t ∧ SameRest s t ∧
      SameMemory u t ∧ t.psw = { s.psw.withStatus s.drawnStatus with z := t.psw.z, cy := t.psw.cy } := by
  intro t
  let odd := s.bcdDigits % 2 == 1
  let r := State.bcdLoop op odd ((s.bcdDigits + 1) / 2) 0 false true s
  let f := if odd || !s.bcdLengthStated then s.drawnStatus else { s.drawnStatus with z := r.2.2, cy := r.2.1 }
  have run : BcdRun op (List.range ((s.bcdDigits + 1) / 2)) s r.1 := by
    rw [List.range_eq_range']
    exact State.bcdLoop_run ..
  obtain ⟨-, registers, memory, rest⟩ := r.1.setStatus_frame f
  have drawn : f = { s.drawnStatus with z := f.z, cy := f.cy } := by
    unfold f
    split <;> rfl
  have flags : t.psw = s.psw.withStatus f := congrArg (Psw.withStatus · f) run.same.psw
  refine ⟨r.1, run, run.same.registers.trans registers, run.same.rest.trans rest, memory, ?_⟩
  rw [flags, drawn]
  rfl

/-- A number of digits that the spec gives a result for is CL (R280 (c)). -/
theorem State.bcdDigits_eq (s : State) (h1 : 1 ≤ (s.readReg8 .clCw).toNat) (h2 : (s.readReg8 .clCw).toNat ≤ 254) :
    s.bcdLengthStated = true ∧ s.bcdDigits = (s.readReg8 .clCw).toNat := by
  have stated : s.bcdLengthStated = true := by
    rw [State.bcdLengthStated, Bool.and_eq_true, decide_eq_true_eq, decide_eq_true_eq]
    exact ⟨h1, h2⟩
  exact ⟨stated, if_pos stated⟩

/-- What the bus has seen does not depend on what follows without a cycle. -/
theorem SeesBytes.sameMemory {s t u : State} {xs : List (CycleKind × SReg × Nat)} (h : SeesBytes s t xs)
    (hm : SameMemory t u) : SeesBytes s u xs := by
  obtain ⟨cycles, bus, seen, shown⟩ := h
  obtain ⟨-, same, -⟩ := hm
  exact ⟨cycles, same.trans bus, seen, shown⟩

/-- The bytes stored do not depend on what follows without a store. -/
theorem StoresCells.sameMemory {s t u : State} {xs : List (Nat × Byte)} (h : StoresCells s t xs)
    (hm : SameMemory t u) : StoresCells s u xs := by
  obtain ⟨-, -, bytes⟩ := hm
  exact ⟨fun a hk ha => (bytes a).trans (h.frame a hk ha), fun a v ha hk => (bytes a).trans (h.stored a v ha hk),
    fun a hk => (bytes a).trans (h.kept a hk)⟩

/-- Settles O41, by the loop as a run over the bytes of the strings. -/
theorem bcdStringsComplete : Obligations.BcdStringsComplete := by
  intro s bytes source dest sees
  have storing {i : Instr} (op : BcdOp) (hx : exec i s = .next (s.bcdString op)) (hs : op.stores = true) :
      Completes i s fun t => ∃ cells : List (Nat × Byte),
        StoresCells s t cells ∧ cells.map (·.1) = bytes.map dest ∧
        sees t (bytes.flatMap fun k =>
          [(.memRead, s.dataSreg, source k), (.memRead, .ds1, dest k), (.memWrite, .ds1, dest k)]) ∧
        t.psw = { s.psw.withStatus s.drawnStatus with z := t.psw.z, cy := t.psw.cy } ∧
        SameRegisters s t ∧ SameRest s t := by
    obtain ⟨u, run, registers, rest, memory, psw⟩ := s.bcdString_spec op
    obtain ⟨-, ⟨cells, stored, addressed⟩, seen, -⟩ := run
    rw [if_pos hs] at addressed
    have accesses : s.bcdAccesses op = fun k =>
        [(.memRead, s.dataSreg, source k), (.memRead, .ds1, dest k), (.memWrite, .ds1, dest k)] := by
      unfold State.bcdAccesses
      simp only [hs, if_true]
      rfl
    rw [accesses] at seen
    exact ⟨_, hx, cells, stored.sameMemory memory, addressed, seen.sameMemory memory, psw, registers, rest⟩
  refine ⟨?_, ?_, fun h1 h2 => (s.bcdDigits_eq h1 h2).2⟩
  · simp only [List.forall_mem_cons]
    exact ⟨storing .add rfl rfl, storing .sub rfl rfl, List.forall_mem_nil _⟩
  · obtain ⟨u, run, registers, rest, memory, psw⟩ := s.bcdString_spec .cmp
    obtain ⟨-, ⟨cells, stored, addressed⟩, seen, mem⟩ := run
    obtain rfl : cells = [] := List.map_eq_nil_iff.mp addressed
    exact ⟨_, rfl, psw, memory.1.trans (mem rfl), stored.sameMemory memory, seen.sameMemory memory, registers, rest⟩

end Sys2Proof.Machine

end

section

/-! The numbers of the BCD strings (42_add_sub_bcd.md R280): one byte of the operation as an equation between numbers, how
the equations of the bytes add up to that of the strings, and the value of a string by its bytes. -/

namespace Sys2Proof.Machine

/-- Two decimal digits as a byte, as a number. -/
theorem decimalByte_toNat {n : Nat} (h : n < 100) : (decimalByte n).toNat = n / 10 * 16 + n % 10 := by
  rw [decimalByte, BitVec.toNat_ofNat]
  exact Nat.mod_eq_of_lt (by omega)

/-- Two decimal digits as a byte have their value. -/
theorem decimalValue_decimalByte {n : Nat} (h : n < 100) : decimalValue (decimalByte n) = n := by
  rw [decimalValue, decimalByte_toNat h]
  omega

/-- The digits of a decimal byte are at most 9. -/
theorem isDecimal_iff (x : Byte) : isDecimal x = true ↔ x.toNat / 16 ≤ 9 ∧ x.toNat % 16 ≤ 9 := by
  rw [isDecimal, Bool.and_eq_true, decide_eq_true_eq, decide_eq_true_eq]

/-- Two decimal digits as a byte are decimal. -/
theorem isDecimal_decimalByte {n : Nat} (h : n < 100) : isDecimal (decimalByte n) = true := by
  rw [isDecimal_iff, decimalByte_toNat h]
  omega

/-- A decimal byte has a value below 100. -/
theorem decimalValue_lt {x : Byte} (h : isDecimal x = true) : decimalValue x < 100 := by
  rw [isDecimal_iff] at h
  rw [decimalValue]
  omega

/-- The low digit of a decimal byte. -/
theorem decimalValue_mod_ten {x : Byte} (h : isDecimal x = true) : decimalValue x % 10 = x.toNat % 16 := by
  rw [isDecimal_iff] at h
  rw [decimalValue]
  omega

/-- A byte is 00H when its digits are. -/
theorem decimalValue_eq_zero_iff (x : Byte) : decimalValue x = 0 ↔ x = 0 := by
  rw [decimalValue]
  constructor
  · intro h
    exact BitVec.eq_of_toNat_eq (show x.toNat = 0 by omega)
  · rintro rfl
    rfl

/-- A carry as a number. -/
theorem toNat_decide (p : Prop) [Decidable p] : (decide p).toNat = if p then 1 else 0 := apply_ite Bool.toNat p true false

/-- The numbers `a` and `b` of `n` digits, the incoming carry or borrow, the result of `n` digits and the outgoing carry or
borrow: what goes in is what comes out. -/
def BcdOp.Balances (op : BcdOp) (n a b : Nat) (c : Bool) (result : Nat) (carry : Bool) : Prop :=
  result < 10 ^ n ∧
    match op with
    | .add => a + b + c.toNat = result + 10 ^ n * carry.toNat
    | .sub | .cmp => a + 10 ^ n * carry.toNat = result + b + c.toNat

namespace BcdOp.Balances

/-- No digit: the carry goes through. -/
theorem zero (op : BcdOp) (c : Bool) : op.Balances 0 0 0 c 0 c := by
  cases op <;> exact ⟨Nat.one_pos, by simp⟩

/-- Two digits below the others. -/
theorem addTwo {op : BcdOp} {n d s r a b result : Nat} {c mid carry : Bool} (low : op.Balances 2 d s c r mid)
    (high : op.Balances n a b mid result carry) :
    op.Balances (n + 2) (d + 100 * a) (s + 100 * b) c (r + 100 * result) carry := by
  obtain ⟨lowLt, low⟩ := low
  obtain ⟨highLt, high⟩ := high
  have power : 10 ^ (n + 2) = 100 * 10 ^ n := by rw [Nat.pow_add, Nat.mul_comm]
  refine ⟨by omega, ?_⟩
  rw [power, Nat.mul_assoc]
  cases op <;> dsimp only at low high ⊢ <;> omega

/-- The low digit of two. -/
theorem lowDigit {op : BcdOp} {d s r : Nat} {c mid : Bool} (h : op.Balances 2 d s c r mid) :
    ∃ carry, op.Balances 1 (d % 10) (s % 10) c (r % 10) carry := by
  obtain ⟨-, h⟩ := h
  have bit : c.toNat < 2 := c.toNat_lt
  cases op with
  | add =>
    refine ⟨decide (10 ≤ d % 10 + s % 10 + c.toNat), by omega, ?_⟩
    dsimp only at h ⊢
    rw [toNat_decide]
    split <;> omega
  | sub | cmp =>
    refine ⟨decide (d % 10 < s % 10 + c.toNat), by omega, ?_⟩
    dsimp only at h ⊢
    rw [toNat_decide]
    split <;> omega

/-- ADD4S: the sum and its carry. -/
theorem sum {n a b result : Nat} {carry : Bool} (h : BcdOp.add.Balances n a b false result carry) :
    result = (a + b) % 10 ^ n ∧ (carry = true ↔ 10 ^ n ≤ a + b) := by
  obtain ⟨lt, h⟩ := h
  dsimp only at h
  cases carry with
  | false =>
    have sum : a + b = result := by simpa using h
    exact ⟨by rw [sum, Nat.mod_eq_of_lt lt], by simp; omega⟩
  | true =>
    have sum : a + b = result + 10 ^ n := by simpa using h
    exact ⟨by rw [sum, Nat.add_mod_right, Nat.mod_eq_of_lt lt], by simp; omega⟩

/-- SUB4S and CMP4S: the difference and its borrow. -/
theorem difference {op : BcdOp} {n a b result : Nat} {carry : Bool} (hop : op ≠ .add)
    (h : op.Balances n a b false result carry) :
    result = (10 ^ n + a - b) % 10 ^ n ∧ (carry = true ↔ a < b) := by
  obtain ⟨lt, h⟩ := h
  have balance : a + 10 ^ n * carry.toNat = result + b := by
    cases op with
    | add => exact absurd rfl hop
    | sub | cmp => exact h
  cases carry with
  | false =>
    have sum : a = result + b := by simpa using balance
    have difference : 10 ^ n + a - b = result + 10 ^ n := by omega
    exact ⟨by rw [difference, Nat.add_mod_right, Nat.mod_eq_of_lt lt], by simp; omega⟩
  | true =>
    have sum : a + 10 ^ n = result + b := by simpa using balance
    have difference : 10 ^ n + a - b = result := by omega
    exact ⟨by rw [difference, Nat.mod_eq_of_lt lt], by simp; omega⟩

/-- CMP4S: the difference is zero when the numbers are equal. -/
theorem equal_iff {n a b result : Nat} {carry : Bool} (h : BcdOp.cmp.Balances n a b false result carry)
    (hb : b < 10 ^ n) : result = 0 ↔ a = b := by
  obtain ⟨lt, h⟩ := h
  cases carry with
  | false =>
    simp only [Bool.toNat_false, Nat.mul_zero, Nat.add_zero] at h
    omega
  | true =>
    simp only [Bool.toNat_true, Bool.toNat_false, Nat.mul_one, Nat.add_zero] at h
    omega

end BcdOp.Balances

/-- One byte of two decimal digits each (R280 (e)). -/
theorem bcdByte_balances (op : BcdOp) {d s : Byte} (hd : isDecimal d = true) (hs : isDecimal s = true) (c : Bool) :
    isDecimal (bcdByte op d s c).1 = true ∧
      op.Balances 2 (decimalValue d) (decimalValue s) c (decimalValue (bcdByte op d s c).1) (bcdByte op d s c).2 := by
  have dLt := decimalValue_lt hd
  have sLt := decimalValue_lt hs
  have bit : c.toNat < 2 := c.toNat_lt
  have digits (t : Nat) : t % 100 < 100 := Nat.mod_lt _ (by decide)
  cases op with
  | add | sub | cmp =>
    refine ⟨isDecimal_decimalByte (digits _), ?_⟩
    simp only [bcdByte, BcdOp.Balances, decimalValue_decimalByte (digits _), toNat_decide]
    split <;> omega

/-- Digit `j` of the string in the bytes `f k`, `f (k + 1)` and so on, two a byte and the least significant first, at its
place. -/
def bcdDigit (f : Nat → Byte) (k j : Nat) : Nat := (f (k + j / 2)).toNat / 16 ^ (j % 2) % 16 * 10 ^ j

/-- The digits from the second byte on. -/
theorem bcdDigit_add_two (f : Nat → Byte) (k j : Nat) : bcdDigit f k (j + 2) = 100 * bcdDigit f (k + 1) j := by
  rw [bcdDigit, bcdDigit, Nat.add_mod_right, show k + (j + 2) / 2 = k + 1 + j / 2 by omega, Nat.pow_add,
    Nat.mul_comm (10 ^ j), Nat.mul_left_comm]

/-- The digits from the second byte on, added. -/
theorem sum_bcdDigit_add_two (f : Nat → Byte) (k : Nat) (places : List Nat) :
    (places.map (bcdDigit f k ∘ (· + 2))).sum = 100 * (places.map (bcdDigit f (k + 1))).sum := by
  induction places with
  | nil => rfl
  | cons j places ih =>
    rw [List.map_cons, List.map_cons, List.sum_cons, List.sum_cons, Nat.mul_add, ih, Function.comp_apply,
      bcdDigit_add_two]

/-- The number of the first `n` digits. -/
def bcdValue (f : Nat → Byte) (k n : Nat) : Nat := ((List.range n).map (bcdDigit f k)).sum

theorem bcdValue_one (f : Nat → Byte) (k : Nat) : bcdValue f k 1 = (f k).toNat % 16 := by
  simp [bcdValue, bcdDigit]

/-- Two digits are those of the first byte. -/
theorem bcdValue_add_two (f : Nat → Byte) (k n : Nat) :
    bcdValue f k (n + 2) = decimalValue (f k) + 100 * bcdValue f (k + 1) n := by
  have low : bcdDigit f k 0 = (f k).toNat % 16 := by simp [bcdDigit]
  have high : bcdDigit f k 1 = (f k).toNat / 16 * 10 := by
    have below : (f k).toNat / 16 < 16 := Nat.div_lt_of_lt_mul (f k).isLt
    exact congrArg (· * 10) (Nat.mod_eq_of_lt below)
  have others : ((List.range n).map (bcdDigit f k ∘ (· + 2))).sum = 100 * bcdValue f (k + 1) n :=
    sum_bcdDigit_add_two f k _
  have split : List.range (n + 2) = 0 :: 1 :: (List.range n).map (· + 2) := by
    simp [List.range_succ_eq_map]
  rw [bcdValue, split, List.map_cons, List.map_cons, List.map_map, List.sum_cons, List.sum_cons, others, low, high,
    decimalValue]
  omega

/-- The value depends on the bytes that hold the digits. -/
theorem bcdValue_congr {f g : Nat → Byte} {k n : Nat} (h : ∀ j, k ≤ j → j < k + (n + 1) / 2 → f j = g j) :
    bcdValue f k n = bcdValue g k n := by
  refine congrArg List.sum (List.map_congr_left fun j hj => ?_)
  have hj : j < n := List.mem_range.mp hj
  rw [bcdDigit, bcdDigit, h (k + j / 2) (by omega) (by omega)]

/-- Decimal bytes hold a number of `n` digits. -/
theorem bcdValue_lt {f : Nat → Byte} : ∀ {n k : Nat},
    (∀ j, k ≤ j → j < k + (n + 1) / 2 → isDecimal (f j) = true) → bcdValue f k n < 10 ^ n
  | 0, _, _ => Nat.one_pos
  | 1, k, h => by
    obtain ⟨-, low⟩ := (isDecimal_iff _).mp (h k (Nat.le_refl k) (by omega))
    rw [bcdValue_one]
    omega
  | n + 2, k, h => by
    have first := decimalValue_lt (h k (Nat.le_refl k) (by omega))
    have others : bcdValue f (k + 1) n < 10 ^ n := bcdValue_lt fun j hk hj => h j (by omega) (by omega)
    rw [bcdValue_add_two, Nat.pow_add]
    omega

end Sys2Proof.Machine

end

section

/-! The BCD strings as numbers (42_add_sub_bcd.md R280 to R283): the bytes that a run changes, and the loop as an addition
or a subtraction of the numbers. -/

namespace Sys2Proof.Machine

/-- Byte `k` of the source string. -/
def State.sourceByte (s : State) (k : Nat) : Byte := s.readByte (s.bcdSource k)

/-- Byte `k` of the destination string. -/
def State.destByte (s : State) (k : Nat) : Byte := s.readByte (s.bcdDest k)

/-- The bytes of the destination string within a segment's reach have different addresses. -/
theorem State.bcdDest_inj {s : State} {i j : Nat} (hi : i < 2 ^ 16) (hj : j < 2 ^ 16) (h : s.bcdDest i = s.bcdDest j) :
    i = j := by
  simp only [State.bcdDest, byteAddr_zero, phys, BitVec.toNat_add, BitVec.toNat_ofNat] at h
  omega

/-- An address that no store of the list goes to. -/
theorem storedAt_eq_none {cells : List (Nat × Byte)} {a : Nat} (h : a ∉ cells.map (·.1)) : storedAt cells a = none := by
  induction cells with
  | nil => rfl
  | cons c cells ih =>
    obtain ⟨b, v⟩ := c
    obtain ⟨first, others⟩ := not_or.mp (mt List.mem_cons.mpr h)
    rw [storedAt, ih others]
    exact if_neg first

/-- A run changes the bytes of the destination only. -/
theorem BcdRun.readByte {op : BcdOp} {ks : List Nat} {s t : State} (h : BcdRun op ks s t) {a : Nat}
    (ha : kindAt s.platform a ≠ .device) (hne : ∀ i ∈ ks, a ≠ s.bcdDest i) : t.readByte a = s.readByte a := by
  obtain ⟨cells, stored, addressed⟩ := h.cells
  refine stored.frame a ha (storedAt_eq_none ?_)
  rw [addressed]
  split
  · rw [List.mem_map]
    rintro ⟨i, hi, rfl⟩
    exact hne i hi rfl
  · exact List.not_mem_nil

/-- The result of one pass with a free upper digit, if the byte is the highest of a string of odd length (R280 (g)). -/
def State.topFree (s : State) (k : Nat) (top : Bool) (r : Byte × Bool) : Byte × Bool :=
  if top then ((Config.freeByte s.draws (256 + k)).extractLsb' 4 4 ++ r.1.extractLsb' 0 4, r.2) else r

/-- The lower digit is not free. -/
theorem State.topFree_low (s : State) (k : Nat) (top : Bool) (r : Byte × Bool) :
    (s.topFree k top r).1.toNat % 16 = r.1.toNat % 16 := by
  cases top with
  | false => rfl
  | true =>
    have low : (r.1.extractLsb' 0 4).toNat = r.1.toNat % 16 := lowNibble_toNat r.1
    rw [State.topFree, if_pos rfl, nibbles_toNat, low]
    omega

/-- What the spec asks of the strings from byte `k` to byte `last`: decimal digits still to come, the destination in RAM, the
source in no device and apart from the destination. -/
structure State.BcdOperands (s : State) (k last : Nat) : Prop where
  inSegment : last ≤ 2 ^ 16
  source : ∀ j, k ≤ j → j < last → isDecimal (s.sourceByte j) = true
  dest : ∀ j, k ≤ j → j < last → isDecimal (s.destByte j) = true
  ram : ∀ j, j < last → kindAt s.platform (s.bcdDest j) = .ram
  memory : ∀ j, j < last → kindAt s.platform (s.bcdSource j) ≠ .device
  apart : ∀ i j, i < last → j < last → s.bcdSource i ≠ s.bcdDest j

namespace State.BcdOperands

variable {s t : State} {op : BcdOp} {k last : Nat}

/-- No byte of the destination is in a device. -/
theorem dest_ne_device (h : s.BcdOperands k last) {j : Nat} (hj : j < last) :
    kindAt s.platform (s.bcdDest j) ≠ .device := by
  rw [h.ram j hj]
  exact RegionKind.noConfusion

/-- A run leaves the bytes of the source. -/
theorem sourceByte_run (h : s.BcdOperands k last) {ks : List Nat} (run : BcdRun op ks s t) (hks : ∀ i ∈ ks, i < last)
    {j : Nat} (hj : j < last) : t.sourceByte j = s.sourceByte j := by
  rw [State.sourceByte, run.same.bcdSource]
  exact run.readByte (h.memory j hj) fun i hi => h.apart j i hj (hks i hi)

/-- A run leaves the bytes of the destination that are not its own. -/
theorem destByte_run (h : s.BcdOperands k last) {ks : List Nat} (run : BcdRun op ks s t) (hks : ∀ i ∈ ks, i < last)
    {j : Nat} (hj : j < last) (hne : j ∉ ks) : t.destByte j = s.destByte j := by
  have inSegment := h.inSegment
  rw [State.destByte, run.same.bcdDest]
  refine run.readByte (h.dest_ne_device hj) fun i hi same => hne ?_
  rw [State.bcdDest_inj (Nat.lt_of_lt_of_le hj inSegment) (Nat.lt_of_lt_of_le (hks i hi) inSegment) same]
  exact hi

/-- The byte that one pass computes, and the carry: those of two decimal bytes, but for a free upper digit. -/
theorem bcdResult_eq (h : s.BcdOperands k last) (hk : k < last) (top c : Bool) :
    s.bcdResult op k top c = s.topFree k top (bcdByte op (s.destByte k) (s.sourceByte k) c) := by
  have read : (s.afterLoad .byte s.dataSreg (s.ix + BitVec.ofNat 16 k)).readByte (s.bcdDest k) = s.destByte k :=
    State.readByte_congr_of_ne (s := s) (t := s.afterLoad .byte s.dataSreg (s.ix + BitVec.ofNat 16 k)) rfl rfl
      (h.dest_ne_device hk)
  have decimal : (isDecimal (s.sourceByte k) && isDecimal (s.destByte k)) = true := by
    rw [h.source k (Nat.le_refl k) hk, h.dest k (Nat.le_refl k) hk]
    rfl
  calc s.bcdResult op k top c
    _ = s.topFree k top (if isDecimal (s.sourceByte k) && isDecimal (s.destByte k)
          then bcdByte op (s.destByte k) (s.sourceByte k) c
          else (Config.freeByte s.draws k, Config.freeBool s.draws k)) := by rw [← read]; rfl
    _ = s.topFree k top (bcdByte op (s.destByte k) (s.sourceByte k) c) := by rw [if_pos decimal]

/-- The byte stored by one pass. -/
theorem destByte_pass (h : s.BcdOperands k last) (hk : k < last) (hs : op.stores = true) (v : Byte) :
    ((s.afterBcd k).storeBcd op k v).destByte k = v := by
  obtain ⟨same, cells, -, -⟩ := s.bcdPass_spec op k v
  rw [State.bcdCells, if_pos hs] at cells
  rw [State.destByte, same.bcdDest]
  exact cells.stored _ v (if_pos rfl) (h.ram k hk)

/-- After one pass the rest of the strings is as before. -/
theorem pass (h : s.BcdOperands k last) (hk : k < last) (v : Byte) :
    ((s.afterBcd k).storeBcd op k v).BcdOperands (k + 1) last := by
  have run := s.bcdPass_run op k v
  have inside : ∀ i ∈ [k], i < last := List.forall_mem_singleton.mpr hk
  refine ⟨h.inSegment, fun j hkj hj => ?_, fun j hkj hj => ?_, fun j hj => ?_, fun j hj => ?_, fun i j hi hj => ?_⟩
  · rw [h.sourceByte_run run inside hj]
    exact h.source j (Nat.le_of_succ_le hkj) hj
  · rw [h.destByte_run run inside hj (by rw [List.mem_singleton]; omega)]
    exact h.dest j (Nat.le_of_succ_le hkj) hj
  · rw [run.same.platform, run.same.bcdDest]
    exact h.ram j hj
  · rw [run.same.platform, run.same.bcdSource]
    exact h.memory j hj
  · rw [run.same.bcdSource, run.same.bcdDest]
    exact h.apart i j hi hj

end State.BcdOperands

/-- The loop over two digits more is one pass and then the loop. -/
theorem State.bcdLoop_add_two (op : BcdOp) (n k : Nat) (c zero : Bool) (s : State) :
    State.bcdLoop op ((n + 2) % 2 == 1) ((n + 2 + 1) / 2) k c zero s =
      let r := s.bcdResult op k false c
      State.bcdLoop op (n % 2 == 1) ((n + 1) / 2) (k + 1) r.2 (zero && r.1 == 0) ((s.afterBcd k).storeBcd op k r.1) := by
  have notTop : (n % 2 == 1 && (n + 1) / 2 == 0) = false := by
    rw [Bool.and_eq_false_iff, beq_eq_false_iff_ne, beq_eq_false_iff_ne]
    omega
  rw [show (n + 2 + 1) / 2 = (n + 1) / 2 + 1 by omega, Nat.add_mod_right, State.bcdLoop, notTop]

/-- What the loop makes of the numbers of `n` digits in the bytes from `k` on: it adds or subtracts them with the incoming
carry, and for even `n` ends with the carry and with whether the result, after `zero`, is zero. -/
def BcdOutcome (op : BcdOp) (n k : Nat) (c zero : Bool) (s : State) (r : State × Bool × Bool) : Prop :=
  ∃ result carry, op.Balances n (bcdValue s.destByte k n) (bcdValue s.sourceByte k n) c result carry ∧
    (op.stores = true → bcdValue r.1.destByte k n = result) ∧
    (n % 2 = 0 → r.2.1 = carry ∧ (r.2.2 = true ↔ zero = true ∧ result = 0))

/-- No digit. -/
theorem BcdOutcome.zero (op : BcdOp) (k : Nat) (c zero : Bool) (s : State) : BcdOutcome op 0 k c zero s (s, c, zero) :=
  ⟨0, c, .zero op c, fun _ => rfl, fun _ => ⟨rfl, (and_iff_left rfl).symm⟩⟩

/-- One digit, with a free digit above it. -/
theorem BcdOutcome.one {op : BcdOp} {k last : Nat} {c zero : Bool} {s : State} (h : s.BcdOperands k last)
    (hk : k < last) : BcdOutcome op 1 k c zero s (State.bcdLoop op true 1 k c zero s) := by
  let b := bcdByte op (s.destByte k) (s.sourceByte k) c
  obtain ⟨decimal, byte⟩ := bcdByte_balances op (h.dest k (Nat.le_refl k) hk) (h.source k (Nat.le_refl k) hk) c
  obtain ⟨carry, digit⟩ := byte.lowDigit
  rw [decimalValue_mod_ten (h.dest k (Nat.le_refl k) hk), decimalValue_mod_ten (h.source k (Nat.le_refl k) hk),
    decimalValue_mod_ten decimal] at digit
  refine ⟨b.1.toNat % 16, carry, by rw [bcdValue_one, bcdValue_one]; exact digit, fun hs => ?_, nofun⟩
  have stored : (State.bcdLoop op true 1 k c zero s).1 = (s.afterBcd k).storeBcd op k (s.topFree k true b).1 :=
    congrArg (fun r : Byte × Bool => (s.afterBcd k).storeBcd op k r.1) (h.bcdResult_eq hk true c)
  rw [bcdValue_one, stored, h.destByte_pass hk hs, State.topFree_low]

/-- Two digits more: one pass, and the outcome for the digits from the next byte on. -/
theorem BcdOutcome.addTwo {op : BcdOp} {n k last : Nat} {c zero : Bool} {s : State} {r : State × Bool × Bool}
    (h : s.BcdOperands k last) (hl : k + 1 + (n + 1) / 2 = last) :
    let b := bcdByte op (s.destByte k) (s.sourceByte k) c
    let u := (s.afterBcd k).storeBcd op k b.1
    BcdRun op (List.range' (k + 1) ((n + 1) / 2)) u r.1 → BcdOutcome op n (k + 1) b.2 (zero && b.1 == 0) u r →
      BcdOutcome op (n + 2) k c zero s r := by
  rintro b u rest ⟨result, carry, high, stored, flags⟩
  have hk : k < last := by omega
  have run : BcdRun op [k] s u := s.bcdPass_run op k b.1
  have inside : ∀ i ∈ [k], i < last := List.forall_mem_singleton.mpr hk
  have apart {j : Nat} (hj : k + 1 ≤ j) : j ∉ [k] := mt List.mem_singleton.mp (Nat.ne_of_gt hj)
  have dest : bcdValue u.destByte (k + 1) n = bcdValue s.destByte (k + 1) n :=
    bcdValue_congr fun j hkj hj => h.destByte_run run inside (hl ▸ hj) (apart hkj)
  have source : bcdValue u.sourceByte (k + 1) n = bcdValue s.sourceByte (k + 1) n :=
    bcdValue_congr fun j _ hj => h.sourceByte_run run inside (hl ▸ hj)
  obtain ⟨-, low⟩ := bcdByte_balances op (h.dest k (Nat.le_refl k) hk) (h.source k (Nat.le_refl k) hk) c
  rw [dest, source] at high
  refine ⟨decimalValue b.1 + 100 * result, carry, ?_, fun hs => ?_, fun even => ?_⟩
  · rw [bcdValue_add_two, bcdValue_add_two]
    exact low.addTwo high
  · have others : ∀ i ∈ List.range' (k + 1) ((n + 1) / 2), i < last := fun i hi => by
      rw [List.mem_range'_1] at hi
      omega
    have first : k ∉ List.range' (k + 1) ((n + 1) / 2) := by
      rw [List.mem_range'_1]
      omega
    rw [bcdValue_add_two, stored hs, (h.pass hk b.1).destByte_run rest others hk first, h.destByte_pass hk hs]
  · obtain ⟨carries, isZero⟩ := flags (by omega)
    refine ⟨carries, isZero.trans ?_⟩
    rw [Bool.and_eq_true, beq_iff_eq, ← decimalValue_eq_zero_iff, and_assoc]
    exact and_congr_right fun _ => by omega

/-- The loop over the bytes of `n` digits, by two digits at a time. -/
theorem State.bcdLoop_outcome (op : BcdOp) {last : Nat} : ∀ (n : Nat) {k : Nat} (c zero : Bool) {s : State},
    s.BcdOperands k last → k + (n + 1) / 2 = last →
      BcdOutcome op n k c zero s (State.bcdLoop op (n % 2 == 1) ((n + 1) / 2) k c zero s)
  | 0, k, c, zero, s, _, _ => .zero op k c zero s
  | 1, _, _, _, _, h, hl => .one h (by omega)
  | n + 2, k, c, zero, s, h, hl => by
    have hk : k < last := by omega
    rw [State.bcdLoop_add_two, h.bcdResult_eq hk]
    exact .addTwo h (by omega) (State.bcdLoop_run ..) (bcdLoop_outcome op n _ _ (h.pass hk _) (by omega))

/-- The instruction on the numbers of `n` digits: the result and the carry, in the destination and the flags as far as the
spec gives them (R280 (f), (g)). -/
theorem State.bcdString_numbers (s : State) (op : BcdOp) {n : Nat} (hn : s.bcdDigits = n)
    (hl : s.bcdLengthStated = true) (h : s.BcdOperands 0 ((n + 1) / 2)) :
    let t := s.bcdString op
    ∃ result carry, op.Balances n (bcdValue s.destByte 0 n) (bcdValue s.sourceByte 0 n) false result carry ∧
      (op.stores = true → bcdValue (fun k => t.readByte (s.bcdDest k)) 0 n = result) ∧
      (n % 2 = 0 → t.psw.cy = carry ∧ (t.psw.z = true ↔ result = 0)) ∧
      (n % 2 = 1 → t.psw.cy = Config.freeFlag s.draws .cy ∧ t.psw.z = Config.freeFlag s.draws .z) := by
  subst hn
  let n := s.bcdDigits
  let r := State.bcdLoop op (n % 2 == 1) ((n + 1) / 2) 0 false true s
  have run : BcdRun op (List.range' 0 ((n + 1) / 2)) s r.1 := State.bcdLoop_run ..
  have drawn (odd : n % 2 = 1) : s.bcdString op = r.1.setStatus s.drawnStatus :=
    congrArg r.1.setStatus (if_pos (by rw [odd]; rfl))
  have computed (even : n % 2 = 0) :
      s.bcdString op = r.1.setStatus { s.drawnStatus with z := r.2.2, cy := r.2.1 } :=
    congrArg r.1.setStatus (if_neg (by rw [even, hl]; exact Bool.false_ne_true))
  obtain ⟨result, carry, balance, stored, flags⟩ := State.bcdLoop_outcome op n false true h (Nat.zero_add _)
  refine ⟨result, carry, balance, fun hs => ?_, fun even => ?_, fun odd => ?_⟩
  · rw [← stored hs]
    exact bcdValue_congr fun j _ _ => (congrArg r.1.readByte (run.same.bcdDest j)).symm
  · rw [computed even]
    obtain ⟨carries, isZero⟩ := flags even
    exact ⟨carries, isZero.trans (and_iff_right rfl)⟩
  · rw [drawn odd]
    exact ⟨rfl, rfl⟩

/-- Settles O42, by what the loop makes of the numbers, and the sum and the difference from its balance. -/
theorem bcdStringsAddAndSubtractNumbers : Obligations.BcdStringsAddAndSubtractNumbers := by
  intro s n h1 h254 hn strings value a b flags
  obtain ⟨stated, digits⟩ := s.bcdDigits_eq (by omega) (by omega)
  rw [hn] at digits
  have operands : s.BcdOperands 0 ((n + 1) / 2) := by
    simp only [forall_and] at strings
    obtain ⟨source, dest, ram, memory, apart⟩ := strings
    exact ⟨by omega, fun j _ => source j, fun j _ => dest j, ram, memory, fun i j hi hj => apart i hi j hj⟩
  have number (u : State) (seg off : Word) :
      value u seg off = bcdValue (fun k => u.readByte (byteAddr seg (off + BitVec.ofNat 16 k) 0)) 0 n :=
    congrArg List.sum (List.map_congr_left fun j _ => by rw [bcdDigit, Nat.zero_add]; rfl)
  have result_flags {t : State} {result : Nat} {carry : Bool} {carries isZero : Prop}
      (even : n % 2 = 0 → t.psw.cy = carry ∧ (t.psw.z = true ↔ result = 0))
      (odd : n % 2 = 1 → t.psw.cy = Config.freeFlag s.draws .cy ∧ t.psw.z = Config.freeFlag s.draws .z)
      (hc : carry = true ↔ carries) (hz : result = 0 ↔ isZero) : flags t carries isZero := by
    refine ⟨fun h => ?_, odd⟩
    obtain ⟨cy, z⟩ := even h
    exact ⟨by rw [cy, hc], z.trans hz⟩
  rw [show a = bcdValue s.destByte 0 n from number s s.ds1 s.iy,
    show b = bcdValue s.sourceByte 0 n from number s s.dataSeg s.ix]
  refine ⟨⟨_, rfl, ?_⟩, ⟨_, rfl, ?_⟩, ⟨_, rfl, ?_⟩⟩
  · obtain ⟨result, carry, balance, stored, even, odd⟩ := s.bcdString_numbers .add digits stated operands
    obtain ⟨sum, carries⟩ := balance.sum
    have stored : value (s.bcdString .add) s.ds1 s.iy = result := (number _ _ _).trans (stored rfl)
    rw [stored]
    exact ⟨sum, result_flags even odd carries .rfl⟩
  · obtain ⟨result, carry, balance, stored, even, odd⟩ := s.bcdString_numbers .sub digits stated operands
    obtain ⟨difference, borrows⟩ := balance.difference (by decide)
    have stored : value (s.bcdString .sub) s.ds1 s.iy = result := (number _ _ _).trans (stored rfl)
    rw [stored]
    exact ⟨difference, result_flags even odd borrows .rfl⟩
  · obtain ⟨result, carry, balance, -, even, odd⟩ := s.bcdString_numbers .cmp digits stated operands
    obtain ⟨-, borrows⟩ := balance.difference (by decide)
    have sourceLt : bcdValue s.sourceByte 0 n < 10 ^ n :=
      bcdValue_lt fun j hj hlast => operands.source j hj (by omega)
    obtain ⟨u, run, -, -, memory, -⟩ := s.bcdString_spec .cmp
    exact ⟨memory.1.trans (run.mem rfl), result_flags even odd borrows (balance.equal_iff sourceLt)⟩

end Sys2Proof.Machine

end

section

/-! Products (43_mul_div_adjust_convert.md R321 to R332): the register pair that holds a product or a dividend, as a
number, and the exact product in it. -/

namespace Sys2Proof.Machine

/-- The register of the upper half of a product or a dividend, and of the remainder: AH or DW. -/
def upperHalf : Width → Reg
  | .byte => .ahSp
  | .word => .dlDw

/-- The word registers that a product, or a quotient and its remainder, take up: AW, or AW and DW. -/
def productWords : Width → List Reg
  | .byte => [.alAw]
  | .word => [.alAw, .dlDw]

/-- Two halves put together, as an unsigned number. -/
theorem append_toNat {n : Nat} (x y : BitVec n) : (x ++ y).toNat = x.toNat * 2 ^ n + y.toNat := by
  rw [BitVec.toNat_append, ← Nat.shiftLeft_add_eq_or_of_lt y.isLt, Nat.shiftLeft_eq]

/-- An operand has a bit. -/
theorem Width.bits_pos (w : Width) : 0 < w.bits := by cases w <;> decide

/-- A dividend as an unsigned number made of its two halves. -/
theorem State.dividend_toNat (s : State) (w : Width) :
    (s.dividend w).toNat = (s.readReg w (upperHalf w)).toNat * 2 ^ w.bits + (s.readReg w .alAw).toNat := by
  cases w with
  | byte => exact (congrArg BitVec.toNat (halves_append s.aw)).symm.trans (append_toNat (highByte s.aw) (lowByte s.aw))
  | word => exact append_toNat s.dw s.aw

/-- A dividend as a signed number made of its two halves. -/
theorem State.dividend_toInt (s : State) (w : Width) :
    (s.dividend w).toInt = 2 ^ w.bits * (s.readReg w (upperHalf w)).toInt + (s.readReg w .alAw).toNat := by
  cases w with
  | byte => exact (congrArg BitVec.toInt (halves_append s.aw)).symm.trans BitVec.toInt_append
  | word => exact BitVec.toInt_append

/-- What writing the two halves of the pair and the status flags leaves. -/
theorem State.setQuotient_spec (s : State) (w : Width) (q r : Val w) (f : Status) :
    let t := (s.setQuotient w q r).setStatus f
    t.readReg w .alAw = q ∧ t.readReg w (upperHalf w) = r ∧ t.psw = s.psw.withStatus f ∧
      SameWordsBut (productWords w) s t ∧ SameMemory s t ∧ SameRest s t := by
  cases w with
  | byte =>
    refine ⟨lowByte_append r q, highByte_append r q, rfl, fun x hx => ?_, .of_fields rfl rfl rfl, rfl⟩
    cases x with
    | alAw => exact absurd hx (by decide)
    | _ => rfl
  | word =>
    refine ⟨rfl, rfl, rfl, fun x hx => ?_, .of_fields rfl rfl rfl, rfl⟩
    cases x with
    | alAw | dlDw => exact absurd hx (by decide)
    | _ => rfl

/-- A word is its low and its high byte, computed as the quotient and remainder by 256 of an integer. -/
theorem ofInt_halves (p : Int) : BitVec.ofInt 16 p = BitVec.ofInt 8 (p / 2 ^ 8) ++ BitVec.ofInt 8 p := by
  apply BitVec.eq_of_toNat_eq
  refine Eq.trans ?_ (append_toNat _ _).symm
  simp only [BitVec.toNat_ofInt]
  omega

/-- MULU writes the two halves of the product. -/
theorem State.mulUnsigned_eq (s : State) (w : Width) (v : Val w) :
    let p := (s.readReg w .alAw).toNat * v.toNat
    s.mulUnsigned w v =
      (s.setQuotient w (BitVec.ofNat _ p) (BitVec.ofNat _ (p / 2 ^ w.bits))).setStatus
        (s.productFlags (decide (2 ^ w.bits ≤ p))) := by
  cases w with
  | byte =>
    intro p
    have halves : BitVec.ofNat 16 p = BitVec.ofNat 8 (p / 2 ^ 8) ++ BitVec.ofNat 8 p := by
      have h := ofInt_halves p
      rw [show (p : Int) / 2 ^ 8 = (p / 2 ^ 8 : Nat) from (Int.natCast_ediv p (2 ^ 8)).symm] at h
      rw [BitVec.ofInt_natCast, BitVec.ofInt_natCast, BitVec.ofInt_natCast] at h
      exact h
    exact congrArg (fun x => { s with aw := x }.setStatus (s.productFlags (decide (2 ^ 8 ≤ p)))) halves
  | word => intro p; rfl

/-- The comparison with the ends of the signed range of `n` bits, as the model makes it. -/
theorem outside_iff_overflows {n : Nat} {low high : Int} (ends : low = -2 ^ (n - 1) ∧ high + 1 = 2 ^ (n - 1)) (p : Int) :
    (decide (p < low) || decide (high < p)) = true ↔ Overflows n p := by
  rw [Bool.or_eq_true, decide_eq_true_iff, decide_eq_true_iff]
  unfold Overflows
  omega

/-- MUL writes the two halves of the product; its CY and V say that the product overflows the lower half. -/
theorem State.mulSigned_eq (s : State) (w : Width) (v : Val w) :
    let p := (s.readReg w .alAw).toInt * v.toInt
    ∃ overflow : Bool, (overflow = true ↔ Overflows w.bits p) ∧
      s.mulSigned w v =
        (s.setQuotient w (BitVec.ofInt _ p) (BitVec.ofInt _ (p / 2 ^ w.bits))).setStatus
          (s.productFlags overflow) := by
  cases w with
  | byte =>
    intro p
    exact ⟨decide (p < -128) || decide (127 < p), outside_iff_overflows (by decide) p, congrArg
      (fun x => { s with aw := x }.setStatus (s.productFlags (decide (p < -128) || decide (127 < p)))) (ofInt_halves p)⟩
  | word =>
    intro p
    exact ⟨decide (p < -32768) || decide (32767 < p), outside_iff_overflows (by decide) p, rfl⟩

/-- The flags of a product: CY and V say that it does not fit, the other four are free. -/
theorem State.productFlags_spec (s t : State) (overflow : Bool) (h : t.psw = s.psw.withStatus (s.productFlags overflow)) :
    t.psw.cy = overflow ∧ t.psw.v = t.psw.cy ∧
      t.psw = { s.psw.withStatus s.drawnStatus with v := t.psw.v, cy := t.psw.cy } := by
  rw [h]
  exact ⟨rfl, rfl, rfl⟩

/-- Reading an integer back from a bit vector gives the integer exactly where it is in the signed range. -/
theorem toInt_ofInt_eq_iff {n : Nat} (hn : 0 < n) (p : Int) : (BitVec.ofInt n p).toInt = p ↔ ¬ Overflows n p := by
  unfold Overflows
  constructor
  · intro h
    have below := (BitVec.ofInt n p).le_toInt
    have above := (BitVec.ofInt n p).toInt_lt
    omega
  · intro h
    exact BitVec.toInt_ofInt_eq_self hn (by omega) (by omega)

/-- What MULU leaves. -/
theorem State.mulUnsigned_spec (s : State) (w : Width) (v : Val w) :
    let t := s.mulUnsigned w v
    (t.dividend w).toNat = (s.readReg w .alAw).toNat * v.toNat ∧
      (t.psw.cy = true ↔ t.readReg w (upperHalf w) ≠ 0) ∧ t.psw.v = t.psw.cy ∧
      t.psw = { s.psw.withStatus s.drawnStatus with v := t.psw.v, cy := t.psw.cy } ∧
      SameWordsBut (productWords w) s t ∧ SameMemory s t ∧ SameRest s t := by
  intro t
  let p := (s.readReg w .alAw).toNat * v.toNat
  obtain ⟨low, high, psw, frame⟩ := s.setQuotient_spec w (BitVec.ofNat _ p) (BitVec.ofNat _ (p / 2 ^ w.bits))
    (s.productFlags (decide (2 ^ w.bits ≤ p)))
  rw [← State.mulUnsigned_eq] at low high psw frame
  obtain ⟨cy, flags⟩ := s.productFlags_spec _ _ psw
  have fits : p / 2 ^ w.bits < 2 ^ w.bits :=
    Nat.div_lt_of_lt_mul (Nat.mul_lt_mul'' (s.readReg w .alAw).isLt v.isLt)
  have upper : (t.readReg w (upperHalf w)).toNat = p / 2 ^ w.bits := by
    rw [high, BitVec.toNat_ofNat, Nat.mod_eq_of_lt fits]
  refine ⟨?_, ?_, flags.1, flags.2, frame⟩
  · rw [State.dividend_toNat, upper, low, BitVec.toNat_ofNat, Nat.div_add_mod']
  · have zero : (0 : Val w).toNat = 0 := BitVec.toNat_zero
    rw [cy, decide_eq_true_iff, ne_eq, BitVec.toNat_eq, upper, zero, Nat.div_eq_zero_iff_lt (Nat.two_pow_pos _), Nat.not_lt]

/-- A signed number of `n` bits is at most `2 ^ (n - 1)` from 0. -/
theorem natAbs_toInt_le {n : Nat} (x : BitVec n) : x.toInt.natAbs ≤ 2 ^ (n - 1) := by
  have below := x.le_toInt
  have above := x.toInt_lt
  have cast : ((2 ^ (n - 1) : Nat) : Int) = 2 ^ (n - 1) := Int.natCast_pow ..
  omega

/-- The upper half of the product of two signed operands is in the signed range of an operand. -/
theorem upperHalf_fits {n : Nat} (hn : n = 8 ∨ n = 16) {p : Int} (h : p.natAbs ≤ 2 ^ (n - 1) * 2 ^ (n - 1)) :
    ¬ Overflows n (p / 2 ^ n) := by
  rcases hn with rfl | rfl
  · unfold Overflows; omega
  · unfold Overflows; omega

/-- What MUL leaves. -/
theorem State.mulSigned_spec (s : State) (w : Width) (v : Val w) :
    let t := s.mulSigned w v
    (t.dividend w).toInt = (s.readReg w .alAw).toInt * v.toInt ∧
      (t.psw.cy = true ↔ t.dividend w ≠ (t.readReg w .alAw).signExtend (2 * w.bits)) ∧ t.psw.v = t.psw.cy ∧
      t.psw = { s.psw.withStatus s.drawnStatus with v := t.psw.v, cy := t.psw.cy } ∧
      SameWordsBut (productWords w) s t ∧ SameMemory s t ∧ SameRest s t := by
  intro t
  let p := (s.readReg w .alAw).toInt * v.toInt
  obtain ⟨overflow, overflows, eq⟩ := s.mulSigned_eq w v
  obtain ⟨low, high, psw, frame⟩ := s.setQuotient_spec w (BitVec.ofInt _ p) (BitVec.ofInt _ (p / 2 ^ w.bits))
    (s.productFlags overflow)
  rw [← eq] at low high psw frame
  obtain ⟨cy, flags⟩ := s.productFlags_spec _ _ psw
  have bound : p.natAbs ≤ 2 ^ (w.bits - 1) * 2 ^ (w.bits - 1) :=
    Nat.le_trans (Nat.le_of_eq (Int.natAbs_mul _ _)) (Nat.mul_le_mul (natAbs_toInt_le _) (natAbs_toInt_le _))
  have fits : ¬ Overflows w.bits (p / 2 ^ w.bits) := upperHalf_fits (width_bits_cases w) bound
  have product : (t.dividend w).toInt = p := by
    rw [State.dividend_toInt, high, low, (toInt_ofInt_eq_iff (Width.bits_pos w) _).2 fits, BitVec.toNat_ofInt]
    rw [Int.natCast_pow, Int.toNat_of_nonneg (Int.emod_nonneg p (Int.ne_of_gt (Int.pow_pos (by decide))))]
    exact Int.mul_ediv_add_emod p _
  refine ⟨product, ?_, flags.1, flags.2, frame⟩
  rw [cy, overflows, ne_eq, ← BitVec.toInt_inj, product, BitVec.toInt_signExtend_of_le (by omega), low,
    eq_comm, toInt_ofInt_eq_iff (Width.bits_pos w), Classical.not_not]

/-- What MUL with an immediate leaves. -/
theorem State.mulImm_spec (s : State) (d : Reg) (a b : Word) :
    let t := s.mulImm d a b
    OperandBecomes s t .word (.reg d) (BitVec.ofInt 16 (a.toInt * b.toInt)) ∧
      (t.psw.cy = true ↔ Overflows 16 (a.toInt * b.toInt)) ∧ t.psw.v = t.psw.cy ∧
      t.psw = { s.psw.withStatus s.drawnStatus with v := t.psw.v, cy := t.psw.cy } ∧ SameRest s t := by
  intro t
  let p := a.toInt * b.toInt
  obtain ⟨becomes, psw, -, rest⟩ := s.writeOperand_setStatus .word (.reg d) (BitVec.ofInt 16 p)
    (s.productFlags (decide (p < -32768) || decide (32767 < p)))
  obtain ⟨cy, flags⟩ := s.productFlags_spec _ _ psw
  refine ⟨becomes, ?_, flags.1, flags.2, rest⟩
  exact (Bool.eq_iff_iff.mp cy).trans (outside_iff_overflows (by decide) p)

/-- Settles O35: each product by the width of its operands, an operand in memory being read first. -/
theorem productsComplete : Obligations.ProductsComplete := by
  have extend (imm : Byte) : (imm.signExtend 16).toInt = imm.toInt := BitVec.toInt_signExtend_of_le (by decide)
  refine ⟨fun s r m => ?_, fun s d q m imm8 imm16 => ?_⟩
  · simp only [List.forall_mem_cons]
    let u (w : Width) : State := s.afterMem w m
    exact
      ⟨⟨⟨_, rfl, s.mulUnsigned_spec .byte _⟩, ⟨_, rfl, (u .byte).mulUnsigned_spec .byte _⟩, List.forall_mem_nil _⟩,
        ⟨⟨_, rfl, s.mulUnsigned_spec .word _⟩, ⟨_, rfl, (u .word).mulUnsigned_spec .word _⟩, List.forall_mem_nil _⟩,
        ⟨⟨_, rfl, s.mulSigned_spec .byte _⟩, ⟨_, rfl, (u .byte).mulSigned_spec .byte _⟩, List.forall_mem_nil _⟩,
        ⟨_, rfl, s.mulSigned_spec .word _⟩, ⟨_, rfl, (u .word).mulSigned_spec .word _⟩, List.forall_mem_nil _⟩
  · simp only [List.forall_mem_cons]
    let u : State := s.afterMem .word m
    rw [← extend imm8]
    exact ⟨⟨_, rfl, s.mulImm_spec d _ _⟩, ⟨_, rfl, u.mulImm_spec d _ _⟩, ⟨_, rfl, s.mulImm_spec d _ _⟩,
      ⟨_, rfl, u.mulImm_spec d _ _⟩, List.forall_mem_nil _⟩

end Sys2Proof.Machine

end

section

/-! Division (43_mul_div_adjust_convert.md R320, R335 to R343): where the quotient fits and what it then is, and the divide
error. -/

namespace Sys2Proof.Machine

/-- DIVU where the quotient fits: the dividend is quotient times divisor plus remainder, and the remainder is smaller than
the divisor. -/
theorem State.divUnsigned_fits (s : State) (w : Width) (v : Val w) (h : (s.dividend w).toNat < 2 ^ w.bits * v.toNat) :
    let t := s.divUnsigned w v
    (s.dividend w).toNat = (t.readReg w .alAw).toNat * v.toNat + (t.readReg w (upperHalf w)).toNat ∧
      (t.readReg w (upperHalf w)).toNat < v.toNat ∧ t.psw = s.psw.withStatus s.drawnStatus ∧
      SameWordsBut (productWords w) s t ∧ SameMemory s t ∧ SameRest s t := by
  intro t
  rcases s.divUnsigned_cases w v with ⟨error, -⟩ | ⟨nonzero, -, divided⟩
  · rcases error with zero | large
    · rw [zero, Nat.mul_zero] at h
      exact absurd h (Nat.not_lt_zero _)
    · exact absurd h (Nat.not_lt.mpr large)
  · have positive : 0 < v.toNat := Nat.pos_of_ne_zero nonzero
    have remainder : (s.dividend w).toNat % v.toNat < v.toNat := Nat.mod_lt _ positive
    have quotient : (s.dividend w).toNat / v.toNat < 2 ^ w.bits := (Nat.div_lt_iff_lt_mul positive).mpr h
    obtain ⟨low, high, psw, frame⟩ := s.setQuotient_spec w (BitVec.ofNat _ ((s.dividend w).toNat / v.toNat))
      (BitVec.ofNat _ ((s.dividend w).toNat % v.toNat)) s.drawnStatus
    rw [← divided] at low high psw frame
    have low : (t.readReg w .alAw).toNat = (s.dividend w).toNat / v.toNat := by
      rw [low, BitVec.toNat_ofNat, Nat.mod_eq_of_lt quotient]
    have high : (t.readReg w (upperHalf w)).toNat = (s.dividend w).toNat % v.toNat := by
      rw [high, BitVec.toNat_ofNat, Nat.mod_eq_of_lt (Nat.lt_trans remainder v.isLt)]
    rw [low, high]
    exact ⟨(Nat.div_add_mod' _ _).symm, remainder, psw, frame⟩

/-- The test of DIV as the sizes of dividend and divisor give it; a divisor of 0 fails it too. -/
theorem divSigned_test (w : Width) (t d : Int) :
    (d = 0 ∨ maxQuotient w < t.tdiv d ∨ t.tdiv d < -maxQuotient w) ↔ 2 ^ (w.bits - 1) * d.natAbs ≤ t.natAbs := by
  by_cases zero : d = 0
  · simp [zero]
  · have outside (q : Int) : (maxQuotient w < q ∨ q < -maxQuotient w) ↔ 2 ^ (w.bits - 1) ≤ q.natAbs := by
      cases w with
      | byte => change (127 < q ∨ q < -127) ↔ 128 ≤ q.natAbs; omega
      | word => change (32767 < q ∨ q < -32767) ↔ 32768 ≤ q.natAbs; omega
    rw [or_iff_right zero, outside, Int.natAbs_tdiv]
    exact Nat.le_div_iff_mul_le (Int.natAbs_pos.mpr zero)

/-- An integer smaller in size than `2 ^ (n - 1)` reads back from `n` bits. -/
theorem toInt_ofInt_of_natAbs_lt {n : Nat} (hn : 0 < n) {x : Int} (h : x.natAbs < 2 ^ (n - 1)) :
    (BitVec.ofInt n x).toInt = x := by
  have cast : ((2 ^ (n - 1) : Nat) : Int) = 2 ^ (n - 1) := Int.natCast_pow ..
  exact (toInt_ofInt_eq_iff hn x).mpr (by unfold Overflows; omega)

/-- DIV where the quotient fits: it is rounded toward zero, and the remainder has the sign of the dividend. -/
theorem State.divSigned_fits (s : State) (w : Width) (v : Val w)
    (h : (s.dividend w).toInt.natAbs < 2 ^ (w.bits - 1) * v.toInt.natAbs) :
    let t := s.divSigned w v
    let r := (t.readReg w (upperHalf w)).toInt
    (s.dividend w).toInt = (t.readReg w .alAw).toInt * v.toInt + r ∧ r.natAbs < v.toInt.natAbs ∧
      (0 ≤ (s.dividend w).toInt → 0 ≤ r) ∧ ((s.dividend w).toInt ≤ 0 → r ≤ 0) ∧
      -(2 ^ (w.bits - 1) - 1) ≤ (t.readReg w .alAw).toInt ∧ t.psw = s.psw.withStatus s.drawnStatus ∧
      SameWordsBut (productWords w) s t ∧ SameMemory s t ∧ SameRest s t := by
  intro t r
  let a := (s.dividend w).toInt
  let d := v.toInt
  have positive : 0 < d.natAbs := Nat.pos_of_mul_pos_left (Nat.zero_lt_of_lt h)
  have quotient : (a.tdiv d).natAbs < 2 ^ (w.bits - 1) := by
    rw [Int.natAbs_tdiv]
    exact (Nat.div_lt_iff_lt_mul positive).mpr h
  have remainder : (a.tmod d).natAbs < d.natAbs := by
    rw [Int.natAbs_tmod]
    exact Nat.mod_lt _ positive
  have divided : t = (s.setQuotient w (BitVec.ofInt _ (a.tdiv d)) (BitVec.ofInt _ (a.tmod d))).setStatus s.drawnStatus :=
    if_neg fun fails => Nat.not_le.mpr h ((divSigned_test w a d).mp fails)
  obtain ⟨low, high, psw, frame⟩ :=
    s.setQuotient_spec w (BitVec.ofInt _ (a.tdiv d)) (BitVec.ofInt _ (a.tmod d)) s.drawnStatus
  rw [← divided] at low high psw frame
  have low : (t.readReg w .alAw).toInt = a.tdiv d := by rw [low, toInt_ofInt_of_natAbs_lt (Width.bits_pos w) quotient]
  have high : r = a.tmod d := by
    rw [show r = _ from congrArg BitVec.toInt high,
      toInt_ofInt_of_natAbs_lt (Width.bits_pos w) (Nat.lt_of_lt_of_le remainder (natAbs_toInt_le v))]
  rw [low, high]
  refine ⟨(Int.tdiv_mul_add_tmod a d).symm, remainder, Int.tmod_nonneg d, fun nonpositive => ?_, ?_, psw, frame⟩
  · have := Int.tmod_nonneg d (Int.neg_nonneg.mpr nonpositive)
    rw [Int.neg_tmod] at this
    exact Int.neg_nonneg.mp this
  · have cast : ((2 ^ (w.bits - 1) : Nat) : Int) = 2 ^ (w.bits - 1) := Int.natCast_pow ..
    omega

/-- A divide error from `s`: the entry into vector 0 from a state in which only the quotient, the remainder and the status
flags differ, the flags being free. -/
def EntersDivideError (w : Width) (s t : State) : Prop :=
  ∃ u : State, SameWordsBut (productWords w) s u ∧ SameMemory s u ∧ u.psw = s.psw.withStatus s.drawnStatus ∧
    SameRest s u ∧ Enters u t 0 s.pc

/-- What the divide error leaves. -/
theorem State.divideError_spec (s : State) (w : Width) : EntersDivideError w s (s.divideError w) := by
  obtain ⟨q, r, error⟩ := s.divideError_eq w
  obtain ⟨-, -, psw, words, memory, rest⟩ := s.setQuotient_spec w q r s.drawnStatus
  rw [error]
  exact ⟨_, words, memory, psw, rest, State.enterInterrupt_enters _ 0 s.pc⟩

/-- DIVU where the divisor is 0 or the quotient does not fit. -/
theorem State.divUnsigned_error (s : State) (w : Width) (v : Val w)
    (h : v = 0 ∨ 2 ^ w.bits * v.toNat ≤ (s.dividend w).toNat) : EntersDivideError w s (s.divUnsigned w v) := by
  rcases s.divUnsigned_cases w v with ⟨-, error⟩ | ⟨nonzero, fits, -⟩
  · rw [error]
    exact s.divideError_spec w
  · rcases h with zero | large
    · exact absurd ((congrArg BitVec.toNat zero).trans BitVec.toNat_zero) nonzero
    · exact absurd large (Nat.not_le.mpr fits)

/-- DIV where the divisor is 0 or the quotient does not fit. -/
theorem State.divSigned_error (s : State) (w : Width) (v : Val w)
    (h : v = 0 ∨ 2 ^ (w.bits - 1) * v.toInt.natAbs ≤ (s.dividend w).toInt.natAbs) :
    EntersDivideError w s (s.divSigned w v) := by
  have error : s.divSigned w v = s.divideError w := by
    rcases h with zero | large
    · exact if_pos (.inl ((congrArg BitVec.toInt zero).trans BitVec.toInt_zero))
    · exact if_pos ((divSigned_test w _ _).mpr large)
  rw [error]
  exact s.divideError_spec w

/-- Settles O36: each division by the width of its operands, an operand in memory being read first. -/
theorem divisionsComplete : Obligations.DivisionsComplete := by
  intro s r m
  let u (w : Width) : State := s.afterMem w m
  simp only [List.forall_mem_cons]
  exact
    ⟨⟨fun h => ⟨_, rfl, s.divUnsigned_fits .byte _ h⟩, fun h => ⟨_, rfl, (u .byte).divUnsigned_fits .byte _ h⟩,
        List.forall_mem_nil _⟩,
      ⟨fun h => ⟨_, rfl, s.divUnsigned_fits .word _ h⟩, fun h => ⟨_, rfl, (u .word).divUnsigned_fits .word _ h⟩,
        List.forall_mem_nil _⟩,
      ⟨fun h => ⟨_, rfl, s.divSigned_fits .byte _ h⟩, fun h => ⟨_, rfl, (u .byte).divSigned_fits .byte _ h⟩,
        List.forall_mem_nil _⟩,
      fun h => ⟨_, rfl, s.divSigned_fits .word _ h⟩, fun h => ⟨_, rfl, (u .word).divSigned_fits .word _ h⟩,
      List.forall_mem_nil _⟩

/-- Settles O37: each division that fails, by the width of its operands, an operand in memory being read first. -/
theorem divideErrorsEnterVectorZero : Obligations.DivideErrorsEnterVectorZero := by
  intro s r m enters
  let u (w : Width) : State := s.afterMem w m
  simp only [List.forall_mem_cons]
  exact
    ⟨⟨fun h => ⟨_, rfl, s.divUnsigned_error .byte _ h⟩, fun h => ⟨_, rfl, (u .byte).divUnsigned_error .byte _ h⟩,
        List.forall_mem_nil _⟩,
      ⟨fun h => ⟨_, rfl, s.divUnsigned_error .word _ h⟩, fun h => ⟨_, rfl, (u .word).divUnsigned_error .word _ h⟩,
        List.forall_mem_nil _⟩,
      ⟨fun h => ⟨_, rfl, s.divSigned_error .byte _ h⟩, fun h => ⟨_, rfl, (u .byte).divSigned_error .byte _ h⟩,
        List.forall_mem_nil _⟩,
      fun h => ⟨_, rfl, s.divSigned_error .word _ h⟩, fun h => ⟨_, rfl, (u .word).divSigned_error .word _ h⟩,
      List.forall_mem_nil _⟩

end Sys2Proof.Machine

end

section

/-! The decimal conversions and the adjust instructions (43_mul_div_adjust_convert.md R350 to R353, R360, R361): unpacked
digits in AL and AH, then the packed sum and difference of two digits. -/

namespace Sys2Proof.Machine

/-- What a conversion leaves: AL, AH, and S, Z and P of AL. -/
theorem State.convert_spec (s : State) (al ah : Byte) :
    let t := (s.setQuotient .byte al ah).setStatus (s.convertFlags al)
    t.readReg8 .alAw = al ∧ t.readReg8 .ahSp = ah ∧ ResultFlags t.psw (t.readReg8 .alAw) ∧
      t.psw = { s.psw.withStatus s.drawnStatus with s := t.psw.s, z := t.psw.z, p := t.psw.p } ∧
      SameWordsBut [.alAw] s t ∧ SameMemory s t ∧ SameRest s t := by
  intro t
  obtain ⟨low, high, -, frame⟩ := s.setQuotient_spec .byte al ah (s.convertFlags al)
  have low : t.readReg8 .alAw = al := low
  refine ⟨low, high, ?_, rfl, frame⟩
  rw [low]
  exact resultFlags_of _ _ rfl rfl rfl

/-- What CVTBD leaves: the two digits of a byte as far as they go, the tens being up to 25. -/
theorem State.binaryToDecimal_spec (s : State) :
    let t := s.binaryToDecimal
    10 * (t.readReg8 .ahSp).toNat + (t.readReg8 .alAw).toNat = (s.readReg8 .alAw).toNat ∧
      (t.readReg8 .alAw).toNat < 10 ∧ ResultFlags t.psw (t.readReg8 .alAw) ∧
      t.psw = { s.psw.withStatus s.drawnStatus with s := t.psw.s, z := t.psw.z, p := t.psw.p } ∧
      SameWordsBut [.alAw] s t ∧ SameMemory s t ∧ SameRest s t := by
  intro t
  let n := (s.readReg8 .alAw).toNat
  have bound : n < 2 ^ 8 := (s.readReg8 .alAw).isLt
  obtain ⟨low, high, flags⟩ := s.convert_spec (BitVec.ofNat 8 (n % 10)) (BitVec.ofNat 8 (n / 10))
  have low : (t.readReg8 .alAw).toNat = n % 10 :=
    (congrArg BitVec.toNat low).trans ((BitVec.toNat_ofNat _ _).trans (Nat.mod_eq_of_lt (by omega)))
  have high : (t.readReg8 .ahSp).toNat = n / 10 :=
    (congrArg BitVec.toNat high).trans ((BitVec.toNat_ofNat _ _).trans (Nat.mod_eq_of_lt (by omega)))
  exact ⟨by rw [low, high, Nat.div_add_mod], by omega, flags⟩

/-- What CVTDB leaves: the number of two digits in AL, and 0 in AH. -/
theorem State.decimalToBinary_spec (s : State) :
    let t := s.decimalToBinary
    t.aw.toNat = (10 * (s.readReg8 .ahSp).toNat + (s.readReg8 .alAw).toNat) % 256 ∧
      ResultFlags t.psw (t.readReg8 .alAw) ∧
      t.psw = { s.psw.withStatus s.drawnStatus with s := t.psw.s, z := t.psw.z, p := t.psw.p } ∧
      SameWordsBut [.alAw] s t ∧ SameMemory s t ∧ SameRest s t := by
  intro t
  let n := (s.readReg8 .ahSp).toNat * 10 + (s.readReg8 .alAw).toNat
  obtain ⟨-, -, flags⟩ := s.convert_spec (BitVec.ofNat 8 n) 0
  have word : t.aw.toNat = n % 256 := (append_toNat (0 : Byte) (BitVec.ofNat 8 n)).trans (by simp)
  exact ⟨by rw [word, Nat.mul_comm], flags⟩

/-- A byte with a step added under a condition, as a number modulo 256. -/
theorem toNat_ite_add {b : Bool} {p : Prop} [Decidable p] (h : b = true ↔ p) (x : Byte) {step : Byte} {k : Nat}
    (hk : step.toNat = k) : (if b then x + step else x).toNat = (if p then x.toNat + k else x.toNat) % 256 := by
  subst hk
  by_cases hp : p
  · rw [if_pos (h.mpr hp), if_pos hp]
    exact BitVec.toNat_add x step
  · rw [if_neg fun hb => hp (h.mp hb), if_neg hp]
    exact (Nat.mod_eq_of_lt x.isLt).symm

/-- A byte with a step subtracted under a condition, as a number modulo 256. -/
theorem toNat_ite_sub {b : Bool} {p : Prop} [Decidable p] (h : b = true ↔ p) (x : Byte) {step : Byte} {k : Nat}
    (hk : (-step).toNat = k) : (if b then x - step else x).toNat = (if p then x.toNat + k else x.toNat) % 256 := by
  rw [BitVec.sub_eq_add_neg]
  exact toNat_ite_add h x hk

/-- What ADJBA and ADJBS leave, by the two steps they add to AL and AH. -/
theorem State.adjustUnpacked_spec (s : State) (lowStep highStep : Byte) :
    let t := s.adjustUnpacked lowStep highStep
    let al := (s.readReg8 .alAw).toNat
    let ah := (s.readReg8 .ahSp).toNat
    (t.readReg8 .alAw).toNat = (if s.lowDigitAdjust then al + lowStep.toNat else al) % 16 ∧
      (t.readReg8 .ahSp).toNat = (if s.lowDigitAdjust then ah + highStep.toNat else ah) % 256 ∧
      t.psw = { s.psw.withStatus s.drawnStatus with ac := s.lowDigitAdjust, cy := s.lowDigitAdjust } ∧
      SameWordsBut [.alAw] s t ∧ SameMemory s t ∧ SameRest s t := by
  intro t al ah
  let low : Byte := (if s.lowDigitAdjust then s.readReg8 .alAw + lowStep else s.readReg8 .alAw) &&& 0x0F
  let high : Byte := if s.lowDigitAdjust then s.readReg8 .ahSp + highStep else s.readReg8 .ahSp
  obtain ⟨readLow, readHigh, psw, frame⟩ := s.setQuotient_spec .byte low high
    { s.drawnStatus with ac := s.lowDigitAdjust, cy := s.lowDigitAdjust }
  have digit (x : Byte) : (x &&& 0x0F).toNat = x.toNat % 16 := by
    rw [BitVec.toNat_and]
    exact Nat.and_two_pow_sub_one_eq_mod _ 4
  refine ⟨?_, (congrArg BitVec.toNat readHigh).trans (toNat_ite_add .rfl _ rfl), psw, frame⟩
  calc BitVec.toNat _ = low.toNat := congrArg BitVec.toNat readLow
    _ = (if s.lowDigitAdjust then al + lowStep.toNat else al) % 256 % 16 :=
        (digit _).trans (congrArg (· % 16) (toNat_ite_add .rfl _ rfl))
    _ = _ := Nat.mod_mod_of_dvd _ (by decide)

/-- Settles O38: the digits of each conversion, and the two steps of each adjustment as numbers modulo 256. -/
theorem decimalConversionsAndUnpackedAdjustsComplete : Obligations.DecimalConversionsAndUnpackedAdjustsComplete := by
  refine ⟨fun s => ⟨⟨_, rfl, s.binaryToDecimal_spec⟩, ⟨_, rfl, s.decimalToBinary_spec⟩⟩, fun s => ?_⟩
  intro al ah adjust
  obtain ⟨low, high, frame⟩ := s.adjustUnpacked_spec (-6) (-1)
  refine ⟨⟨_, rfl, s.adjustUnpacked_spec 6 1⟩, ⟨_, rfl, ?_, ?_, frame⟩⟩
  · rw [Nat.add_sub_assoc (by decide : 6 ≤ 256)]
    exact low
  · rw [Nat.add_sub_assoc (by decide : 1 ≤ 256)]
    exact high

/-- What ADJ4A and ADJ4S leave, whatever they compute for AL and CY. -/
theorem State.adjustPacked_spec (s : State) (al : Byte) (carry : Bool) :
    let t := (s.writeReg8 .alAw al).setStatus
      { v := s.drawnFlag .v, s := al.msb, z := al == 0, ac := s.lowDigitAdjust, p := evenParity al, cy := carry }
    t.readReg8 .alAw = al ∧ t.psw.cy = carry ∧
      ResultFlags t.psw (t.readReg8 .alAw) ∧ t.psw.v = Config.freeFlag s.draws .v ∧
      (t.psw.ac = true ↔ 9 < (s.readReg8 .alAw).toNat % 16 ∨ s.psw.ac = true) ∧
      SameControlFlags s.psw t.psw ∧ SameRegistersBut .byte .alAw s t ∧ SameMemory s t ∧ SameRest s t := by
  intro t
  obtain ⟨⟨read, others, memory⟩, -, control, rest⟩ := s.writeOperand_setStatus .byte (.reg .alAw) al
    { v := s.drawnFlag .v, s := al.msb, z := al == 0, ac := s.lowDigitAdjust, p := evenParity al, cy := carry }
  have read : t.readReg8 .alAw = al := read
  refine ⟨read, rfl, ?_, rfl, ?_, control, others, memory, rest⟩
  · rw [read]
    exact resultFlags_of _ _ rfl rfl rfl
  · exact (Bool.or_eq_true _ _).to_iff.trans (or_congr_left decide_eq_true_iff)

/-- The two last decimal digits of `10 * t + o` as a packed byte. -/
theorem packedDigits_eq {t o : Nat} (ho : o ≤ 9) :
    (10 * t + o) % 100 / 10 * 16 + (10 * t + o) % 10 = t % 10 * 16 + o := by
  omega

/-- ADJ4A after the addition of the digits `x1 x0` and `y1 y0` with the incoming carry `c`. The first step turns the sum into
`16 * t + o` where the decimal total is `10 * t + o`; the second takes away ten from `t` where it is no digit. -/
theorem State.adjustPackedAdd_decimal {s : State} {x1 x0 y1 y0 c total : Nat} (hx1 : x1 ≤ 9) (hx0 : x0 ≤ 9)
    (hy1 : y1 ≤ 9) (hy0 : y0 ≤ 9) (hc : c ≤ 1) (htotal : total = 10 * x1 + x0 + (10 * y1 + y0) + c)
    (sum : (s.readReg8 .alAw).toNat = (x1 * 16 + x0 + (y1 * 16 + y0) + c) % 256)
    (carry : s.psw.cy = true ↔ 256 ≤ x1 * 16 + x0 + (y1 * 16 + y0) + c)
    (lowCarry : s.psw.ac = true ↔ 16 ≤ x0 + y0 + c) :
    (s.adjustPackedAdd.readReg8 .alAw).toNat = total % 100 / 10 * 16 + total % 10 ∧
      (s.adjustPackedAdd.psw.cy = true ↔ 100 ≤ total) := by
  let al := s.readReg8 .alAw
  have sum : al.toNat = _ := sum
  let low := s.lowDigitAdjust
  let al1 : Byte := if low then al + 6 else al
  let cy1 : Bool := s.psw.cy || (low && decide (256 ≤ al.toNat + 6))
  let high : Bool := decide (0x9F < al1.toNat) || cy1
  let al2 : Byte := if high then al1 + 0x60 else al1
  obtain ⟨read, cy, -⟩ := s.adjustPacked_spec al2 high
  have low_iff : low = true ↔ 10 ≤ x0 + y0 + c := by
    refine (Bool.or_eq_true _ _).to_iff.trans ?_
    rw [decide_eq_true_iff, lowCarry]
    omega
  obtain ⟨t, o, ht, ho, rfl, al1_eq, cy1_iff⟩ : ∃ t o, t ≤ 19 ∧ o ≤ 9 ∧ total = 10 * t + o ∧
      al1.toNat = (16 * t + o) % 256 ∧ (cy1 = true ↔ 16 ≤ t) := by
    rw [Bool.or_eq_true, Bool.and_eq_true, decide_eq_true_iff, carry, low_iff,
      show al1.toNat = _ from toNat_ite_add low_iff al (step := 6) (k := 6) rfl, sum]
    by_cases h : 10 ≤ x0 + y0 + c
    · refine ⟨x1 + y1 + 1, x0 + y0 + c - 10, ?_⟩
      rw [if_pos h]
      omega
    · refine ⟨x1 + y1, x0 + y0 + c, ?_⟩
      rw [if_neg h]
      omega
  have high_iff : high = true ↔ 10 ≤ t := by
    rw [Bool.or_eq_true, decide_eq_true_iff, al1_eq, cy1_iff]
    omega
  have al2_eq : al2.toNat = t % 10 * 16 + o := by
    refine (toNat_ite_add high_iff al1 (step := 0x60) (k := 0x60) rfl).trans ?_
    rw [al1_eq]
    split <;> omega
  rw [packedDigits_eq ho]
  exact ⟨(congrArg BitVec.toNat read).trans al2_eq, (Bool.eq_iff_iff.mp cy).trans (high_iff.trans (by omega))⟩

/-- ADJ4S after the subtraction of the digits `y1 y0` and the incoming borrow `c` from `x1 x0`. The first step turns the
difference into `16 * t + o` less 160 where the decimal difference is `10 * t + o` less 100; the second adds ten to `t` where
that is negative. -/
theorem State.adjustPackedSub_decimal {s : State} {x1 x0 y1 y0 c total : Nat} (hx1 : x1 ≤ 9) (hx0 : x0 ≤ 9)
    (hy1 : y1 ≤ 9) (hy0 : y0 ≤ 9) (hc : c ≤ 1) (htotal : total + (10 * y1 + y0) + c = 100 + (10 * x1 + x0))
    (difference : ((s.readReg8 .alAw).toNat + (y1 * 16 + y0) + c) % 256 = x1 * 16 + x0)
    (borrow : s.psw.cy = true ↔ x1 * 16 + x0 < y1 * 16 + y0 + c) (lowBorrow : s.psw.ac = true ↔ x0 < y0 + c) :
    (s.adjustPackedSub.readReg8 .alAw).toNat = total % 100 / 10 * 16 + total % 10 ∧
      (s.adjustPackedSub.psw.cy = true ↔ total < 100) := by
  let al := s.readReg8 .alAw
  have alLt : al.toNat < 256 := al.isLt
  have difference : (al.toNat + (y1 * 16 + y0) + c) % 256 = x1 * 16 + x0 := difference
  let low := s.lowDigitAdjust
  let al1 : Byte := if low then al - 6 else al
  let cy1 : Bool := s.psw.cy || (low && decide (al.toNat < 6))
  let high : Bool := decide (0x9F < al1.toNat) || cy1
  let al2 : Byte := if high then al1 - 0x60 else al1
  obtain ⟨read, cy, -⟩ := s.adjustPacked_spec al2 high
  have low_iff : low = true ↔ x0 < y0 + c := by
    refine (Bool.or_eq_true _ _).to_iff.trans ?_
    rw [decide_eq_true_iff, lowBorrow]
    omega
  obtain ⟨t, o, ht, ho, rfl, al1_eq, cy1_iff⟩ : ∃ t o, t ≤ 19 ∧ o ≤ 9 ∧ total = 10 * t + o ∧
      al1.toNat = (16 * t + o + 96) % 256 ∧ (cy1 = true ↔ t < 10) := by
    rw [Bool.or_eq_true, Bool.and_eq_true, decide_eq_true_iff, borrow, low_iff,
      show al1.toNat = _ from toNat_ite_sub low_iff al (step := 6) (k := 250) rfl]
    by_cases h : x0 < y0 + c
    · refine ⟨9 + x1 - y1, 10 + x0 - y0 - c, ?_⟩
      rw [if_pos h]
      omega
    · refine ⟨10 + x1 - y1, x0 - y0 - c, ?_⟩
      rw [if_neg h]
      omega
  have high_iff : high = true ↔ t < 10 := by
    rw [Bool.or_eq_true, decide_eq_true_iff, al1_eq, cy1_iff]
    omega
  have al2_eq : al2.toNat = t % 10 * 16 + o := by
    refine (toNat_ite_sub high_iff al1 (step := 0x60) (k := 160) rfl).trans ?_
    rw [al1_eq]
    split <;> omega
  rw [packedDigits_eq ho]
  exact ⟨(congrArg BitVec.toNat read).trans al2_eq, (Bool.eq_iff_iff.mp cy).trans (high_iff.trans (by omega))⟩

/-- A difference of bytes plus what was taken away is the first byte again, modulo 256. -/
theorem toNat_sub_sub_add (a b : Byte) (c : Bool) :
    ((a - b - BitVec.ofNat 8 c.toNat).toNat + b.toNat + c.toNat) % 256 = a.toNat := by
  have digit : c.toNat ≤ 1 := c.toNat_le
  have ha : a.toNat < 256 := a.isLt
  have hb : b.toNat < 256 := b.isLt
  rw [BitVec.toNat_sub, BitVec.toNat_sub, BitVec.toNat_ofNat]
  omega

/-- Settles O39: what both instructions leave on every AL, then the two decimal steps after ADDC and SUBC. -/
theorem packedAdjustsCorrectDecimalResults : Obligations.PackedAdjustsCorrectDecimalResults := by
  refine ⟨fun s => ?_, fun s u t imm x y hx hy al immediate => ?_⟩
  · simp only [List.forall_mem_cons]
    obtain ⟨-, -, added⟩ := s.adjustPacked_spec _ _
    obtain ⟨-, -, subtracted⟩ := s.adjustPacked_spec _ _
    exact ⟨⟨_, rfl, added⟩, ⟨_, rfl, subtracted⟩, List.forall_mem_nil _⟩
  · have high {n : Nat} (h : n < 100) : n / 10 ≤ 9 := by omega
    have low (n : Nat) : n % 10 ≤ 9 := by omega
    have carryLe : s.psw.cy.toNat ≤ 1 := s.psw.cy.toNat_le
    have operand : (s.readOperand .byte (.reg .alAw)).toNat = x / 10 * 16 + x % 10 := al
    have source : (imm.setWidth 8).toNat = y / 10 * 16 + y % 10 := by
      rw [BitVec.toNat_setWidth, immediate]
      omega
    refine ⟨fun run adjust => ?_, fun run adjust => ?_⟩
    · obtain ⟨⟨sum, -⟩, ⟨cy, ac, -⟩, -⟩ := s.addWith_spec .byte (.reg .alAw) (imm.setWidth 8) s.psw.cy
      obtain rfl : s.addWith .byte (.reg .alAw) (imm.setWidth 8) s.psw.cy = u := Host.Outcome.next.inj run
      obtain rfl := Host.Outcome.next.inj adjust
      rw [operand, source] at sum cy ac
      exact State.adjustPackedAdd_decimal (high hx) (low x) (high hy) (low y) carryLe (by omega)
        ((congrArg BitVec.toNat sum).trans (BitVec.toNat_ofNat _ _)) cy (ac.trans (by omega))
    · obtain ⟨⟨difference, -⟩, ⟨cy, ac, -⟩, -⟩ := s.subWith_spec .byte (.reg .alAw) (imm.setWidth 8) s.psw.cy
      obtain rfl : s.subWith .byte (.reg .alAw) (imm.setWidth 8) s.psw.cy = u := Host.Outcome.next.inj run
      obtain rfl := Host.Outcome.next.inj adjust
      have restored := (congrArg (fun r : Byte => (r.toNat + _ + _) % 256) difference).trans (toNat_sub_sub_add ..)
      rw [operand, source] at restored cy ac
      have decimal := State.adjustPackedSub_decimal (total := 100 + x - y - s.psw.cy.toNat) (high hx) (low x) (high hy)
        (low y) carryLe (by omega) restored cy (ac.trans (by omega))
      exact decimal.imp_right (Iff.trans · (by omega))

end Sys2Proof.Machine

end

section

/-! Comparison, complement, negation and the bit instructions (44_compare_logic_bit.md R381 to R390, R420 to R464): what
setting the flags after a read leaves, then each instruction by its operation on the operand. -/

namespace Sys2Proof.Machine

/-- Reading an operand shows on the bus only. -/
theorem State.afterOperand_sameButMemory (s : State) (w : Width) (o : Operand) : SameButMemory s (s.afterOperand w o) := by
  cases o <;> rfl

/-- The status flags set after a read: the registers, the control flags and the rest are those before the read. -/
theorem State.setStatus_afterRead {s u : State} (h : SameButMemory s u) (f : Status) :
    SameControlFlags s.psw (u.setStatus f).psw ∧ SameRegisters s (u.setStatus f) ∧ SameMemory u (u.setStatus f) ∧
      SameRest s (u.setStatus f) := by
  obtain ⟨control, registers, memory, rest⟩ := u.setStatus_frame f
  rw [h.psw] at control
  exact ⟨control, h.registers.trans registers, memory, h.rest.trans rest⟩

/-- An instruction that sets the flags of a difference, after reads that only the bus shows, compares. -/
theorem Compares.of_setStatus {i : Instr} {s u : State} {w : Width} {a b : Val w}
    (hx : exec i s = .next (u.setStatus (subFlags a b false))) (h : SameButMemory s u) : Compares i s u w a b := by
  obtain ⟨borrows, result⟩ := u.setSubFlags_spec w a b
  exact ⟨_, hx, borrows, result, State.setStatus_afterRead h _⟩

/-- Settles O26: each form sets the flags of the difference of its operands, and only the bus shows what it read. -/
theorem comparisonsComplete : Obligations.ComparisonsComplete := by
  intro s w z d q m imm
  have ofRegister {i : Instr} {w : Width} {a b : Val w} (hx : exec i s = .next (s.setStatus (subFlags a b false))) :
      Compares i s s w a b := .of_setStatus hx (.refl s)
  have ofMemory {i : Instr} {w : Width} {a b : Val w}
      (hx : exec i s = .next ((s.afterMem w m).setStatus (subFlags a b false))) :
      Compares i s (s.afterMem w m) w a b := .of_setStatus hx (s.afterOperand_sameButMemory w (.mem m))
  exact ⟨ofRegister rfl, ofRegister rfl, ofMemory rfl, ofMemory rfl, ofRegister rfl, ofMemory rfl, ofRegister rfl⟩

/-- NEG: the operand becomes its negative, with the flags of the difference `0 - x`. -/
theorem State.negAt_spec (s : State) (w : Width) (o : Operand) :
    let t := s.negAt w o
    OperandBecomes (s.afterOperand w o) t w o (-s.readOperand w o) ∧
      DifferenceBorrows t.psw (0 : Val w) (s.readOperand w o) false ∧ ResultFlags t.psw (-s.readOperand w o) ∧
      SameControlFlags s.psw t.psw ∧ SameRest s t := by
  intro t
  have negative : subValue 0 (s.readOperand w o) false = -s.readOperand w o := by
    rw [subValue_eq (width_bits_cases w), Bool.toNat_false, BitVec.sub_zero]
    exact BitVec.zero_sub _
  obtain ⟨becomes, psw, control, rest⟩ := s.writeOperand_setStatus w o (subValue 0 (s.readOperand w o) false)
    (subFlags 0 (s.readOperand w o) false)
  rw [← negative]
  exact ⟨becomes,
    subFlags_borrows (width_bits_cases w) (congrArg Psw.cy psw) (congrArg Psw.ac psw) (congrArg Psw.v psw),
    resultFlags_of _ _ (congrArg Psw.s psw) (congrArg Psw.z psw) (congrArg Psw.p psw), control, rest⟩

/-- Settles O28: NOT is a move of the complement, and NEG what `negAt` leaves. -/
theorem complementAndNegateComplete : Obligations.ComplementAndNegateComplete := by
  intro s w r m
  simp only [List.forall_mem_cons]
  exact ⟨.of_writeOperand rfl rfl (.refl s), .of_writeOperand rfl rfl (s.afterOperand_rest w (.mem m)),
    ⟨_, rfl, s.negAt_spec w (.reg r)⟩, ⟨_, rfl, s.negAt_spec w (.mem m)⟩, List.forall_mem_nil _⟩

/-- The mask of the bit instructions has the one bit that they name. -/
theorem getLsbD_bitMask (w : Width) (n : Byte) {k : Nat} (hk : k < w.bits) :
    (bitMask w n).getLsbD k = decide (k = bitNumber w n) := by
  rw [bitMask, BitVec.getLsbD_ofNat, Nat.testBit_two_pow, decide_eq_true hk, Bool.true_and, decide_eq_decide]
  exact eq_comm

/-- The operand takes `f` of its bit `n` in that place and keeps its other bits; no flag and nothing else changes. -/
def ChangesBit (i : Instr) (s : State) (w : Width) (o : Operand) (n : Byte) (f : Bool → Bool) : Prop :=
  ∃ v : Val w, MovesInto i s (s.afterOperand w o) w o v ∧
    ∀ k, k < w.bits → v.getLsbD k =
      if k = n.toNat % w.bits then f ((s.readOperand w o).getLsbD k) else (s.readOperand w o).getLsbD k

/-- An instruction that writes back the operand it read, with one bit changed. -/
theorem ChangesBit.of_writeOperand {i : Instr} {s : State} {w : Width} {o : Operand} {n : Byte} {f : Bool → Bool}
    {v : Val w} (hx : exec i s = .next ((s.afterOperand w o).writeOperand w o v))
    (hv : ∀ k, k < w.bits → v.getLsbD k =
      if k = bitNumber w n then f ((s.readOperand w o).getLsbD k) else (s.readOperand w o).getLsbD k) :
    ChangesBit i s w o n f :=
  ⟨v, .of_writeOperand hx (s.afterOperand_sameButMemory w o).psw (s.afterOperand_rest w o), hv⟩

/-- NOT1 inverts one bit. -/
theorem ChangesBit.of_notBit {i : Instr} {s : State} {w : Width} {o : Operand} {n : Byte}
    (hx : exec i s = .next (s.notBit w o n)) : ChangesBit i s w o n (!·) := by
  refine .of_writeOperand hx fun k hk => ?_
  rw [BitVec.getLsbD_xor, getLsbD_bitMask w n hk]
  split <;> simp [*]

/-- CLR1 clears one bit. -/
theorem ChangesBit.of_clearBit {i : Instr} {s : State} {w : Width} {o : Operand} {n : Byte}
    (hx : exec i s = .next (s.clearBit w o n)) : ChangesBit i s w o n fun _ => false := by
  refine .of_writeOperand hx fun k hk => ?_
  rw [BitVec.getLsbD_and, BitVec.getLsbD_not, getLsbD_bitMask w n hk, decide_eq_true hk]
  split <;> simp [*]

/-- SET1 sets one bit. -/
theorem ChangesBit.of_setBit {i : Instr} {s : State} {w : Width} {o : Operand} {n : Byte}
    (hx : exec i s = .next (s.setBit w o n)) : ChangesBit i s w o n fun _ => true := by
  refine .of_writeOperand hx fun k hk => ?_
  rw [BitVec.getLsbD_or, getLsbD_bitMask w n hk]
  split <;> simp [*]

/-- TEST1: the flags by one bit of the operand (R420), and nothing else. -/
theorem State.testBit_spec (s : State) (w : Width) (o : Operand) (n : Byte) :
    let t := s.testBit w o n
    t.psw.z = !(s.readOperand w o).getLsbD (n.toNat % w.bits) ∧ t.psw.v = false ∧ t.psw.cy = false ∧
      t.psw.s = Config.freeFlag s.draws .s ∧ t.psw.ac = Config.freeFlag s.draws .ac ∧
      t.psw.p = Config.freeFlag s.draws .p ∧
      SameControlFlags s.psw t.psw ∧ SameRegisters s t ∧ SameMemory (s.afterOperand w o) t ∧ SameRest s t :=
  ⟨rfl, rfl, rfl, rfl, rfl, rfl, State.setStatus_afterRead (s.afterOperand_sameButMemory w o) _⟩

/-- Settles O30: the eight forms of each bit instruction, by what its operation leaves of any operand. -/
theorem bitInstructionsComplete : Obligations.BitInstructionsComplete := by
  intro s r m imm
  have not1 {i w o n} := @ChangesBit.of_notBit i s w o n
  have clr1 {i w o n} := @ChangesBit.of_clearBit i s w o n
  have set1 {i w o n} := @ChangesBit.of_setBit i s w o n
  simp only [List.forall_mem_cons]
  exact ⟨⟨⟨_, rfl, s.testBit_spec ..⟩, ⟨_, rfl, s.testBit_spec ..⟩, ⟨_, rfl, s.testBit_spec ..⟩,
      ⟨_, rfl, s.testBit_spec ..⟩, ⟨_, rfl, s.testBit_spec ..⟩, ⟨_, rfl, s.testBit_spec ..⟩,
      ⟨_, rfl, s.testBit_spec ..⟩, ⟨_, rfl, s.testBit_spec ..⟩, List.forall_mem_nil _⟩,
    ⟨not1 rfl, not1 rfl, not1 rfl, not1 rfl, not1 rfl, not1 rfl, not1 rfl, not1 rfl, List.forall_mem_nil _⟩,
    ⟨clr1 rfl, clr1 rfl, clr1 rfl, clr1 rfl, clr1 rfl, clr1 rfl, clr1 rfl, clr1 rfl, List.forall_mem_nil _⟩,
    ⟨set1 rfl, set1 rfl, set1 rfl, set1 rfl, set1 rfl, set1 rfl, set1 rfl, set1 rfl, List.forall_mem_nil _⟩⟩

/-- Settles O31: the CY forms set CY and draw the other five flags, the DIR forms set DIR alone. -/
theorem carryAndDirectionInstructionsComplete : Obligations.CarryAndDirectionInstructionsComplete := by
  intro s
  simp only [List.forall_mem_cons]
  exact ⟨⟨rfl, rfl, rfl, List.forall_mem_nil _⟩, rfl, rfl⟩

end Sys2Proof.Machine

end

section

/-! The steps of shifts and rotates (45_shift_rotate.md R470): one step in the operations of bit vectors, then any number of
steps, with the bit that went into CY last. -/

namespace Sys2Proof.Machine

/-- A left shift as a product with a power of 2. -/
theorem shiftLeft_eq_ofNat {n : Nat} (x : BitVec n) (k : Nat) : x <<< k = BitVec.ofNat n (x.toNat * 2 ^ k) := by
  apply BitVec.eq_of_toNat_eq
  rw [BitVec.toNat_shiftLeft, BitVec.toNat_ofNat, Nat.shiftLeft_eq]

/-- A right shift as a quotient by a power of 2. -/
theorem ushiftRight_eq_ofNat {n : Nat} (x : BitVec n) (k : Nat) : x >>> k = BitVec.ofNat n (x.toNat / 2 ^ k) := by
  rw [← Nat.shiftRight_eq_div_pow, ← BitVec.toNat_ushiftRight, BitVec.ofNat_toNat, BitVec.setWidth_eq]

/-- An arithmetic right shift as a signed quotient by a power of 2, rounded down. -/
theorem sshiftRight_eq_ofInt {n : Nat} (x : BitVec n) (k : Nat) : x.sshiftRight k = BitVec.ofInt n (x.toInt / 2 ^ k) := by
  rw [BitVec.sshiftRight_eq, Int.shiftRight_eq_div_pow, Int.natCast_pow]
  rfl

/-- The lowest bit is set in the odd numbers. -/
theorem getLsbD_zero_iff {n : Nat} (x : BitVec n) : x.getLsbD 0 = true ↔ x.toNat % 2 = 1 :=
  Nat.mod_two_eq_one_iff_testBit_zero.symm

/-- The lowest bit is set in the odd signed numbers. -/
theorem getLsbD_zero_iff_toInt {n : Nat} (hn : 0 < n) (x : BitVec n) : x.getLsbD 0 = true ↔ x.toInt % 2 = 1 := by
  obtain ⟨m, rfl⟩ := Nat.exists_eq_succ_of_ne_zero (Nat.ne_of_gt hn)
  rw [getLsbD_zero_iff, BitVec.toInt_eq_msb_cond, Nat.pow_succ]
  split <;> omega

/-- The highest bit after a left shift is the one that one more shift drops. -/
theorem msb_shiftLeft_iff {n : Nat} (hn : 0 < n) (x : BitVec n) (k : Nat) :
    (x <<< k).msb = true ↔ x.toNat * 2 ^ (k + 1) / 2 ^ n % 2 = 1 := by
  have dropped : x.toNat * 2 ^ (k + 1) / 2 ^ n = x.toNat * 2 ^ k / 2 ^ (n - 1) := by
    rw [← Nat.two_pow_pred_mul_two hn, Nat.pow_succ, ← Nat.mul_assoc, Nat.mul_div_mul_right _ _ Nat.two_pos]
  rw [dropped, shiftLeft_eq_ofNat, BitVec.msb_eq_getLsbD_last, BitVec.getLsbD_ofNat,
    decide_eq_true (Nat.sub_lt hn Nat.one_pos), Bool.true_and, Nat.testBit_eq_decide_div_mod_eq, decide_eq_true_iff]

/-- A left rotate by one moves the highest bit to the bottom. -/
theorem getLsbD_rotateLeft_one {n : Nat} (hn : 2 ≤ n) (x : BitVec n) {i : Nat} (hi : i < n) :
    (x.rotateLeft 1).getLsbD i = if i = 0 then x.msb else x.getLsbD (i - 1) := by
  rw [BitVec.getLsbD_rotateLeft, Nat.mod_eq_of_lt hn, BitVec.msb_eq_getLsbD_last, decide_eq_true hi, Bool.true_and]
  cases i <;> rfl

/-- Each bit of a right rotate, with the places counted around. -/
theorem getLsbD_rotateRight_mod {n : Nat} (x : BitVec n) (k : Nat) {i : Nat} (hi : i < n) :
    (x.rotateRight k).getLsbD i = x.getLsbD ((k + i) % n) := by
  have hk : k % n < n := Nat.mod_lt _ (Nat.zero_lt_of_lt hi)
  rw [BitVec.getLsbD_rotateRight, ← Nat.mod_add_mod k, decide_eq_true hi, Bool.true_and, Bool.cond_decide]
  generalize k % n = j at hk
  split
  case isTrue below => rw [Nat.mod_eq_of_lt (by omega)]
  case isFalse around =>
    rw [Nat.mod_eq_sub_mod (by omega), Nat.mod_eq_of_lt (by omega), show i - (n - j) = j + i - n by omega]

/-- A right rotate by one moves the lowest bit to the top. -/
theorem getLsbD_rotateRight_one {n : Nat} (x : BitVec n) {i : Nat} (hi : i < n) :
    (x.rotateRight 1).getLsbD i = if i = n - 1 then x.getLsbD 0 else x.getLsbD (1 + i) := by
  rw [getLsbD_rotateRight_mod x 1 hi]
  split
  case isTrue top => rw [top, Nat.add_sub_cancel' (Nat.one_le_of_lt hi), Nat.mod_self]
  case isFalse below => rw [Nat.mod_eq_of_lt (by omega)]

/-- A left rotate by none. -/
theorem rotateLeft_zero {n : Nat} (x : BitVec n) : x.rotateLeft 0 = x := by
  rw [BitVec.rotateLeft_def, Nat.zero_mod, BitVec.shiftLeft_zero, Nat.sub_zero, BitVec.ushiftRight_eq_zero n.le_refl,
    BitVec.or_zero]

/-- A right rotate by none. -/
theorem rotateRight_zero {n : Nat} (x : BitVec n) : x.rotateRight 0 = x := by
  refine BitVec.eq_of_getLsbD_eq fun i hi => ?_
  rw [getLsbD_rotateRight_mod x 0 hi, Nat.zero_add, Nat.mod_eq_of_lt hi]

/-- Two left rotates one after the other. -/
theorem rotateLeft_add {n : Nat} (x : BitVec n) (k j : Nat) : x.rotateLeft (k + j) = (x.rotateLeft k).rotateLeft j := by
  refine BitVec.eq_of_getMsbD_eq fun i hi => ?_
  have inside : (j + i) % n < n := Nat.mod_lt _ (Nat.zero_lt_of_lt hi)
  simp only [BitVec.getMsbD_rotateLeft, hi, inside, decide_true, Bool.true_and, Nat.add_mod_mod, Nat.add_assoc]

/-- Two right rotates one after the other. -/
theorem rotateRight_add {n : Nat} (x : BitVec n) (k j : Nat) :
    x.rotateRight (k + j) = (x.rotateRight k).rotateRight j := by
  refine BitVec.eq_of_getLsbD_eq fun i hi => ?_
  have inside : (j + i) % n < n := Nat.mod_lt _ (Nat.zero_lt_of_lt hi)
  rw [getLsbD_rotateRight_mod _ _ hi, getLsbD_rotateRight_mod _ _ hi, getLsbD_rotateRight_mod _ _ inside,
    Nat.add_mod_mod, Nat.add_assoc]

/-- A value with only its highest bit given, as a number. -/
theorem topBit_eq_ofNat {n : Nat} (b : Bool) : (topBit b : BitVec n) = BitVec.ofNat n (b.toNat * 2 ^ (n - 1)) := by
  cases b with
  | false => rw [Bool.toNat_false, Nat.zero_mul]; rfl
  | true => rw [Bool.toNat_true, Nat.one_mul]; rfl

/-- A left shift by one leaves its lowest bit for another. -/
theorem getLsbD_shiftLeft_one_or {n : Nat} (x : BitVec n) (b : Bool) {i : Nat} (hi : i < n) :
    (x <<< 1 ||| bottomBit b).getLsbD i = if i = 0 then b else x.getLsbD (i - 1) := by
  rw [BitVec.getLsbD_or, BitVec.getLsbD_shiftLeft, bottomBit, BitVec.getLsbD_ofNat, Nat.testBit_bool_toNat,
    decide_eq_true hi]
  cases i <;> simp

/-- A right shift by one leaves its highest bit for another. -/
theorem getLsbD_ushiftRight_one_or {n : Nat} (x : BitVec n) (b : Bool) {i : Nat} (hi : i < n) :
    (x >>> 1 ||| topBit b).getLsbD i = if i = n - 1 then b else x.getLsbD (1 + i) := by
  rw [BitVec.getLsbD_or, BitVec.getLsbD_ushiftRight, topBit_eq_ofNat, BitVec.getLsbD_ofNat, Nat.testBit_mul_two_pow,
    Nat.testBit_bool_toNat, decide_eq_true hi]
  split
  case isTrue top => rw [BitVec.getLsbD_of_ge _ _ (by omega), top]; simp
  case isFalse below => simp [show ¬ n - 1 ≤ i by omega]

/-- A left shift by one with another lowest bit, as a number. -/
theorem shiftLeft_one_or_eq_ofNat {n : Nat} (x : BitVec n) (b : Bool) :
    x <<< 1 ||| bottomBit b = BitVec.ofNat n (2 * x.toNat + b.toNat) := by
  refine BitVec.eq_of_getLsbD_eq fun i hi => ?_
  rw [getLsbD_shiftLeft_one_or x b hi, BitVec.getLsbD_ofNat, decide_eq_true hi, Bool.true_and]
  cases i with
  | zero => cases b <;> simp [Nat.testBit_zero]
  | succ j => rw [Nat.testBit_add_one, Nat.mul_add_div Nat.two_pos]; cases b <;> rfl

/-- A right shift by one with another highest bit, as a number. -/
theorem ushiftRight_one_or_eq_ofNat {n : Nat} (x : BitVec n) (b : Bool) :
    x >>> 1 ||| topBit b = BitVec.ofNat n (x.toNat / 2 + b.toNat * 2 ^ (n - 1)) := by
  refine BitVec.eq_of_getLsbD_eq fun i hi => ?_
  have half : x.toNat / 2 < 2 ^ (n - 1) := by
    have bound := x.isLt
    rw [← Nat.two_pow_pred_mul_two (Nat.zero_lt_of_lt hi)] at bound
    exact (Nat.div_lt_iff_lt_mul Nat.two_pos).mpr bound
  rw [getLsbD_ushiftRight_one_or x b hi, BitVec.getLsbD_ofNat, decide_eq_true hi, Bool.true_and,
    Nat.add_comm (x.toNat / 2), Nat.mul_comm, Nat.testBit_two_pow_mul_add _ half, Nat.testBit_bool_toNat,
    Nat.testBit_div_two]
  split
  case isTrue top => rw [top, if_neg (Nat.lt_irrefl _), Nat.sub_self]; rfl
  case isFalse below => rw [if_pos (by omega), Nat.add_comm]; rfl

/-- One step of SHRA is an arithmetic shift. -/
theorem ShiftOp.step_shra {n : Nat} (x : BitVec n) (cy : Bool) : (ShiftOp.shra.step x cy).1 = x.sshiftRight 1 := by
  refine BitVec.eq_of_getLsbD_eq fun i hi => ?_
  rw [ShiftOp.step, getLsbD_ushiftRight_one_or _ _ hi, BitVec.getLsbD_sshiftRight, decide_eq_false (Nat.not_le.mpr hi),
    Bool.not_false, Bool.true_and]
  split
  case isTrue top => rw [if_neg (by omega)]
  case isFalse below => rw [if_pos (by omega)]

/-- One step of ROL is a rotate by one. -/
theorem ShiftOp.step_rol {n : Nat} (hn : 2 ≤ n) (x : BitVec n) (cy : Bool) :
    (ShiftOp.rol.step x cy).1 = x.rotateLeft 1 := by
  refine BitVec.eq_of_getLsbD_eq fun i hi => ?_
  rw [ShiftOp.step, getLsbD_shiftLeft_one_or _ _ hi, getLsbD_rotateLeft_one hn x hi]

/-- One step of ROR is a rotate by one. -/
theorem ShiftOp.step_ror {n : Nat} (x : BitVec n) (cy : Bool) : (ShiftOp.ror.step x cy).1 = x.rotateRight 1 := by
  refine BitVec.eq_of_getLsbD_eq fun i hi => ?_
  rw [ShiftOp.step, getLsbD_ushiftRight_one_or _ _ hi, getLsbD_rotateRight_one x hi]

/-- CY above the operand, as ROLC and RORC rotate them. -/
def withCarry {n : Nat} (r : BitVec n × Bool) : BitVec (1 + n) := BitVec.ofBool r.2 ++ r.1

/-- The lower bits of CY and operand are the operand's. -/
theorem getLsbD_withCarry {n : Nat} (r : BitVec n × Bool) {i : Nat} (hi : i < n) :
    (withCarry r).getLsbD i = r.1.getLsbD i := by
  rw [withCarry, BitVec.getLsbD_append, if_pos hi]

/-- The highest bit of CY and operand is CY. -/
theorem getLsbD_withCarry_top {n : Nat} (r : BitVec n × Bool) : (withCarry r).getLsbD n = r.2 := by
  rw [withCarry, BitVec.getLsbD_append, if_neg (Nat.lt_irrefl n), Nat.sub_self, BitVec.getLsbD_ofBool]
  rfl

/-- One step of ROLC is a rotate of CY and operand. -/
theorem ShiftOp.step_rolc {n : Nat} (hn : 0 < n) (r : BitVec n × Bool) :
    withCarry (ShiftOp.rolc.step r.1 r.2) = (withCarry r).rotateLeft 1 := by
  refine BitVec.eq_of_getLsbD_eq fun i hi => ?_
  rw [getLsbD_rotateLeft_one (by omega) _ hi, BitVec.msb_eq_getLsbD_last, Nat.add_sub_cancel_left, getLsbD_withCarry_top]
  by_cases low : i < n
  · rw [getLsbD_withCarry _ low, ShiftOp.step, getLsbD_shiftLeft_one_or _ _ low, getLsbD_withCarry r (by omega)]
  · obtain rfl : i = n := by omega
    rw [getLsbD_withCarry_top, if_neg (Nat.ne_of_gt hn), getLsbD_withCarry r (Nat.sub_lt hn Nat.one_pos), ShiftOp.step,
      BitVec.msb_eq_getLsbD_last]

/-- One step of RORC is a rotate of CY and operand. -/
theorem ShiftOp.step_rorc {n : Nat} (hn : 0 < n) (r : BitVec n × Bool) :
    withCarry (ShiftOp.rorc.step r.1 r.2) = (withCarry r).rotateRight 1 := by
  refine BitVec.eq_of_getLsbD_eq fun i hi => ?_
  rw [getLsbD_rotateRight_one _ hi, Nat.add_sub_cancel_left, getLsbD_withCarry r hn]
  by_cases low : i < n
  · rw [getLsbD_withCarry _ low, ShiftOp.step, getLsbD_ushiftRight_one_or _ _ low, if_neg (Nat.ne_of_lt low)]
    split
    case isTrue top => rw [top, Nat.add_sub_cancel' hn, getLsbD_withCarry_top]
    case isFalse below => rw [getLsbD_withCarry r (by omega)]
  · obtain rfl : i = n := by omega
    rw [getLsbD_withCarry_top, if_pos rfl, ShiftOp.step]

/-- What one step does to a view `g` of operand and CY, any number of steps do that many times. -/
theorem ShiftOp.steps_iterate {n : Nat} {op : ShiftOp} {β : Type} {g : BitVec n × Bool → β} {f : β → Nat → β}
    (zero : ∀ y, f y 0 = y) (add : ∀ y k j, f y (k + j) = f (f y k) j) (step : ∀ r, g (op.step r.1 r.2) = f (g r) 1)
    (k : Nat) (r : BitVec n × Bool) : g (op.steps k r) = f (g r) k := by
  induction k with
  | zero => exact (zero _).symm
  | succ k ih => rw [ShiftOp.steps_succ, step, ih, add]

/-- SHL by a count. -/
theorem ShiftOp.steps_shl {n : Nat} (k : Nat) (r : BitVec n × Bool) : (ShiftOp.shl.steps k r).1 = r.1 <<< k :=
  ShiftOp.steps_iterate BitVec.shiftLeft_zero BitVec.shiftLeft_add (fun _ => rfl) k r

/-- SHR by a count. -/
theorem ShiftOp.steps_shr {n : Nat} (k : Nat) (r : BitVec n × Bool) : (ShiftOp.shr.steps k r).1 = r.1 >>> k :=
  ShiftOp.steps_iterate BitVec.ushiftRight_zero BitVec.shiftRight_add (fun _ => rfl) k r

/-- SHRA by a count. -/
theorem ShiftOp.steps_shra {n : Nat} (k : Nat) (r : BitVec n × Bool) :
    (ShiftOp.shra.steps k r).1 = r.1.sshiftRight k :=
  ShiftOp.steps_iterate (fun _ => BitVec.sshiftRight_zero) (fun _ _ _ => BitVec.sshiftRight_add)
    (fun r => ShiftOp.step_shra r.1 r.2) k r

/-- ROL by a count. -/
theorem ShiftOp.steps_rol {n : Nat} (hn : 2 ≤ n) (k : Nat) (r : BitVec n × Bool) :
    (ShiftOp.rol.steps k r).1 = r.1.rotateLeft k :=
  ShiftOp.steps_iterate rotateLeft_zero rotateLeft_add (fun r => ShiftOp.step_rol hn r.1 r.2) k r

/-- ROR by a count. -/
theorem ShiftOp.steps_ror {n : Nat} (k : Nat) (r : BitVec n × Bool) : (ShiftOp.ror.steps k r).1 = r.1.rotateRight k :=
  ShiftOp.steps_iterate rotateRight_zero rotateRight_add (fun r => ShiftOp.step_ror r.1 r.2) k r

/-- ROLC by a count. -/
theorem ShiftOp.steps_rolc {n : Nat} (hn : 0 < n) (k : Nat) (r : BitVec n × Bool) :
    withCarry (ShiftOp.rolc.steps k r) = (withCarry r).rotateLeft k :=
  ShiftOp.steps_iterate rotateLeft_zero rotateLeft_add (ShiftOp.step_rolc hn) k r

/-- RORC by a count. -/
theorem ShiftOp.steps_rorc {n : Nat} (hn : 0 < n) (k : Nat) (r : BitVec n × Bool) :
    withCarry (ShiftOp.rorc.steps k r) = (withCarry r).rotateRight k :=
  ShiftOp.steps_iterate rotateRight_zero rotateRight_add (ShiftOp.step_rorc hn) k r

/-- CY after SHL is the last bit that left at the top. -/
theorem ShiftOp.carry_shl {n : Nat} (hn : 0 < n) {k : Nat} (hk : k ≠ 0) (r : BitVec n × Bool) :
    (ShiftOp.shl.steps k r).2 = true ↔ r.1.toNat * 2 ^ k / 2 ^ n % 2 = 1 := by
  obtain ⟨j, rfl : k = j + 1⟩ := Nat.exists_eq_succ_of_ne_zero hk
  rw [ShiftOp.steps_succ, ShiftOp.step, ShiftOp.steps_shl]
  exact msb_shiftLeft_iff hn r.1 j

/-- CY after SHR is the last bit that left at the bottom. -/
theorem ShiftOp.carry_shr {n : Nat} {k : Nat} (hk : k ≠ 0) (r : BitVec n × Bool) :
    (ShiftOp.shr.steps k r).2 = true ↔ r.1.toNat / 2 ^ (k - 1) % 2 = 1 := by
  obtain ⟨j, rfl : k = j + 1⟩ := Nat.exists_eq_succ_of_ne_zero hk
  rw [ShiftOp.steps_succ, ShiftOp.step, ShiftOp.steps_shr, getLsbD_zero_iff, BitVec.toNat_ushiftRight,
    Nat.shiftRight_eq_div_pow]
  rfl

/-- CY after SHRA is the last bit that left at the bottom. -/
theorem ShiftOp.carry_shra {n : Nat} (hn : 0 < n) {k : Nat} (hk : k ≠ 0) (r : BitVec n × Bool) :
    (ShiftOp.shra.steps k r).2 = true ↔ r.1.toInt / 2 ^ (k - 1) % 2 = 1 := by
  obtain ⟨j, rfl : k = j + 1⟩ := Nat.exists_eq_succ_of_ne_zero hk
  rw [ShiftOp.steps_succ, ShiftOp.step, ShiftOp.steps_shra, getLsbD_zero_iff_toInt hn, BitVec.toInt_sshiftRight,
    Int.shiftRight_eq_div_pow, Int.natCast_pow]
  rfl

/-- CY after ROL is the bit that went round to the bottom. -/
theorem ShiftOp.carry_rol {n : Nat} (hn : 2 ≤ n) {k : Nat} (hk : k ≠ 0) (r : BitVec n × Bool) :
    (ShiftOp.rol.steps k r).2 = (r.1.rotateLeft k).getLsbD 0 := by
  obtain ⟨j, rfl : k = j + 1⟩ := Nat.exists_eq_succ_of_ne_zero hk
  rw [ShiftOp.steps_succ, ShiftOp.step, ShiftOp.steps_rol hn, rotateLeft_add,
    getLsbD_rotateLeft_one hn _ (Nat.zero_lt_of_lt hn), if_pos rfl]

/-- CY after ROR is the bit that went round to the top. -/
theorem ShiftOp.carry_ror {n : Nat} (hn : 0 < n) {k : Nat} (hk : k ≠ 0) (r : BitVec n × Bool) :
    (ShiftOp.ror.steps k r).2 = (r.1.rotateRight k).msb := by
  obtain ⟨j, rfl : k = j + 1⟩ := Nat.exists_eq_succ_of_ne_zero hk
  rw [ShiftOp.steps_succ, ShiftOp.step, ShiftOp.steps_ror, rotateRight_add,
    BitVec.msb_eq_getLsbD_last (BitVec.rotateRight _ 1), getLsbD_rotateRight_one _ (Nat.sub_lt hn Nat.one_pos), if_pos rfl]

/-- V of a shift or rotate by one says whether it has changed the highest bit. -/
theorem ShiftOp.overflow_step {n : Nat} (hn : 2 ≤ n) (op : ShiftOp) (x : BitVec n) (cy : Bool) :
    op.overflow (op.step x cy).1 (op.step x cy).2 = ((op.step x cy).1.msb != x.msb) := by
  have second (b : Bool) : (x >>> 1 ||| topBit b).getLsbD (n - 2) = x.msb := by
    rw [getLsbD_ushiftRight_one_or x b (by omega), if_neg (by omega), BitVec.msb_eq_getLsbD_last,
      show 1 + (n - 2) = n - 1 by omega]
  cases op with
  | shl | rol | rolc => rfl
  | ror | rorc => rw [ShiftOp.overflow, ShiftOp.step, second]
  | shr =>
    have shifted : x >>> 1 = x >>> 1 ||| topBit false := BitVec.or_zero.symm
    rw [ShiftOp.overflow, ShiftOp.step, shifted, second]
  | shra => rw [ShiftOp.step_shra, BitVec.msb_sshiftRight, bne_self_eq_false]; rfl

end Sys2Proof.Machine

end

section

/-! Shifts and rotates (45_shift_rotate.md R470 to R512): what the operation by one and by a count leaves, then the forms of
each instruction. -/

namespace Sys2Proof.Machine

/-- An operand has more than one bit. -/
theorem Width.two_le_bits (w : Width) : 2 ≤ w.bits := by cases w <;> decide

/-- What the shifts by one leave: the value `v` and CY, V by the change of the highest bit, S, Z and P of the value. -/
def ShiftsOnce (i : Instr) (s : State) (w : Width) (o : Operand) (v : Val w) (cy : Bool) : Prop :=
  Completes i s fun t =>
    OperandBecomes (s.afterOperand w o) t w o v ∧ t.psw.cy = cy ∧ t.psw.v = (v.msb != (s.readOperand w o).msb) ∧
    ResultFlags t.psw v ∧ t.psw.ac = Config.freeFlag s.draws .ac ∧ SameControlFlags s.psw t.psw ∧ SameRest s t

/-- A shift by one leaves what its step gives. -/
theorem ShiftsOnce.of_shiftOnce {i : Instr} {s : State} {op : ShiftOp} {w : Width} {o : Operand} {v : Val w} {cy : Bool}
    (shifts : op.rotates = false) (result : op.step (s.readOperand w o) s.psw.cy = (v, cy))
    (hx : exec i s = .next (s.shiftOnce op w o)) : ShiftsOnce i s w o v cy := by
  obtain ⟨becomes, psw, control, rest⟩ := s.shiftOnce_spec op w o
  have overflow := op.overflow_step (Width.two_le_bits w) (s.readOperand w o) s.psw.cy
  rw [s.shiftFlags_shifts shifts, overflow, result] at psw
  rw [result] at becomes
  exact ⟨_, hx, becomes, congrArg Psw.cy psw, congrArg Psw.v psw,
    resultFlags_of _ _ (congrArg Psw.s psw) (congrArg Psw.z psw) (congrArg Psw.p psw), congrArg Psw.ac psw, control, rest⟩

/-- What the rotates by one leave: the value `v` and CY, V by the change of the highest bit. -/
def RotatesOnce (i : Instr) (s : State) (w : Width) (o : Operand) (v : Val w) (cy : Bool) : Prop :=
  Completes i s fun t =>
    OperandBecomes (s.afterOperand w o) t w o v ∧
    t.psw = { s.psw with cy := cy, v := v.msb != (s.readOperand w o).msb } ∧ SameRest s t

/-- A rotate by one leaves what its step gives. -/
theorem RotatesOnce.of_shiftOnce {i : Instr} {s : State} {op : ShiftOp} {w : Width} {o : Operand} {v : Val w} {cy : Bool}
    (rotates : op.rotates = true) (result : op.step (s.readOperand w o) s.psw.cy = (v, cy))
    (hx : exec i s = .next (s.shiftOnce op w o)) : RotatesOnce i s w o v cy := by
  obtain ⟨becomes, psw, -, rest⟩ := s.shiftOnce_spec op w o
  have overflow := op.overflow_step (Width.two_le_bits w) (s.readOperand w o) s.psw.cy
  rw [s.shiftFlags_rotates rotates, overflow, result] at psw
  rw [result] at becomes
  exact ⟨_, hx, becomes, psw, rest⟩

/-- Settles O32: each form by one step of its operation, the step written as the statement has it. -/
theorem shiftsByOneComplete : Obligations.ShiftsByOneComplete := by
  intro s w r m
  have shl {i o} := @ShiftsOnce.of_shiftOnce i s .shl w o _ _ rfl
    (Prod.ext ((shiftLeft_eq_ofNat _ 1).trans (congrArg _ (Nat.mul_comm _ 2))) rfl)
  have shr {i o} := @ShiftsOnce.of_shiftOnce i s .shr w o _ _ rfl (Prod.ext (ushiftRight_eq_ofNat _ 1) rfl)
  have shra {i o} := @ShiftsOnce.of_shiftOnce i s .shra w o _ _ rfl
    (Prod.ext ((ShiftOp.step_shra _ _).trans (sshiftRight_eq_ofInt _ 1)) rfl)
  have rol {i o} := @RotatesOnce.of_shiftOnce i s .rol w o _ _ rfl
    (Prod.ext (ShiftOp.step_rol (Width.two_le_bits w) _ _) rfl)
  have ror {i o} := @RotatesOnce.of_shiftOnce i s .ror w o _ _ rfl (Prod.ext (ShiftOp.step_ror _ _) rfl)
  have rolc {i o} := @RotatesOnce.of_shiftOnce i s .rolc w o _ _ rfl (Prod.ext (shiftLeft_one_or_eq_ofNat _ _) rfl)
  have rorc {i o} := @RotatesOnce.of_shiftOnce i s .rorc w o _ _ rfl (Prod.ext (ushiftRight_one_or_eq_ofNat _ _) rfl)
  simp only [List.forall_mem_cons]
  exact ⟨⟨⟨shl rfl, shr rfl, shra rfl, List.forall_mem_nil _⟩, ⟨shl rfl, shr rfl, shra rfl, List.forall_mem_nil _⟩,
      List.forall_mem_nil _⟩,
    ⟨rol rfl, ror rfl, rolc rfl, rorc rfl, List.forall_mem_nil _⟩,
    ⟨rol rfl, ror rfl, rolc rfl, rorc rfl, List.forall_mem_nil _⟩, List.forall_mem_nil _⟩

/-- With count 0 a shift keeps CY and draws the other flags. -/
theorem State.shiftByFlags_zero {n : Nat} (s : State) {op : ShiftOp} (shifts : op.rotates = false) (r : BitVec n)
    (cy : Bool) : s.shiftByFlags op 0 r cy = { s.drawnStatus with cy := s.psw.cy } := by
  rw [State.shiftByFlags, if_pos rfl, if_neg (by rw [shifts]; exact Bool.false_ne_true)]

/-- With another count the flags are those of the last step, but V is drawn. -/
theorem State.shiftByFlags_nonzero {n : Nat} (s : State) (op : ShiftOp) {k : Nat} (hk : k ≠ 0) (r : BitVec n)
    (cy : Bool) : s.shiftByFlags op k r cy = s.shiftFlags op r cy (s.drawnFlag .v) := if_neg hk

/-- A rotate by any count sets CY and draws V. -/
theorem State.shiftByFlags_rotates {n : Nat} (s : State) {op : ShiftOp} (rotates : op.rotates = true) (k : Nat)
    (x : BitVec n) :
    let r := op.steps k (x, s.psw.cy)
    s.psw.withStatus (s.shiftByFlags op k r.1 r.2) = { s.psw with cy := r.2, v := Config.freeFlag s.draws .v } := by
  intro r
  by_cases hk : k = 0
  · subst hk
    rw [State.shiftByFlags, if_pos rfl, if_pos rotates]
    rfl
  · rw [s.shiftByFlags_nonzero op hk, s.shiftFlags_rotates rotates]
    rfl

/-- What the shifts by a count `k` leave: the value `v`, CY by `out` and the flags of the value, or, with count 0, the
operand and CY as they were and the other flags free. -/
def ShiftsByCount (i : Instr) (s : State) (w : Width) (o : Operand) (k : Nat) (v : Val w) (out : Prop) : Prop :=
  Completes i s fun t =>
    OperandBecomes (s.afterOperand w o) t w o v ∧ t.psw.v = Config.freeFlag s.draws .v ∧
    t.psw.ac = Config.freeFlag s.draws .ac ∧
    (k = 0 → v = s.readOperand w o ∧ t.psw.cy = s.psw.cy ∧ t.psw.s = Config.freeFlag s.draws .s ∧
      t.psw.z = Config.freeFlag s.draws .z ∧ t.psw.p = Config.freeFlag s.draws .p) ∧
    (k ≠ 0 → (t.psw.cy = true ↔ out) ∧ ResultFlags t.psw v) ∧ SameControlFlags s.psw t.psw ∧ SameRest s t

/-- A shift by a count leaves what its steps give. -/
theorem ShiftsByCount.of_shiftBy {i : Instr} {s : State} {op : ShiftOp} {w : Width} {o : Operand} {count : Byte}
    {v : Val w} {out : Prop} (shifts : op.rotates = false)
    (value : (op.steps count.toNat (s.readOperand w o, s.psw.cy)).1 = v)
    (carry : count.toNat ≠ 0 → ((op.steps count.toNat (s.readOperand w o, s.psw.cy)).2 = true ↔ out))
    (hx : exec i s = .next (s.shiftBy op w o count)) : ShiftsByCount i s w o count.toNat v out := by
  obtain ⟨becomes, psw, control, rest⟩ := s.shiftBy_spec op w o count
  rw [value] at becomes psw
  generalize count.toNat = k at value carry psw
  by_cases hk : k = 0
  · subst hk
    rw [s.shiftByFlags_zero shifts] at psw
    exact ⟨_, hx, becomes, congrArg Psw.v psw, congrArg Psw.ac psw,
      fun _ => ⟨value.symm, (congrArg Psw.cy psw :), congrArg Psw.s psw, congrArg Psw.z psw, congrArg Psw.p psw⟩,
      fun nonzero => absurd rfl nonzero, control, rest⟩
  · rw [s.shiftByFlags_nonzero op hk, s.shiftFlags_shifts shifts] at psw
    have cy : (s.shiftBy op w o count).psw.cy = _ := congrArg Psw.cy psw
    exact ⟨_, hx, becomes, congrArg Psw.v psw, congrArg Psw.ac psw, fun zero => absurd zero hk,
      fun _ => ⟨by rw [cy]; exact carry hk,
        resultFlags_of _ _ (congrArg Psw.s psw) (congrArg Psw.z psw) (congrArg Psw.p psw)⟩, control, rest⟩

/-- Settles O33: the four forms of each shift, by the value and the last bit of its steps. -/
theorem shiftsByCountComplete : Obligations.ShiftsByCountComplete := by
  intro s w r m imm
  have shl {i o count} := @ShiftsByCount.of_shiftBy i s .shl w o count _ _ rfl
    ((ShiftOp.steps_shl _ _).trans (shiftLeft_eq_ofNat _ _)) fun nonzero => ShiftOp.carry_shl (Width.bits_pos w) nonzero _
  have shr {i o count} := @ShiftsByCount.of_shiftBy i s .shr w o count _ _ rfl
    ((ShiftOp.steps_shr _ _).trans (ushiftRight_eq_ofNat _ _)) fun nonzero => ShiftOp.carry_shr nonzero _
  have shra {i o count} := @ShiftsByCount.of_shiftBy i s .shra w o count _ _ rfl
    ((ShiftOp.steps_shra _ _).trans (sshiftRight_eq_ofInt _ _))
    fun nonzero => ShiftOp.carry_shra (Width.bits_pos w) nonzero _
  simp only [List.forall_mem_cons]
  exact ⟨⟨shl rfl, shr rfl, shra rfl, List.forall_mem_nil _⟩, ⟨shl rfl, shr rfl, shra rfl, List.forall_mem_nil _⟩,
    ⟨shl rfl, shr rfl, shra rfl, List.forall_mem_nil _⟩, ⟨shl rfl, shr rfl, shra rfl, List.forall_mem_nil _⟩,
    List.forall_mem_nil _⟩

/-- A rotate by a count: the operand, CY and V, and nothing else. -/
theorem State.shiftBy_rotates (s : State) {op : ShiftOp} (rotates : op.rotates = true) (w : Width) (o : Operand)
    (count : Byte) :
    let r := op.steps count.toNat (s.readOperand w o, s.psw.cy)
    let t := s.shiftBy op w o count
    OperandBecomes (s.afterOperand w o) t w o r.1 ∧
      t.psw = { s.psw with cy := r.2, v := Config.freeFlag s.draws .v } ∧ SameRest s t := by
  intro r t
  obtain ⟨becomes, psw, -, rest⟩ := s.shiftBy_spec op w o count
  exact ⟨becomes, psw.trans (s.shiftByFlags_rotates rotates _ _), rest⟩

/-- A rotate changes no flag but CY and V, which is free, and nothing but its operand. -/
def RotateFrame (s t : State) : Prop :=
  t.psw = { s.psw with cy := t.psw.cy, v := Config.freeFlag s.draws .v } ∧ SameRest s t

/-- What ROL and ROR by a count leave: the value `v` and CY. -/
def RotatesByCount (i : Instr) (s : State) (w : Width) (o : Operand) (v : Val w) (cy : Bool) : Prop :=
  Completes i s fun t => OperandBecomes (s.afterOperand w o) t w o v ∧ t.psw.cy = cy ∧ RotateFrame s t

/-- A rotate by a count leaves what its steps give. -/
theorem RotatesByCount.of_shiftBy {i : Instr} {s : State} {op : ShiftOp} {w : Width} {o : Operand} {count : Byte}
    {v : Val w} {out : Bool} (rotates : op.rotates = true)
    (value : (op.steps count.toNat (s.readOperand w o, s.psw.cy)).1 = v)
    (carry : count.toNat ≠ 0 → (op.steps count.toNat (s.readOperand w o, s.psw.cy)).2 = out)
    (hx : exec i s = .next (s.shiftBy op w o count)) :
    RotatesByCount i s w o v (if count.toNat = 0 then s.psw.cy else out) := by
  obtain ⟨becomes, psw, rest⟩ := s.shiftBy_rotates rotates w o count
  have cy : (op.steps count.toNat (s.readOperand w o, s.psw.cy)).2 = if count.toNat = 0 then s.psw.cy else out := by
    split
    case isTrue zero => rw [zero]; rfl
    case isFalse nonzero => exact carry nonzero
  rw [value] at becomes
  rw [cy] at psw
  have cy := congrArg Psw.cy psw
  exact ⟨_, hx, becomes, cy, by rw [cy]; exact psw, rest⟩

/-- What ROLC and RORC by a count leave: the value with CY above it is `v`. -/
def RotatesWithCarry (i : Instr) (s : State) (w : Width) (o : Operand) (v : BitVec (1 + w.bits)) : Prop :=
  Completes i s fun t => ∃ r : Val w,
    withCarry (r, t.psw.cy) = v ∧ OperandBecomes (s.afterOperand w o) t w o r ∧ RotateFrame s t

/-- A rotate with CY by a count leaves what its steps give. -/
theorem RotatesWithCarry.of_shiftBy {i : Instr} {s : State} {op : ShiftOp} {w : Width} {o : Operand} {count : Byte}
    {v : BitVec (1 + w.bits)} (rotates : op.rotates = true)
    (value : withCarry (op.steps count.toNat (s.readOperand w o, s.psw.cy)) = v)
    (hx : exec i s = .next (s.shiftBy op w o count)) : RotatesWithCarry i s w o v := by
  obtain ⟨becomes, psw, rest⟩ := s.shiftBy_rotates rotates w o count
  have cy := congrArg Psw.cy psw
  exact ⟨_, hx, _, by rw [cy]; exact value, becomes, by rw [cy]; exact psw, rest⟩

/-- Settles O34: the four forms of each rotate, ROL and ROR by the value and the last bit of their steps, ROLC and RORC by
what they make of CY and operand. -/
theorem rotatesByCountComplete : Obligations.RotatesByCountComplete := by
  intro s w r m imm
  have rol {i o count} := @RotatesByCount.of_shiftBy i s .rol w o count _ _ rfl
    (ShiftOp.steps_rol (Width.two_le_bits w) _ _) fun nonzero => ShiftOp.carry_rol (Width.two_le_bits w) nonzero _
  have ror {i o count} := @RotatesByCount.of_shiftBy i s .ror w o count _ _ rfl
    (ShiftOp.steps_ror _ _) fun nonzero => ShiftOp.carry_ror (Width.bits_pos w) nonzero _
  have rolc {i o count} := @RotatesWithCarry.of_shiftBy i s .rolc w o count _ rfl
    (ShiftOp.steps_rolc (Width.bits_pos w) _ _)
  have rorc {i o count} := @RotatesWithCarry.of_shiftBy i s .rorc w o count _ rfl
    (ShiftOp.steps_rorc (Width.bits_pos w) _ _)
  simp only [List.forall_mem_cons]
  exact ⟨⟨rol rfl, ror rfl, rolc rfl, rorc rfl⟩, ⟨rol rfl, ror rfl, rolc rfl, rorc rfl⟩,
    ⟨rol rfl, ror rfl, rolc rfl, rorc rfl⟩, ⟨rol rfl, ror rfl, rolc rfl, rorc rfl⟩, List.forall_mem_nil _⟩

end Sys2Proof.Machine

end

section

/-! The branches (46_control_transfer.md R560 to R589): the two operations that all of them are, in the words of the claims,
and what the flags of a comparison say of the order of the operands. -/

namespace Sys2Proof.Machine

/-- A short branch goes to its target where its condition holds, and else does nothing. -/
theorem BranchesTo.of_branchIf {i : Instr} {s : State} {c : Bool} {d : Byte} {P : Prop} [Decidable P]
    (hx : exec i s = .next (s.branchIf c d)) (hc : c = true ↔ P) :
    BranchesTo i s (if P then some (s.pc + BitVec.ofInt 16 d.toInt) else none) := by
  by_cases h : P
  · rw [if_pos h]
    exact hx.trans (congrArg Host.Outcome.next (if_pos (hc.mpr h)))
  · rw [if_neg h]
    exact hx.trans (congrArg Host.Outcome.next (if_neg (mt hc.mp h)))

/-- A counting branch: CW goes down by one, and the branch is taken where CW was not 1 and the condition holds. -/
theorem State.countAndBranch_eq (s : State) (c : Bool) (d : Byte) :
    s.countAndBranch c d =
      if s.cw.toNat ≠ 1 ∧ c = true then
        { s with cw := s.cw - 1 }.transferredTo (s.pc + BitVec.ofInt 16 d.toInt)
      else { s with cw := s.cw - 1 } := by
  have counts : s.cw - 1 = 0 ↔ s.cw.toNat = 1 := by bv_omega
  have condition : (s.cw - 1 != 0 && c) = true ↔ s.cw.toNat ≠ 1 ∧ c = true := by
    rw [Bool.and_eq_true, bne_iff_ne, ne_eq, counts]
  exact ite_congr (propext condition) (fun _ => rfl) (fun _ => rfl)

/-- Settles O45, by the short branch and the counting branch, each with its condition. -/
theorem conditionalBranchesComplete : Obligations.ConditionalBranchesComplete := by
  refine ⟨fun s d => ?_, fun s d => ?_⟩
  · have same {i : Instr} {c : Bool} (hx : exec i s = .next (s.branchIf c d)) :
        BranchesTo i s (if c then some (s.pc + BitVec.ofInt 16 d.toInt) else none) := .of_branchIf hx .rfl
    have agree : (!(s.psw.s ^^ s.psw.v)) = (s.psw.s == s.psw.v) := Bool.not_not _
    simp only [List.forall_mem_cons]
    refine ⟨same rfl, same rfl, same rfl, same rfl, same rfl, same rfl, same rfl, ?bh, same rfl, same rfl, same rfl,
      same rfl, same rfl, ?bge, same rfl, ?bgt, ?bcwz, List.forall_mem_nil _⟩
    case bh => exact .of_branchIf rfl (by rw [Bool.not_or])
    case bge => exact .of_branchIf rfl (by rw [agree])
    case bgt => exact .of_branchIf rfl (by rw [Bool.not_or, agree])
    case bcwz => exact .of_branchIf rfl (by rw [beq_iff_eq, decide_eq_true_iff, BitVec.toNat_eq]; rfl)
  · rw [List.forall_mem_cons, List.forall_mem_cons, List.forall_mem_singleton]
    exact ⟨congrArg Host.Outcome.next (s.countAndBranch_eq _ d), congrArg Host.Outcome.next (s.countAndBranch_eq _ d),
      congrArg Host.Outcome.next (s.countAndBranch_eq _ d)⟩

/-- Z of a comparison: the operands are equal. -/
theorem ResultFlags.zero_iff {n : Nat} {p : Psw} {a b : BitVec n} (h : ResultFlags p (a - b)) : p.z = true ↔ a = b := by
  obtain ⟨-, zero, -⟩ := h
  have toZero : (a - b).toNat = 0 ↔ a - b = 0#n := by rw [← BitVec.toNat_inj]; rfl
  rw [zero, toZero, BitVec.sub_eq_iff_eq_add, BitVec.zero_add]

/-- S and V of a comparison: they differ where the first operand is below the second as signed numbers. -/
theorem DifferenceBorrows.signed_iff {n : Nat} (hn : n = 8 ∨ n = 16) {p : Psw} {a b : BitVec n}
    (hb : DifferenceBorrows p a b false) (hr : ResultFlags p (a - b)) : (p.s ^^ p.v) = true ↔ a.toInt < b.toInt := by
  obtain ⟨-, -, overflow⟩ := hb
  obtain ⟨sign, -, -⟩ := hr
  rw [← msb_iff, BitVec.msb_eq_toInt, decide_eq_true_iff, BitVec.toInt_sub] at sign
  have differ : (p.s ^^ p.v) = true ↔ p.s ≠ p.v := bne_iff_ne
  rw [differ, ne_eq, Bool.eq_iff_iff, sign, overflow, Bool.toNat_false, Overflows, Int.bmod]
  have ha := a.toInt_lt
  have hb := b.toInt_lt
  have la := a.le_toInt
  have lb := b.le_toInt
  rcases hn with rfl | rfl <;> omega

/-- Settles O27: C, Z and the difference of S and V, after the comparison, are the three orders that the branches ask. -/
theorem branchesAfterCompareDecideOrder : Obligations.BranchesAfterCompareDecideOrder := by
  intro s t w d q disp hx a b target
  obtain ⟨u, hu, borrows, result, -⟩ := (comparisonsComplete s w .byte d q (.direct 0) 0).1
  obtain rfl : u = t := Host.Outcome.next.inj (hu.symm.trans hx)
  have below : u.psw.cy = true ↔ a.toNat < b.toNat := borrows.1
  have equal : u.psw.z = true ↔ a = b := result.zero_iff
  have less : (u.psw.s ^^ u.psw.v) = true ↔ a.toInt < b.toInt := borrows.signed_iff (width_bits_cases w) result
  have equalNat : a = b ↔ a.toNat = b.toNat := BitVec.toNat_eq
  have equalInt : a = b ↔ a.toInt = b.toInt := BitVec.toInt_inj.symm
  have bne : BranchesTo (.bne disp) u (if ¬ a = b then some target else none) :=
    .of_branchIf rfl (by rw [Bool.not_eq_true', ← equal, Bool.not_eq_true])
  rw [ite_not] at bne
  refine ⟨.of_branchIf rfl below, .of_branchIf rfl ?_, .of_branchIf rfl equal, bne, .of_branchIf rfl ?_,
    .of_branchIf rfl ?_, .of_branchIf rfl less, .of_branchIf rfl ?_, .of_branchIf rfl ?_, .of_branchIf rfl ?_⟩
  · rw [Bool.not_eq_true', ← Bool.not_eq_true, below, Nat.not_lt]
  · rw [Bool.or_eq_true, below, equal, equalNat, Nat.le_iff_lt_or_eq]
  · rw [Bool.not_eq_true', ← Bool.not_eq_true, Bool.or_eq_true, below, equal, equalNat, ← Nat.le_iff_lt_or_eq,
      Nat.not_le]
  · rw [Bool.not_eq_true', ← Bool.not_eq_true, less, Int.not_lt]
  · rw [Bool.or_eq_true, less, equal, equalInt, Int.le_iff_lt_or_eq]
  · rw [Bool.not_eq_true', ← Bool.not_eq_true, Bool.or_eq_true, less, equal, equalInt, ← Int.le_iff_lt_or_eq,
      Int.not_le]

/-- Settles O44: each pops its words or reads its pointer, then transfers control; `RET` skips no further bytes. -/
theorem returnsAndBranchesComplete : Obligations.ReturnsAndBranchesComplete := by
  refine ⟨fun s n => ?_, fun s disp off seg disp8 r m => ?_⟩
  · exact ⟨by rw [← BitVec.add_zero (s.sp + 2)]; rfl, rfl, by rw [← BitVec.add_zero (s.sp + 4)]; rfl, rfl⟩
  · exact ⟨rfl, rfl, rfl, rfl, rfl, rfl⟩

end Sys2Proof.Machine

end

section

/-! The stack in the words of the claims: words pushed one after another, the calls, and the eight registers moved to and
from the stack (46_control_transfer.md R521 to R525, R544, R554). -/

namespace Sys2Proof.Machine

/-- Words pushed: their stores, and SP below them. -/
theorem State.pushWords_spec (s : State) (vs : List Word) :
    let t := s.pushWords vs
    Stores s t (stackStores s.sp vs) ∧
      t = { s with sp := s.sp - BitVec.ofNat 16 (2 * vs.length), mem := t.mem, bus := t.bus } :=
  ⟨s.pushWords_stores vs, s.pushWords_eq vs⟩

/-- Settles O49: PUSH R pushes eight words, and POP R reads seven and goes past eight. -/
theorem registerSetMovesComplete : Obligations.RegisterSetMovesComplete := by
  intro s word
  exact ⟨⟨_, rfl, s.pushWords_spec [s.aw, s.cw, s.dw, s.bw, s.sp, s.bp, s.ix, s.iy]⟩, rfl⟩

/-- A push moves no memory operand. -/
theorem State.pushWords_operand (s : State) (vs : List Word) (m : MemOp) :
    (s.pushWords vs).memSeg m = s.memSeg m ∧ (s.pushWords vs).ea m = s.ea m := by
  rw [State.pushWords_eq]
  exact ⟨rfl, rfl⟩

/-- Where the pushes of a call overwrite its pointer, a byte of the pointer is a byte of a pushed word. -/
theorem State.pushOverlaps_iff (s : State) (m : MemOp) (n : Nat) :
    s.pushOverlaps m (2 * n) = true ↔
      ∃ j, j < 2 * n ∧ ∃ k, k < n ∧ ∃ b, b < 2 ∧
        byteAddr (s.memSeg m) (s.ea m) j = byteAddr s.ss (s.sp - BitVec.ofNat 16 (2 * (k + 1))) b := by
  simp only [State.pushOverlaps, List.any_eq_true, List.mem_range, beq_iff_eq]
  refine exists_congr fun j => and_congr_right fun _ => ⟨?_, ?_⟩
  · rintro ⟨k, hk, same⟩
    exact ⟨k / 2, by omega, k % 2, by omega, same⟩
  · rintro ⟨k, hk, b, hb, same⟩
    have word : (2 * k + b) / 2 = k := by omega
    have byte : (2 * k + b) % 2 = b := by omega
    exact ⟨2 * k + b, by omega, by rw [word, byte]; exact same⟩

/-- A call through memory reads its pointer after the pushes only where they overwrite it. -/
theorem State.pushOverlaps_of_readsPointerLast {s : State} {m : MemOp} {bytes : Nat}
    (h : ¬ s.readsPointerFirst m bytes = true) : s.pushOverlaps m bytes = true := by
  rw [State.readsPointerFirst, Bool.or_eq_true, not_or, Bool.not_eq_true', Bool.not_eq_false] at h
  obtain ⟨overlaps, -⟩ := h
  exact overlaps

/-- Settles O43: a call pushes its words and transfers control; a pointer is read first, or the pushes overwrite it. -/
theorem callsComplete : Obligations.CallsComplete := by
  intro s disp off seg r m pushed near pointer overwritten
  have pushes (u : State) (words : List Word) (hu : u.sp = s.sp) : pushed u (u.pushWords words) words := by
    have spec := u.pushWords_spec words
    rw [hu] at spec
    exact spec
  refine ⟨⟨_, rfl, s.pushWords [s.pc], _, pushes s _ rfl, rfl, rfl⟩,
    ⟨_, rfl, s.pushWords [s.pc], s.callTarget r, pushes s _ rfl, ⟨fun h => if_neg h, fun h => ?sp⟩, rfl⟩,
    ⟨_, rfl, s.pushWords [s.ps, s.pc], pushes s _ rfl, rfl⟩, ⟨_, rfl, ?near⟩, ⟨_, rfl, ?far⟩⟩
  case sp =>
    rw [State.callTarget, if_pos h]
    split
    · exact .inl rfl
    · exact .inr rfl
  case near =>
    by_cases first : s.readsPointerFirst m 2 = true
    · rw [State.callThrough, if_pos first]
      exact .inl ⟨(s.afterMem .word m).pushWords [s.pc], pushes _ _ rfl, rfl⟩
    · obtain ⟨seg, ea⟩ := s.pushWords_operand [s.pc] m
      rw [State.callThrough, if_neg first]
      refine .inr ⟨(s.pushOverlaps_iff m 1).mp (State.pushOverlaps_of_readsPointerLast first), s.pushWords [s.pc],
        pushes s _ rfl, ?_⟩
      unfold pointer
      rw [← seg, ← ea]
      rfl
  case far =>
    by_cases first : s.readsPointerFirst m 4 = true
    · rw [State.callFarThrough, if_pos first]
      exact .inl ⟨(s.afterPtr m).pushWords [s.ps, s.pc], pushes _ _ rfl, rfl⟩
    · obtain ⟨seg, ea⟩ := s.pushWords_operand [s.ps, s.pc] m
      rw [State.callFarThrough, if_neg first]
      refine .inr ⟨(s.pushOverlaps_iff m 2).mp (State.pushOverlaps_of_readsPointerLast first),
        s.pushWords [s.ps, s.pc], pushes s _ rfl, ?_⟩
      unfold pointer
      rw [← seg, ← ea]
      rfl

end Sys2Proof.Machine

end

section

/-! Stack frames (46_control_transfer.md R556, R557): the stores of pushed words in two parts, what memory reads after stores,
one copied frame pointer, any number of them, and PREPARE. -/

namespace Sys2Proof.Machine

/-- Words pushed in two parts: the second part lies below the first. -/
theorem stackStores_append (sp : Word) (xs ys : List Word) :
    stackStores sp (xs ++ ys) = stackStores sp xs ++ stackStores (sp - BitVec.ofNat 16 (2 * xs.length)) ys := by
  induction xs generalizing sp with
  | nil => exact congrArg (stackStores · ys) (BitVec.sub_zero sp).symm
  | cons x xs ih =>
    have below : sp - 2 - BitVec.ofNat 16 (2 * xs.length) = sp - BitVec.ofNat 16 (2 * (x :: xs).length) := by
      rw [List.length_cons]
      bv_omega
    rw [List.cons_append, stackStores, ih, below, stackStores, List.cons_append]

/-- A byte of RAM after stores reads as the last of them left it. -/
theorem StoresCells.readByte_ram {s t : State} {cells : List (Nat × Byte)} (h : StoresCells s t cells) {a : Nat}
    (ha : kindAt s.platform a = .ram) : t.readByte a = (storedAt cells a).getD (s.readByte a) := by
  cases stored : storedAt cells a with
  | none => exact h.frame a (by rw [ha]; exact RegionKind.noConfusion) stored
  | some v => exact h.stored a v stored ha

/-- The bytes of a word read are those of memory. -/
theorem State.extract_load (s : State) (seg off : Word) {b : Nat} (hb : b < 2) :
    (s.load .word seg off).extractLsb' (8 * b) 8 = s.readByte (byteAddr seg off b) := by
  match b, hb with
  | 0, _ => exact lowByte_append ..
  | 1, _ => exact highByte_append ..

/-- The record of the bus after two runs of cycles. -/
theorem busRecord_append (xs ys : List BusCycle) (record : List BusEvent) :
    ((xs ++ ys).map BusEvent.cycle).reverse ++ record =
      (ys.map BusEvent.cycle).reverse ++ ((xs.map BusEvent.cycle).reverse ++ record) := by
  rw [List.map_append, List.reverse_append, List.append_assoc]

/-- The read cycles of the `k`-th word that PREPARE copies, the one at `SS:BP - 2 (k + 1)`. -/
def State.frameRead (s : State) (k : Nat) (v : Word) : List BusCycle :=
  s.cyclesOf .memRead (some .ss) (byteAddr s.ss (s.bp - BitVec.ofNat 16 (2 * (k + 1)))) .word v

/-- The write cycles of the `k`-th word pushed. -/
def State.frameWrite (s : State) (k : Nat) (v : Word) : List BusCycle :=
  s.writeCycles .word .ss (s.sp - BitVec.ofNat 16 (2 * (k + 1))) v

/-- `u` is `s` after these words were pushed; what was read meanwhile, and BP, are left free. -/
structure PushesWords (s : State) (words : List Word) (u : State) : Prop where
  rest : u = { s with sp := s.sp - BitVec.ofNat 16 (2 * words.length), bp := u.bp, mem := u.mem, bus := u.bus }
  cells : StoresCells s u (s.cellsOfStores (stackStores s.sp words))

namespace PushesWords

theorem nil (s : State) : PushesWords s [] s where
  rest := congrArg (fun x => { s with sp := x }) (BitVec.sub_zero s.sp).symm
  cells := .nil s

variable {s u : State} {words : List Word}

theorem sp (h : PushesWords s words u) : u.sp = s.sp - BitVec.ofNat 16 (2 * words.length) := by rw [h.rest]

theorem ss (h : PushesWords s words u) : u.ss = s.ss := by rw [h.rest]

theorem platform (h : PushesWords s words u) : u.platform = s.platform := by rw [h.rest]

/-- What the bus shows of a cycle is as before. -/
theorem cyclesOf (h : PushesWords s words u) (kind : CycleKind) (g : Option SReg) (addr : Nat → Nat) (v : Word) :
    u.cyclesOf kind g addr .word v = s.cyclesOf kind g addr .word v := by
  rw [h.rest]
  rfl

/-- BP changed and a word read. -/
theorem read (h : PushesWords s words u) (x off : Word) :
    PushesWords s words ({ u with bp := x }.afterLoad .word .ss off) where
  rest := by rw [h.rest]; rfl
  cells := h.cells.congr rfl rfl rfl rfl h.platform

/-- One more word pushed. -/
theorem push (h : PushesWords s words u) (v : Word) : PushesWords s (words ++ [v]) (u.push16 v) where
  rest := by
    have below : u.sp - 2 = s.sp - BitVec.ofNat 16 (2 * (words ++ [v]).length) := by
      rw [h.sp, List.length_append, List.length_singleton]
      bv_omega
    rw [State.push16_eq, below, h.rest]
  cells := by
    have last : u.cellsOfStores (stackStores u.sp [v]) =
        s.cellsOfStores (stackStores (s.sp - BitVec.ofNat 16 (2 * words.length)) [v]) := by
      rw [State.stackStores_cells h.ss, h.sp]
    have stored := h.cells.trans (u.push16_stores v).memory h.platform
    rw [show u.cellsOfStores [⟨.word, .ss, u.sp - 2, v⟩] = _ from last] at stored
    rw [stackStores_append, State.cellsOfStores, List.flatMap_append]
    exact stored

/-- What the bus sees of one more word pushed. -/
theorem push_bus (h : PushesWords s words u) (v : Word) :
    (u.push16 v).bus = ((s.frameWrite words.length v).map BusEvent.cycle).reverse ++ u.bus := by
  have below : u.sp - 2 = s.sp - BitVec.ofNat 16 (2 * (words.length + 1)) := by
    rw [h.sp]
    bv_omega
  rw [(u.push16_stores v).onBus, State.cyclesOfStores, List.flatMap_singleton, below, State.writeCycles, h.cyclesOf,
    show u.readSreg .ss = s.readSreg .ss from h.ss]
  rfl

/-- SP and BP written at the end. -/
theorem setFrame (h : PushesWords s words u) (x y : Word) :
    let t := { u with bp := x, sp := y }
    SameWordsBut [.ahSp, .chBp] s t ∧ t.psw = s.psw ∧ SameRest s t ∧
      StoresCells s t (s.cellsOfStores (stackStores s.sp words)) := by
  refine ⟨fun r hr => ?_, by rw [h.rest], by rw [h.rest]; rfl, h.cells.congr rfl rfl rfl rfl h.platform⟩
  simp only [List.mem_cons, List.not_mem_nil, or_false, not_or] at hr
  obtain ⟨notSp, notBp⟩ := hr
  rw [h.rest]
  cases r with
  | ahSp => exact absurd rfl notSp
  | chBp => exact absurd rfl notBp
  | _ => rfl

end PushesWords

/-- `u` is `s` after PREPARE has pushed BP and then copied these words, each as memory held it after the pushes before it. -/
structure CopiesFrames (s : State) (copied : List Word) (u : State) : Prop where
  pushes : PushesWords s (s.bp :: copied) u
  bp : u.bp = s.bp - BitVec.ofNat 16 (2 * copied.length)
  onBus : u.bus =
    ((s.frameWrite 0 s.bp ++ copied.zipIdx.flatMap fun p => s.frameRead p.2 p.1 ++ s.frameWrite (p.2 + 1) p.1).map
      BusEvent.cycle).reverse ++ s.bus
  reads : ∀ (k : Nat) (v : Word), copied[k]? = some v → ∀ b, b < 2 →
    let a := byteAddr s.ss (s.bp - BitVec.ofNat 16 (2 * (k + 1))) b
    let before := s.cellsOfStores (stackStores s.sp (s.bp :: copied.take k))
    (kindAt s.platform a = .ram → v.extractLsb' (8 * b) 8 = (storedAt before a).getD (s.readByte a)) ∧
      (kindAt s.platform a = .rom → v.extractLsb' (8 * b) 8 = s.readByte a)

/-- The word that the next copy reads. -/
def State.nextFrame (s : State) : Word := s.load .word s.ss (s.bp - 2)

/-- One copy: BP goes down by two, and the word there is read and pushed. -/
def State.copyFrame (s : State) : State :=
  ({ s with bp := s.bp - 2 }.afterLoad .word .ss (s.bp - 2)).push16 s.nextFrame

/-- The copies one after another, the last one apart. -/
theorem State.copyFrames_succ (n : Nat) (s : State) : State.copyFrames (n + 1) s = (State.copyFrames n s).copyFrame := by
  induction n generalizing s with
  | zero => rfl
  | succ n ih => exact ih s.copyFrame

namespace CopiesFrames

/-- BP pushed, and nothing copied. -/
theorem nil (s : State) : CopiesFrames s [] (s.push16 s.bp) where
  pushes := (PushesWords.nil s).push s.bp
  bp := (State.push16_bp ..).trans (BitVec.sub_zero s.bp).symm
  onBus := by
    rw [(PushesWords.nil s).push_bus, List.zipIdx_nil, List.flatMap_nil, List.append_nil]
    rfl
  reads := nofun

variable {s u : State} {copied : List Word}

/-- Where the next copy reads. -/
theorem nextOffset (h : CopiesFrames s copied u) : u.bp - 2 = s.bp - BitVec.ofNat 16 (2 * (copied.length + 1)) := by
  rw [h.bp]
  bv_omega

/-- The bytes of the next word: as the pushes left them in RAM, and as before in ROM. -/
theorem nextFrame (h : CopiesFrames s copied u) {b : Nat} (hb : b < 2) :
    let a := byteAddr s.ss (s.bp - BitVec.ofNat 16 (2 * (copied.length + 1))) b
    let before := s.cellsOfStores (stackStores s.sp (s.bp :: copied))
    (kindAt s.platform a = .ram → u.nextFrame.extractLsb' (8 * b) 8 = (storedAt before a).getD (s.readByte a)) ∧
      (kindAt s.platform a = .rom → u.nextFrame.extractLsb' (8 * b) 8 = s.readByte a) := by
  intro a before
  have byte : u.nextFrame.extractLsb' (8 * b) 8 = u.readByte a := by
    rw [State.nextFrame, u.extract_load _ _ hb, h.pushes.ss, h.nextOffset]
  rw [byte]
  exact ⟨h.pushes.cells.readByte_ram, h.pushes.cells.kept a⟩

/-- What the bus sees of the next copy. -/
theorem copyFrame_bus (h : CopiesFrames s copied u) :
    u.copyFrame.bus =
      ((s.frameRead copied.length u.nextFrame ++ s.frameWrite (copied.length + 1) u.nextFrame).map
        BusEvent.cycle).reverse ++ u.bus := by
  have cycles : { u with bp := u.bp - 2 }.readCycles .word .ss (u.bp - 2) = s.frameRead copied.length u.nextFrame := by
    have asRead : { u with bp := u.bp - 2 }.readCycles .word .ss (u.bp - 2) =
      u.cyclesOf .memRead (some .ss) (byteAddr u.ss (u.bp - 2)) .word u.nextFrame := rfl
    rw [asRead, h.pushes.cyclesOf, h.pushes.ss, h.nextOffset, State.frameRead]
  rw [State.copyFrame, (h.pushes.read (u.bp - 2) (u.bp - 2)).push_bus, State.afterLoad_bus, cycles, busRecord_append,
    List.length_cons]

/-- One more copy. -/
theorem snoc (h : CopiesFrames s copied u) : CopiesFrames s (copied ++ [u.nextFrame]) u.copyFrame where
  pushes := (h.pushes.read (u.bp - 2) (u.bp - 2)).push u.nextFrame
  bp := by
    rw [List.length_append, List.length_singleton, ← h.nextOffset]
    exact State.push16_bp ..
  onBus := by
    rw [h.copyFrame_bus, h.onBus, ← busRecord_append, List.append_assoc, List.zipIdx_append, List.flatMap_append,
      List.zipIdx_singleton, List.flatMap_singleton, Nat.zero_add]
  reads k v hv b hb := by
    rcases Nat.lt_trichotomy k copied.length with below | rfl | above
    · rw [List.getElem?_append_left below] at hv
      rw [List.take_append_of_le_length (Nat.le_of_lt below)]
      exact h.reads k v hv b hb
    · rw [List.getElem?_concat_length] at hv
      rw [← Option.some.inj hv, List.take_left]
      exact h.nextFrame hb
    · rw [List.getElem?_eq_none (by rw [List.length_append, List.length_singleton]; exact above)] at hv
      exact nomatch hv

/-- The copies of PREPARE, for some words. -/
theorem copyFrames (s : State) (n : Nat) :
    ∃ copied : List Word, copied.length = n ∧ CopiesFrames s copied (State.copyFrames n (s.push16 s.bp)) := by
  induction n with
  | zero => exact ⟨[], rfl, .nil s⟩
  | succ n ih =>
    obtain ⟨copied, length, copies⟩ := ih
    rw [State.copyFrames_succ]
    exact ⟨_, by rw [List.length_append, length, List.length_singleton], copies.snoc⟩

/-- The new frame pointer pushed after the copies, if the depth `n` is above 0. -/
theorem last (h : CopiesFrames s copied u) {n : Nat} (hn : copied.length = n - 1) :
    let w := if n = 0 then u else u.push16 (s.sp - 2)
    PushesWords s (if n = 0 then [s.bp] else s.bp :: copied ++ [s.sp - 2]) w ∧
      w.sp = s.sp - 2 - BitVec.ofNat 16 (2 * n) ∧
      w.bus = ((s.frameWrite 0 s.bp ++
          (copied.zipIdx.flatMap fun p => s.frameRead p.2 p.1 ++ s.frameWrite (p.2 + 1) p.1) ++
          if n = 0 then [] else s.frameWrite n (s.sp - 2)).map BusEvent.cycle).reverse ++ s.bus := by
  intro w
  cases n with
  | zero =>
    obtain rfl : copied = [] := List.eq_nil_of_length_eq_zero hn
    refine ⟨h.pushes, h.pushes.sp.trans (BitVec.sub_zero _).symm, ?_⟩
    rw [if_pos rfl, List.append_nil]
    exact h.onBus
  | succ n =>
    obtain rfl : copied.length = n := hn
    have pushed := h.pushes.push (s.sp - 2)
    have lowered : s.sp - BitVec.ofNat 16 (2 * (copied.length + 1 + 1)) =
        s.sp - 2 - BitVec.ofNat 16 (2 * (copied.length + 1)) := by bv_omega
    refine ⟨pushed, ?_, ?_⟩
    · rw [← lowered, show w.sp = _ from pushed.sp, List.length_append, List.length_cons, List.length_singleton]
    · rw [show w.bus = _ from h.pushes.push_bus (s.sp - 2), h.onBus, if_neg (Nat.succ_ne_zero _),
        busRecord_append _ (s.frameWrite _ _), List.length_cons]

end CopiesFrames

/-- PREPARE: the copies after BP, the new frame pointer if the depth is above 0, then BP and SP. -/
theorem State.prepareFrame_eq (s : State) (size : Word) (n : Nat) :
    s.prepareFrame size n =
      let u := State.copyFrames (n - 1) (s.push16 s.bp)
      let w := if n = 0 then u else u.push16 (s.sp - 2)
      { w with bp := s.sp - 2, sp := w.sp - size } := by
  rw [← State.push16_sp s s.bp]
  cases n <;> rfl

/-- One word popped. -/
theorem State.popWords_one (s : State) : s.popWords 1 = { s.afterLoad .word .ss s.sp with sp := s.sp + 2 } := by
  have word : [0].flatMap (fun k => s.readCycles .word .ss (s.sp + BitVec.ofNat 16 (2 * k))) =
      s.readCycles .word .ss s.sp := by
    rw [List.flatMap_singleton, Nat.mul_zero, BitVec.add_zero]
  exact congrArg (fun cycles => { s.recordCycles cycles with sp := s.sp + 2 }) word

/-- The word on top of the stack. -/
theorem State.stackWord_zero (s : State) : s.stackWord 0 = s.load .word s.ss s.sp :=
  congrArg (s.load .word s.ss) (BitVec.add_zero s.sp)

/-- DISPOSE: a word popped at BP, which goes to BP. -/
theorem State.disposeFrame_eq (s : State) :
    s.disposeFrame = { s.afterLoad .word .ss s.bp with sp := s.bp + 2, bp := s.load .word s.ss s.bp } := by
  rw [State.disposeFrame, State.popWords_one, State.stackWord_zero]
  rfl

/-- Settles O50, by the copies that PREPARE makes after it has pushed BP, and the pop of DISPOSE. -/
theorem stackFramesComplete : Obligations.StackFramesComplete := by
  intro s size depth n source read write
  obtain ⟨copied, length, copies⟩ := CopiesFrames.copyFrames s (n - 1)
  obtain ⟨pushes, sp, onBus⟩ := copies.last length
  obtain ⟨words, psw, rest, cells⟩ := pushes.setFrame (s.sp - 2) (s.sp - 2 - BitVec.ofNat 16 (2 * n) - size)
  have prepared := s.prepareFrame_eq size n
  simp only [sp] at prepared
  exact ⟨⟨_, congrArg Host.Outcome.next prepared, copied, length, rfl, rfl, words, psw, rest, cells, onBus,
      copies.reads⟩, congrArg Host.Outcome.next s.disposeFrame_eq⟩

end Sys2Proof.Machine

end

section

/-! The break instructions, the returns from an interrupt and the CPU control instructions (47_break_cpu_control.md R601
to R605, R616 to R625; 48_emulation_mode.md R661). -/

namespace Sys2Proof.Machine

/-- CHKIND with the index below the first bound or above the second. -/
theorem State.checkIndex_outside {s : State} {index : Word} {bounds : Word × Word}
    (h : index.toInt < bounds.1.toInt ∨ bounds.2.toInt < index.toInt) :
    s.checkIndex index bounds = s.enterInterrupt 5 s.pc := by
  rw [← BitVec.slt_iff_toInt_lt, ← BitVec.slt_iff_toInt_lt, ← Bool.or_eq_true] at h
  exact if_pos h

/-- CHKIND with the index at or between the bounds. -/
theorem State.checkIndex_inside {s : State} {index : Word} {bounds : Word × Word}
    (low : bounds.1.toInt ≤ index.toInt) (high : index.toInt ≤ bounds.2.toInt) : s.checkIndex index bounds = s := by
  refine if_neg ?_
  rw [Bool.or_eq_true, BitVec.slt_iff_toInt_lt, BitVec.slt_iff_toInt_lt, not_or, Int.not_lt, Int.not_lt]
  exact ⟨low, high⟩

/-- Settles O52: every break is the one interrupt entry; BRKV and CHKIND make it where their condition holds. -/
theorem breakInstructionsEnterTheirVectors : Obligations.BreakInstructionsEnterTheirVectors := by
  intro s imm r m bound
  refine ⟨⟨_, rfl, s.enterInterrupt_enters 3 s.pc⟩, ⟨_, rfl, s.enterInterrupt_enters imm s.pc⟩,
    fun set => ?brkv, fun clear => ?brkvClear, fun outside => ?chkind, fun low high => ?chkindInside⟩
  case brkv => exact ⟨_, congrArg Host.Outcome.next (if_pos set), s.enterInterrupt_enters 4 s.pc⟩
  case brkvClear => exact congrArg Host.Outcome.next (if_neg (ne_true_of_eq_false clear))
  case chkind =>
    exact ⟨_, congrArg Host.Outcome.next (State.checkIndex_outside outside),
      (s.afterPtr m).enterInterrupt_enters 5 s.pc⟩
  case chkindInside => exact congrArg Host.Outcome.next (State.checkIndex_inside low high)

/-- The frame of an interrupt popped: three words read, SP past them, the flags loaded from the third, and control
to the first two. -/
theorem State.popFrame_eq (s : State) (flags : State → Word → State) :
    s.popFrame flags =
      { flags { s.afterStack [0, 1, 2] with sp := s.sp + 6 } (s.load .word s.ss (s.sp + 4)) with
        ps := s.load .word s.ss (s.sp + 2) }.transferredTo (s.load .word s.ss (s.sp + 0)) := rfl

/-- Settles O53: both returns pop one frame, and differ in how the flags are loaded and in the write enable of MD. -/
theorem returnsFromInterruptComplete : Obligations.ReturnsFromInterruptComplete := by
  intro s word
  have native : s.returnFromInterrupt = _ := s.popFrame_eq State.loadPsw
  have emulation : s.returnFromEmulation = _ :=
    congrArg (fun t : State => { t with mdwe := false }) (s.popFrame_eq fun t x => { t with psw := Psw.ofImage x })
  exact ⟨congrArg Host.Outcome.next native, congrArg Host.Outcome.next emulation⟩

/-- Settles O60: each instruction is its one update of the state, and POLL looks at its pin. -/
theorem cpuControlInstructionsComplete : Obligations.CpuControlInstructionsComplete := by
  intro s x y z b m
  refine ⟨rfl, fun low => ?pollEnds, fun high => ?pollWaits, rfl, rfl, rfl, rfl, rfl, rfl, rfl⟩
  case pollEnds => exact congrArg Host.Outcome.next (if_pos low)
  case pollWaits => exact congrArg Host.Outcome.next (if_neg (ne_true_of_eq_false high))

end Sys2Proof.Machine

end

section

/-! Interrupt entry and return (60_exceptions.md R684, R697), and the mode calls (48_emulation_mode.md R660, R662). -/

namespace Sys2Proof.Machine

/-- Settles O51: the entry is three words pushed, the PSW changed and the jump to the vector. -/
theorem interruptEntrySequence : Obligations.InterruptEntrySequence :=
  fun s vector ret => s.enterInterrupt_enters vector ret

/-- IE and BRK after a mode call, by the one constant that decides for both. -/
theorem Psw.afterModeCall_eq (p : Psw) :
    p.afterModeCall =
      { p with
        ie := if Config.brkemClearsIeBrk then false else p.ie
        brk := if Config.brkemClearsIeBrk then false else p.brk } := by
  rw [Psw.afterModeCall]
  cases Config.brkemClearsIeBrk <;> simp

/-- What an entry through a vector changes: SP, the PSW, the write enable of MD, PS, PC and the prefetch state, memory
and the records. -/
theorem EntersWith.frame {s t : State} {n : Byte} {ret : Word} {psw : Psw} {mdwe : Bool}
    (h : EntersWith s t n ret psw mdwe) :
    t = { s with
      sp := s.sp - 6, psw := psw, mdwe := mdwe, ps := t.ps, pc := t.pc, pfp := t.pfp, queue := [], seen := []
      mem := t.mem, bus := t.bus, fetchLog := t.fetchLog } := by
  obtain ⟨u, -, pushed, jumped⟩ := h
  rw [jumped, pushed]
  rfl

/-- An entry through a vector leaves the registers of the μPD8080AF. -/
theorem EntersWith.registers8080 {s t : State} {n : Byte} {ret : Word} {psw : Psw} {mdwe : Bool}
    (h : EntersWith s t n ret psw mdwe) :
    t.readReg8080 .a = s.readReg8 .alAw ∧ (∀ r, t.readReg8080 r = s.readReg8080 r) ∧ t.sp8080 = s.bp := by
  rw [h.frame]
  exact ⟨rfl, fun r => by cases r <;> rfl, rfl⟩

/-- The state that a mode call reaches, with MD and its write enable as given: an entry that pushes the offset of the next
instruction. -/
theorem State.modeCall_enters (s : State) (n : Byte) (md mdwe : Bool) :
    EntersWith s
      ({ s.pushFrame s.pc with psw := { (s.pushFrame s.pc).psw.afterModeCall with md := md }, mdwe := mdwe }.toVector n)
      n s.pc
      { s.psw with
        md := md
        ie := if Config.brkemClearsIeBrk then false else s.psw.ie
        brk := if Config.brkemClearsIeBrk then false else s.psw.brk } mdwe := by
  have entered := s.entersWith n s.pc { s.psw.afterModeCall with md := md } mdwe
  rw [State.pushFrame_psw]
  rw [Psw.afterModeCall_eq] at entered ⊢
  exact entered

/-- CALLN leaves the write enable of MD. -/
theorem State.callNative_eq (s : State) (n : Byte) :
    s.callNative n =
      { s.pushFrame s.pc with
        psw := { (s.pushFrame s.pc).psw.afterModeCall with md := true }
        mdwe := s.mdwe }.toVector n := by
  rw [State.callNative, ← State.pushFrame_mdwe s s.pc]

/-- Settles O55: both calls are entries, with one free constant for IE and BRK, and an entry leaves those registers. -/
theorem modeCallsComplete : Obligations.ModeCallsComplete := by
  refine ⟨Config.brkemClearsIeBrk, ?_⟩
  intro s imm enters
  refine ⟨fun disabled => ?brkem, fun enabled => if_pos enabled, ?calln⟩
  case brkem =>
    have entered := s.modeCall_enters imm false true
    exact ⟨_, if_neg (ne_true_of_eq_false disabled), entered, entered.registers8080⟩
  case calln =>
    have entered := s.modeCall_enters imm true s.mdwe
    exact ⟨_, congrArg Host.Outcome.next (s.callNative_eq imm), entered, entered.registers8080⟩

/-- Byte `b` of an operand counted from the segment's base: on past offset FFFFH, or from offset 0000H again. -/
theorem byteAddr_cases (seg off : Word) (b : Nat) :
    byteAddr seg off b = (seg.toNat * 16 + (off.toNat + b)) % 2 ^ 20 ∨
      2 ^ 16 ≤ off.toNat + b ∧ byteAddr seg off b = (seg.toNat * 16 + (off.toNat + b - 2 ^ 16)) % 2 ^ 20 := by
  unfold byteAddr
  rw [Nat.add_assoc]
  split
  · exact .inl rfl
  · rename_i outside
    split
    · exact .inr ⟨Nat.le_of_not_lt outside, rfl⟩
    · exact .inl rfl

/-- Words two bytes or more apart in a segment share no address. -/
theorem byteAddr_ne_of_apart {seg x y : Word} {b c : Nat} (hb : b < 2) (hc : c < 2) (above : 2 ≤ (x - y).toNat)
    (below : (x - y).toNat ≤ 2 ^ 16 - 2) : byteAddr seg x b ≠ byteAddr seg y c := by
  have hx := x.isLt
  have hy := y.isLt
  rw [BitVec.toNat_sub] at above below
  rcases byteAddr_cases seg x b with atX | ⟨pastX, atX⟩ <;>
    rcases byteAddr_cases seg y c with atY | ⟨pastY, atY⟩ <;> rw [atX, atY] <;> omega

/-- The word at an offset of a segment lies in RAM. -/
def State.WordInRam (s : State) (seg off : Word) : Prop :=
  ∀ b, b < 2 → kindAt s.platform (byteAddr seg off b) = .ram

/-- A word is its two bytes. -/
theorem State.load_word_congr {s t : State} {seg off : Word}
    (h : ∀ b, b < 2 → t.readByte (byteAddr seg off b) = s.readByte (byteAddr seg off b)) :
    t.load .word seg off = s.load .word seg off := by
  rw [State.load_word, State.load_word, ← byteAddr_zero, h 1 (by decide), h 0 (by decide)]

namespace State.WordInRam

variable {s t : State} {off : Word}

/-- A word in RAM is in memory, whatever the bus has seen. -/
theorem load_congr {seg : Word} (h : s.WordInRam seg off) (hm : t.mem = s.mem) (hp : t.platform = s.platform) :
    t.load .word seg off = s.load .word seg off :=
  State.load_word_congr fun b hb => State.readByte_congr_of_ne hm hp (by rw [h b hb]; exact RegionKind.noConfusion)

/-- A push leaves in RAM what lay there. -/
theorem push16 {seg : Word} (h : s.WordInRam seg off) (v : Word) : (s.push16 v).WordInRam seg off := by
  rw [State.WordInRam, State.push16_platform]
  exact h

variable {seg top : Word}

/-- A word pushed reads back. -/
theorem load_push16 (h : s.WordInRam seg top) (hseg : s.ss = seg) (htop : s.sp - 2 = top) (v : Word) :
    (s.push16 v).load .word seg top = v := by
  subst hseg htop
  exact State.load_store (s := { s with sp := s.sp - 2 }) (w := .word) (g := .ss) (off := s.sp - 2) v
    (h 0 (by decide)) (h 1 (by decide))

/-- A push leaves the words above it. -/
theorem load_push16_above (h : s.WordInRam seg off) (hseg : s.ss = seg) (htop : s.sp - 2 = top)
    (above : 2 ≤ (off - top).toNat) (below : (off - top).toNat ≤ 2 ^ 16 - 2) (v : Word) :
    (s.push16 v).load .word seg off = s.load .word seg off := by
  subst hseg htop
  refine State.load_word_congr fun b hb => ?_
  refine (s.push16_stores v).memory.frame _ (by rw [h b hb]; exact RegionKind.noConfusion) (storedAt_eq_none ?_)
  have apart {c : Nat} (hc : c < 2) := byteAddr_ne_of_apart (seg := s.ss) hb hc above below
  simpa [State.cellsOfStores, cellsOf] using ⟨apart (c := 0) (by decide), apart (c := 1) (by decide)⟩

end State.WordInRam

/-- The three words of the frame of an entry, read back. -/
theorem State.load_pushFrame {s : State} (ret : Word) (image : s.WordInRam s.ss (s.sp - 2))
    (segment : s.WordInRam s.ss (s.sp - 4)) (offset : s.WordInRam s.ss (s.sp - 6)) :
    (s.pushFrame ret).load .word s.ss (s.sp - 2) = s.psw.image ∧ (s.pushFrame ret).load .word s.ss (s.sp - 4) = s.ps ∧
      (s.pushFrame ret).load .word s.ss (s.sp - 6) = ret := by
  let one := s.push16 s.psw.image
  let two := one.push16 s.ps
  have ssOne : one.ss = s.ss := s.push16_ss _
  have ssTwo : two.ss = s.ss := (one.push16_ss _).trans ssOne
  have spOne : one.sp - 2 = s.sp - 4 := by rw [s.push16_sp]; bv_omega
  have spTwo : two.sp - 2 = s.sp - 6 := by rw [one.push16_sp, spOne]; bv_omega
  refine ⟨?_, ?_, ?_⟩
  · calc (two.push16 ret).load .word s.ss (s.sp - 2)
        = two.load .word s.ss (s.sp - 2) :=
          ((image.push16 _).push16 _).load_push16_above ssTwo spTwo (by bv_omega) (by bv_omega) ret
      _ = one.load .word s.ss (s.sp - 2) :=
          (image.push16 _).load_push16_above ssOne spOne (by bv_omega) (by bv_omega) s.ps
      _ = s.psw.image := image.load_push16 rfl rfl s.psw.image
  · calc (two.push16 ret).load .word s.ss (s.sp - 4)
        = two.load .word s.ss (s.sp - 4) :=
          ((segment.push16 _).push16 _).load_push16_above ssTwo spTwo (by bv_omega) (by bv_omega) ret
      _ = s.ps := (segment.push16 _).load_push16 ssOne spOne s.ps
  · exact ((offset.push16 _).push16 _).load_push16 ssTwo spTwo ret

/-- RETI loads the flags of an image, MD too where it was set or is write-enabled. -/
theorem State.loadPsw_image {s t : State} (native : t.psw.md = true) (hw : t.mdwe = s.mdwe)
    (h : s.psw.md = true ∨ s.mdwe = true) : (t.loadPsw s.psw.image).psw = s.psw := by
  rw [State.loadPsw, Psw.ofImage_image, native, hw]
  cases enabled : s.mdwe with
  | true => rfl
  | false =>
    have md : s.psw.md = true := h.resolve_right (ne_true_of_eq_false enabled)
    exact congrArg (fun md => { s.psw with md := md }) md.symm

/-- The words that RETI pops after an entry. -/
theorem State.load_enterInterrupt {s : State} (n : Byte) (ret : Word) (image : s.WordInRam s.ss (s.sp - 2))
    (segment : s.WordInRam s.ss (s.sp - 4)) (offset : s.WordInRam s.ss (s.sp - 6)) :
    let t := s.enterInterrupt n ret
    t.load .word t.ss (t.sp + 4) = s.psw.image ∧ t.load .word t.ss (t.sp + 2) = s.ps ∧
      t.load .word t.ss (t.sp + 0) = ret := by
  intro t
  obtain ⟨loadImage, loadSegment, loadOffset⟩ := State.load_pushFrame ret image segment offset
  have kept {off : Word} (h : s.WordInRam s.ss off) :
      t.load .word s.ss off = (s.pushFrame ret).load .word s.ss off :=
    (((h.push16 _).push16 _).push16 _).load_congr (s.enterInterrupt_mem n ret)
      ((s.enterInterrupt_platform n ret).trans (s.pushFrame_platform ret).symm)
  have above4 : t.sp + 4 = s.sp - 2 := by rw [s.enterInterrupt_sp]; bv_omega
  have above2 : t.sp + 2 = s.sp - 4 := by rw [s.enterInterrupt_sp]; bv_omega
  have above0 : t.sp + 0 = s.sp - 6 := by rw [s.enterInterrupt_sp]; bv_omega
  rw [s.enterInterrupt_ss, above4, above2, above0, kept image, kept segment, kept offset]
  exact ⟨loadImage, loadSegment, loadOffset⟩

/-- What RETI changes: SP, the PSW, PS, PC and the prefetch state, and the records. -/
theorem State.returnFromInterrupt_frame (s : State) :
    s.returnFromInterrupt = { s with
      sp := s.sp + 6, psw := (s.loadPsw (s.load .word s.ss (s.sp + 4))).psw, ps := s.load .word s.ss (s.sp + 2)
      pc := s.load .word s.ss (s.sp + 0), pfp := s.load .word s.ss (s.sp + 0), queue := [], seen := []
      bus := s.returnFromInterrupt.bus, fetchLog := s.returnFromInterrupt.fetchLog } := by
  rw [State.returnFromInterrupt, State.popFrame_eq]
  rfl

/-- Settles O54: the three words of the frame read back, so RETI pops what the entry pushed. -/
theorem returnUndoesInterruptEntry : Obligations.ReturnUndoesInterruptEntry := by
  intro s vector ret hmd ram
  obtain ⟨image, segment, offset⟩ := State.load_enterInterrupt vector ret (fun b hb => ram 0 (by decide) b hb)
    (fun b hb => ram 1 (by decide) b hb) (fun b hb => ram 2 (by decide) b hb)
  have entered := (s.enterInterrupt_enters vector ret).frame
  have psw := State.loadPsw_image (t := s.enterInterrupt vector ret) (by rw [s.enterInterrupt_psw])
    (s.enterInterrupt_mdwe vector ret) hmd
  refine ⟨_, rfl, ?_⟩
  generalize s.enterInterrupt vector ret = e at *
  have returned := e.returnFromInterrupt_frame
  have sp : e.sp + 6 = s.sp := by rw [entered]; exact BitVec.sub_add_cancel ..
  rw [image, segment, offset, psw, sp] at returned
  generalize e.returnFromInterrupt = t at *
  rw [returned, entered]
  rfl

end Sys2Proof.Machine

end

section

/-! Native decoding never answers the two instructions of emulation mode (30_encoding.md R131): each form of the opcode
map answers native instructions only. -/

namespace Sys2Proof

/-- The instructions of native mode: all but RETEM and CALLN. -/
def Instr.isNative : Instr → Bool
  | .retem => false
  | .calln _ => false
  | _ => true

/-- The form answers instructions of native mode only. -/
def Form.Native (f : Form) : Prop := ∀ bs i n, f bs = .ok (i, n) → i.isNative = true

/-- Counting further bytes leaves the instruction. -/
theorem Decoded.of_longer {k n : Nat} {d : Decoded} {i : Instr} (h : d.longer k = .ok (i, n)) :
    ∃ m, d = .ok (i, m) := by
  cases d with
  | error e => cases h
  | ok x =>
    obtain ⟨j, m⟩ := x
    cases h
    exact ⟨m, rfl⟩

/-- An entry of a list, or the default where there is none. -/
theorem getD_of_forall_mem {α : Type} {P : α → Prop} {xs : List α} {d : α} (h : ∀ x ∈ xs, P x) (hd : P d) (k : Nat) :
    P (xs.getD k d) := by
  rw [List.getD_eq_getElem?_getD]
  cases found : xs[k]? with
  | none => exact hd
  | some x => exact h x (List.mem_of_getElem? found)

namespace Form.Native

theorem refuse {e : DecodeError} : (refuse e).Native := by
  rintro _ _ _ ⟨⟩

theorem one {i : Instr} (h : i.isNative = true) : (one i).Native := by
  rintro _ _ _ ⟨⟩
  exact h

theorem withByte {f : Byte → Instr} (h : ∀ b, (f b).isNative = true) : (withByte f).Native := by
  rintro _ _ _ ⟨⟩
  exact h _

theorem withWord {f : Word → Instr} (h : ∀ x, (f x).isNative = true) : (withWord f).Native := by
  rintro _ _ _ ⟨⟩
  exact h _

theorem withFar {f : Word → Word → Instr} (h : ∀ x y, (f x y).isNative = true) : (withFar f).Native := by
  rintro _ _ _ ⟨⟩
  exact h _ _

theorem withImm {w : Width} {f : Word → Instr} (h : ∀ x, (f x).isNative = true) : (withImm w f).Native := by
  cases w <;> (rintro _ _ _ ⟨⟩; exact h _)

theorem withSized {z : ImmSize} {f : Word → Instr} (h : ∀ x, (f x).isNative = true) : (withSized z f).Native := by
  cases z <;> (rintro _ _ _ ⟨⟩; exact h _)

theorem prepareForm : prepareForm.Native := by
  rintro _ _ _ ⟨⟩
  rfl

theorem with0AH {i : Instr} (h : i.isNative = true) : (with0AH i).Native := by
  intro bs j n hj
  unfold Sys2Proof.with0AH at hj
  split at hj
  · cases hj
    exact h
  · cases hj

theorem withRm {k : BitVec 3 → Operand → Form} (h : ∀ field o, (k field o).Native) : (withRm k).Native := by
  intro bs i n hi
  obtain ⟨m, hm⟩ := Decoded.of_longer hi
  exact h _ _ _ _ _ hm

/-- A register or a memory operand, whatever bits 5-3 are. -/
theorem withRm_cases {k : BitVec 3 → Operand → Form} (onReg : ∀ field r, (k field (.reg r)).Native)
    (onMem : ∀ field m, (k field (.mem m)).Native) : (Sys2Proof.withRm k).Native :=
  withRm fun field o =>
    match o with
    | .reg r => onReg field r
    | .mem m => onMem field m

theorem regRm {onReg : Reg → Reg → Instr} {onMem : Reg → MemOp → Instr} (hr : ∀ d q, (onReg d q).isNative = true)
    (hm : ∀ r m, (onMem r m).isNative = true) : (regRm onReg onMem).Native :=
  withRm_cases (fun _ _ => one (hr _ _)) (fun _ _ => one (hm _ _))

theorem regMem {onMem : Reg → MemOp → Instr} (hm : ∀ r m, (onMem r m).isNative = true) : (regMem onMem).Native :=
  withRm_cases (fun _ _ => refuse) (fun _ _ => one (hm _ _))

theorem withRm0 {onReg : Reg → Form} {onMem : MemOp → Form} (hr : ∀ r, (onReg r).Native)
    (hm : ∀ m, (onMem m).Native) : (withRm0 onReg onMem).Native := by
  refine withRm fun field o => ?_
  split
  · exact hr _
  · exact hm _
  · exact refuse

theorem bitForm {onReg : Reg → Instr} {onMem : MemOp → Instr} (hr : ∀ r, (onReg r).isNative = true)
    (hm : ∀ m, (onMem m).isNative = true) : (bitForm onReg onMem).Native :=
  withRm0 (fun r => one (hr r)) (fun m => one (hm m))

theorem bitImmForm {onReg : Reg → Byte → Instr} {onMem : MemOp → Byte → Instr}
    (hr : ∀ r b, (onReg r b).isNative = true) (hm : ∀ m b, (onMem m b).isNative = true) :
    (bitImmForm onReg onMem).Native :=
  withRm0 (fun r => withByte (hr r)) (fun m => withByte (hm m))

theorem bitFieldReg {f : Reg → Reg → Instr} (h : ∀ d q, (f d q).isNative = true) : (bitFieldReg f).Native :=
  withRm_cases (fun _ _ => one (h _ _)) (fun _ _ => refuse)

theorem bitFieldImm {f : Reg → Byte → Instr} (h : ∀ d b, (f d b).isNative = true) : (bitFieldImm f).Native :=
  withRm0 (fun d => withByte (h d)) (fun _ => refuse)

theorem mulImm16 : mulImm16.Native := withRm_cases (fun _ _ => withWord fun _ => rfl) (fun _ _ => withWord fun _ => rfl)

theorem mulImm8 : mulImm8.Native := withRm_cases (fun _ _ => withByte fun _ => rfl) (fun _ _ => withByte fun _ => rfl)

theorem fpo1Form {x : BitVec 3} : (fpo1Form x).Native := withRm_cases (fun _ _ => one rfl) (fun _ _ => one rfl)

theorem fpo2Form {x : BitVec 1} : (fpo2Form x).Native := withRm_cases (fun _ _ => one rfl) (fun _ _ => one rfl)

theorem moveFromSreg : moveFromSreg.Native := by
  refine withRm fun field o => ?_
  split
  · exact refuse
  · split <;> exact one rfl

theorem moveToSreg : moveToSreg.Native := by
  refine withRm fun field o => ?_
  split
  · exact refuse
  · split
    · exact refuse
    · split <;> exact one rfl

theorem logical {z : ImmSize} {f : Width → Word → Instr} (h : ∀ w x, (f w x).isNative = true) :
    (immediateGroup.logical z f).Native := by
  cases z with
  | byte => exact withImm (w := .byte) (h .byte)
  | word => exact withImm (w := .word) (h .word)
  | byteS | wordS => exact refuse

theorem immediateGroup {z : ImmSize} : (immediateGroup z).Native := by
  refine withRm fun field o => ?_
  split
  case h_3 | h_4 | h_9 | h_10 | h_13 | h_14 => exact logical fun _ _ => rfl
  all_goals exact withSized fun _ => rfl

theorem shiftOneGroup {w : Width} : (shiftOneGroup w).Native := by
  refine withRm fun field o => ?_
  split
  case h_15 => exact refuse
  all_goals exact one rfl

theorem shiftClGroup {w : Width} : (shiftClGroup w).Native := by
  refine withRm fun field o => ?_
  split
  case h_15 => exact refuse
  all_goals exact one rfl

theorem shiftImmGroup {w : Width} : (shiftImmGroup w).Native := by
  refine withRm fun field o => ?_
  split
  case h_15 => exact refuse
  all_goals exact withByte fun _ => rfl

theorem groupF6 : groupF6.Native := by
  refine withRm fun field o => ?_
  split
  case h_1 | h_2 => exact withImm fun _ => rfl
  case h_15 => exact refuse
  all_goals exact one rfl

theorem groupF7 : groupF7.Native := by
  refine withRm fun field o => ?_
  split
  case h_1 | h_2 => exact withImm fun _ => rfl
  case h_15 => exact refuse
  all_goals exact one rfl

theorem groupFE : groupFE.Native := by
  refine withRm fun field o => ?_
  split
  case h_5 => exact refuse
  all_goals exact one rfl

theorem groupFF : groupFF.Native := by
  refine withRm fun field o => ?_
  split
  case h_7 | h_11 | h_15 => exact refuse
  all_goals exact one rfl

theorem extendedForm (b : Byte) : (extendedForm b).Native := by
  unfold Sys2Proof.extendedForm
  split
  case h_9 | h_10 | h_11 | h_12 | h_13 | h_14 | h_15 | h_16 => exact bitImmForm (fun _ _ => rfl) (fun _ _ => rfl)
  case h_17 | h_18 | h_19 => exact one rfl
  case h_22 | h_23 => exact bitFieldReg fun _ _ => rfl
  case h_24 | h_25 => exact bitFieldImm fun _ _ => rfl
  case h_26 => exact withByte fun _ => rfl
  case h_27 => exact refuse
  all_goals exact bitForm (fun _ => rfl) (fun _ => rfl)

theorem extendedGroup : extendedGroup.Native := by
  intro bs i n hi
  obtain ⟨m, hm⟩ := Decoded.of_longer hi
  exact extendedForm _ _ _ _ hm

/-- A row of the opcode map, or a part of one. -/
def Row (row : List Form) : Prop := ∀ f ∈ row, f.Native

theorem Row.nil : Row [] := List.forall_mem_nil _

theorem Row.cons {f : Form} {row : List Form} (h : f.Native) (hrow : Row row) : Row (f :: row) :=
  List.forall_mem_cons.mpr ⟨h, hrow⟩

theorem twoOperand {a c : Width → Reg → Reg → Instr} {b : Width → MemOp → Reg → Instr}
    {d : Width → Reg → MemOp → Instr} {e : Width → Word → Instr}
    (ha : ∀ w r q, (a w r q).isNative = true := by intros; rfl)
    (hb : ∀ w m r, (b w m r).isNative = true := by intros; rfl)
    (hc : ∀ w r q, (c w r q).isNative = true := by intros; rfl)
    (hd : ∀ w r m, (d w r m).isNative = true := by intros; rfl)
    (he : ∀ w x, (e w x).isNative = true := by intros; rfl) : Row (twoOperand a b c d e) :=
  .cons (regRm (fun _ _ => ha _ _ _) (fun _ _ => hb _ _ _)) <|
  .cons (regRm (fun _ _ => ha _ _ _) (fun _ _ => hb _ _ _)) <|
  .cons (regRm (hc _) (hd _)) <| .cons (regRm (hc _) (hd _)) <|
  .cons (withImm (he _)) <| .cons (withImm (he _)) .nil

theorem Row.append {xs ys : List Form} (hx : Row xs) (hy : Row ys) : Row (xs ++ ys) :=
  List.forall_mem_append.mpr ⟨hx, hy⟩

/-- A row of two operations, each followed by two further forms. -/
theorem Row.twoOperations {xs ys : List Form} {a b c d : Form} (hx : Row xs) (ha : a.Native) (hb : b.Native)
    (hy : Row ys) (hc : c.Native) (hd : d.Native) : Row (xs ++ [a, b] ++ ys ++ [c, d]) :=
  ((hx.append (.cons ha (.cons hb .nil))).append hy).append (.cons hc (.cons hd .nil))

theorem opcodes00 : Row opcodes00 :=
  .twoOperations twoOperand (one rfl) (one rfl) twoOperand (one rfl) extendedGroup

theorem opcodes10 : Row opcodes10 :=
  .twoOperations twoOperand (one rfl) (one rfl) twoOperand (one rfl) (one rfl)

theorem opcodes20 : Row opcodes20 :=
  .twoOperations twoOperand (one rfl) (one rfl) twoOperand (one rfl) (one rfl)

theorem opcodes30 : Row opcodes30 :=
  .twoOperations twoOperand (one rfl) (one rfl) twoOperand (one rfl) (one rfl)

theorem opcodes40 : Row opcodes40 := by
  iterate 16 refine .cons (one rfl) ?_
  exact .nil

theorem opcodes50 : Row opcodes50 := by
  iterate 16 refine .cons (one rfl) ?_
  exact .nil

theorem opcodes60 : Row opcodes60 := by
  iterate 2 refine .cons (one rfl) ?_
  refine .cons (regMem fun _ _ => rfl) ?_
  refine .cons refuse ?_
  iterate 2 refine .cons (one rfl) ?_
  iterate 2 refine .cons fpo2Form ?_
  refine .cons (withWord fun _ => rfl) ?_
  refine .cons mulImm16 ?_
  refine .cons (withByte fun _ => rfl) ?_
  refine .cons mulImm8 ?_
  iterate 4 refine .cons (one rfl) ?_
  exact .nil

theorem opcodes70 : Row opcodes70 := by
  iterate 16 refine .cons (withByte fun _ => rfl) ?_
  exact .nil

theorem opcodes80 : Row opcodes80 := by
  iterate 4 refine .cons immediateGroup ?_
  iterate 8 refine .cons (regRm (fun _ _ => rfl) (fun _ _ => rfl)) ?_
  refine .cons moveFromSreg ?_
  refine .cons (regMem fun _ _ => rfl) ?_
  refine .cons moveToSreg ?_
  refine .cons (withRm0 (fun _ => one rfl) (fun _ => one rfl)) ?_
  exact .nil

theorem opcodes90 : Row opcodes90 := by
  iterate 10 refine .cons (one rfl) ?_
  refine .cons (withFar fun _ _ => rfl) ?_
  iterate 5 refine .cons (one rfl) ?_
  exact .nil

theorem opcodesA0 : Row opcodesA0 := by
  iterate 4 refine .cons (withWord fun _ => rfl) ?_
  iterate 4 refine .cons (one rfl) ?_
  iterate 2 refine .cons (withImm fun _ => rfl) ?_
  iterate 6 refine .cons (one rfl) ?_
  exact .nil

theorem opcodesB0 : Row opcodesB0 := by
  iterate 16 refine .cons (withImm fun _ => rfl) ?_
  exact .nil

theorem opcodesC0 : Row opcodesC0 := by
  iterate 2 refine .cons shiftImmGroup ?_
  refine .cons (withWord fun _ => rfl) ?_
  refine .cons (one rfl) ?_
  iterate 2 refine .cons (regMem fun _ _ => rfl) ?_
  iterate 2 refine .cons (withRm0 (fun _ => withImm fun _ => rfl) (fun _ => withImm fun _ => rfl)) ?_
  refine .cons prepareForm ?_
  refine .cons (one rfl) ?_
  refine .cons (withWord fun _ => rfl) ?_
  iterate 2 refine .cons (one rfl) ?_
  refine .cons (withByte fun _ => rfl) ?_
  iterate 2 refine .cons (one rfl) ?_
  exact .nil

theorem opcodesD0 : Row opcodesD0 := by
  iterate 2 refine .cons shiftOneGroup ?_
  iterate 2 refine .cons shiftClGroup ?_
  iterate 2 refine .cons (with0AH rfl) ?_
  refine .cons refuse ?_
  refine .cons (one rfl) ?_
  iterate 8 refine .cons fpo1Form ?_
  exact .nil

theorem opcodesE0 : Row opcodesE0 := by
  iterate 8 refine .cons (withByte fun _ => rfl) ?_
  iterate 2 refine .cons (withWord fun _ => rfl) ?_
  refine .cons (withFar fun _ _ => rfl) ?_
  refine .cons (withByte fun _ => rfl) ?_
  iterate 4 refine .cons (one rfl) ?_
  exact .nil

theorem opcodesF0 : Row opcodesF0 := by
  refine .cons (one rfl) ?_
  refine .cons refuse ?_
  iterate 4 refine .cons (one rfl) ?_
  refine .cons groupF6 ?_
  refine .cons groupF7 ?_
  iterate 6 refine .cons (one rfl) ?_
  refine .cons groupFE ?_
  refine .cons groupFF ?_
  exact .nil

/-- Every row of the opcode map. -/
theorem opcodeMap : ∀ row ∈ opcodeMap, Row row := by
  simp only [Sys2Proof.opcodeMap, List.forall_mem_cons]
  exact ⟨opcodes00, opcodes10, opcodes20, opcodes30, opcodes40, opcodes50, opcodes60, opcodes70, opcodes80, opcodes90,
    opcodesA0, opcodesB0, opcodesC0, opcodesD0, opcodesE0, opcodesF0, List.forall_mem_nil _⟩

theorem opcodeForm (b : Byte) : (opcodeForm b).Native :=
  getD_of_forall_mem (getD_of_forall_mem opcodeMap Row.nil _) refuse _

end Form.Native

/-- What native decoding answers is an instruction of native mode. -/
theorem isNative_of_decode {bs : List Byte} {i : Instr} {n : Nat} (h : decode bs = .ok (i, n)) : i.isNative = true := by
  obtain ⟨m, hm⟩ := Decoded.of_longer h
  exact Form.Native.opcodeForm _ _ _ _ hm

/-- What decoding answers in emulation mode is one of the two others. -/
theorem eq_of_decodeEmulation {bs : List Byte} {i : Instr} {n : Nat} (h : decodeEmulation bs = .ok (i, n)) :
    i = .retem ∨ ∃ v, i = .calln v := by
  unfold decodeEmulation at h
  split at h
  · cases h
    exact .inl rfl
  · split at h
    · cases h
      exact .inr ⟨_, rfl⟩
    · cases h

end Sys2Proof

end

section

/-! The mode (48_emulation_mode.md R656, R658): what each meaning, the end of a step and the step leave of MD and its
write enable. -/

namespace Sys2Proof.Machine

/-- MD is set where `native` says so, and is write-enabled only where `enabled` says so. -/
structure State.InMode (native enabled : Bool) (s : State) : Prop where
  md : native = true → s.psw.md = true
  mdwe : s.mdwe = true → enabled = true

/-- Every state is in its own mode. -/
theorem State.inMode_self (s : State) : s.InMode s.psw.md s.mdwe := ⟨id, id⟩

namespace State.InMode

variable {native enabled : Bool} {s t : State}

/-- A change of other fields. -/
theorem same (h : s.InMode native enabled) (hmd : t.psw.md = s.psw.md := by rfl) (hw : t.mdwe = s.mdwe := by rfl) :
    t.InMode native enabled :=
  ⟨fun hn => hmd.trans (h.md hn), fun he => h.mdwe (hw.symm.trans he)⟩

/-- A change that leaves the PSW. -/
theorem samePsw (h : s.InMode native enabled) (hp : t.psw = s.psw) (hw : t.mdwe = s.mdwe) : t.InMode native enabled :=
  h.same (congrArg Psw.md hp) hw

/-- A change of registers, memory and the flags that are no control flags. -/
theorem sameRest (h : s.InMode native enabled) (hr : SameRest s t) (hc : SameControlFlags s.psw t.psw) :
    t.InMode native enabled := by
  obtain ⟨md, -⟩ := hc
  exact h.same md (by rw [hr])

/-- An entry through a vector. -/
theorem entersWith {n : Byte} {ret : Word} {psw : Psw} {mdwe : Bool} (he : EntersWith s t n ret psw mdwe)
    (hmd : native = true → psw.md = true) (hw : mdwe = true → enabled = true) : t.InMode native enabled := by
  rw [he.frame]
  exact ⟨hmd, hw⟩

/-- An interrupt entry. -/
theorem enters (h : s.InMode native enabled) {n : Byte} {ret : Word} (he : Enters s t n ret) :
    t.InMode native enabled :=
  entersWith he (fun _ => rfl) h.mdwe

theorem enterInterrupt (h : s.InMode native enabled) {n : Byte} {ret : Word} :
    (s.enterInterrupt n ret).InMode native enabled := h.enters (s.enterInterrupt_enters n ret)

theorem callNative (h : s.InMode native enabled) {n : Byte} : (s.callNative n).InMode native enabled := by
  rw [State.callNative_eq]
  exact entersWith (s.modeCall_enters n true s.mdwe) (fun _ => rfl) h.mdwe

/-- The flags loaded from an image, where MD is not write-enabled. -/
theorem loadPsw (h : s.InMode native enabled) (hw : enabled = false) {x : Word} :
    (s.loadPsw x).InMode native enabled := by
  have disabled : s.mdwe = false := Bool.eq_false_iff.mpr fun he => by rw [h.mdwe he] at hw; cases hw
  refine h.same ?_
  rw [State.loadPsw, disabled]
  rfl

theorem returnFromInterrupt (h : s.InMode native enabled) (hw : enabled = false) :
    s.returnFromInterrupt.InMode native enabled := by
  rw [State.returnFromInterrupt_frame]
  exact (h.loadPsw hw).same

theorem writeReg (h : s.InMode native enabled) {w : Width} {r : Reg} {v : Val w} :
    (s.writeReg w r v).InMode native enabled := h.samePsw (by simp) (by simp)

theorem writeReg8 (h : s.InMode native enabled) {r : Reg} {v : Byte} : (s.writeReg8 r v).InMode native enabled :=
  h.writeReg (w := .byte)

theorem writeReg16 (h : s.InMode native enabled) {r : Reg} {v : Word} : (s.writeReg16 r v).InMode native enabled :=
  h.writeReg (w := .word)

theorem writeSreg (h : s.InMode native enabled) {g : SReg} {v : Word} : (s.writeSreg g v).InMode native enabled :=
  h.samePsw (by simp) (by simp)

theorem store (h : s.InMode native enabled) {w : Width} {g : SReg} {off : Word} {v : Val w} :
    (s.store w g off v).InMode native enabled := h.samePsw (by simp) (by simp)

theorem push16 (h : s.InMode native enabled) {v : Word} : (s.push16 v).InMode native enabled :=
  h.samePsw (by simp) (by simp)

theorem writePc (h : s.InMode native enabled) {x : Word} : (s.writePc x).InMode native enabled := h.same

theorem farTransfer (h : s.InMode native enabled) {x : Word × Word} : (s.farTransfer x).InMode native enabled := h.same

theorem openWindow (h : s.InMode native enabled) {w : Window} : (s.openWindow w).InMode native enabled := h.same

theorem setStatus (h : s.InMode native enabled) {f : Status} : (s.setStatus f).InMode native enabled := h.same

theorem afterOperand (h : s.InMode native enabled) {w : Width} {o : Operand} :
    (s.afterOperand w o).InMode native enabled := h.samePsw (by simp) (by simp)

/-- An operand read and written back. -/
theorem rewrite (h : s.InMode native enabled) {w : Width} {o : Operand} {v : Val w} :
    ((s.afterOperand w o).writeOperand w o v).InMode native enabled := h.samePsw (by simp) (by simp)

/-- An operand read and written back, with flags. -/
theorem modify (h : s.InMode native enabled) {w : Width} {o : Operand} {v : Val w} {f : Status} :
    (((s.afterOperand w o).writeOperand w o v).setStatus f).InMode native enabled := h.rewrite.setStatus

/-- An operand read for its flags. -/
theorem test (h : s.InMode native enabled) {w : Width} {o : Operand} {f : Status} :
    ((s.afterOperand w o).setStatus f).InMode native enabled := h.afterOperand.setStatus

theorem branchIf (h : s.InMode native enabled) {c : Bool} {d : Byte} : (s.branchIf c d).InMode native enabled :=
  h.samePsw (by simp) (by simp)

theorem insertField (h : s.InMode native enabled) {d : Reg} {o l : BitVec 4} :
    (s.insertField d o l).InMode native enabled := by
  obtain ⟨_, _, _, _, _, _, _, _, _, _, _, _, control, rest⟩ := s.insertField_spec d o l
  exact h.sameRest rest control

theorem extractField (h : s.InMode native enabled) {d : Reg} {o l : BitVec 4} :
    (s.extractField d o l).InMode native enabled := by
  obtain ⟨_, _, _, _, _, _, _, _, _, _, _, control, _, rest⟩ := s.extractField_spec d o l
  exact h.sameRest rest control

theorem bcdString (h : s.InMode native enabled) {op : BcdOp} : (s.bcdString op).InMode native enabled := by
  obtain ⟨_, _, _, rest, _, flags⟩ := s.bcdString_spec op
  exact h.sameRest rest (by rw [flags]; exact ⟨rfl, rfl, rfl, rfl⟩)

theorem rotateNibbleReg (h : s.InMode native enabled) {k : NibbleRotate} {r : Reg} :
    (s.rotateNibbleReg k r).InMode native enabled := by
  obtain ⟨_, _, _, _, psw, rest⟩ := s.rotateNibbleReg_spec k r
  exact h.samePsw psw (by rw [rest])

theorem rotateNibbleMem (h : s.InMode native enabled) {k : NibbleRotate} {m : MemOp} :
    (s.rotateNibbleMem k m).InMode native enabled := by
  obtain ⟨_, _, _, psw, rest⟩ := s.rotateNibbleMem_spec k m
  exact h.samePsw psw (by rw [rest])

/-- A product, or a quotient that fits, with its flags. -/
theorem setQuotient (h : s.InMode native enabled) {w : Width} {q r : Val w} {f : Status} :
    ((s.setQuotient w q r).setStatus f).InMode native enabled := by
  obtain ⟨_, _, psw, _, _, rest⟩ := s.setQuotient_spec w q r f
  exact h.same (by rw [psw]; rfl) (by rw [rest])

theorem mulUnsigned (h : s.InMode native enabled) {w : Width} {v : Val w} :
    (s.mulUnsigned w v).InMode native enabled := by
  rw [State.mulUnsigned_eq]
  exact h.setQuotient

theorem mulSigned (h : s.InMode native enabled) {w : Width} {v : Val w} : (s.mulSigned w v).InMode native enabled := by
  obtain ⟨_, _, product⟩ := s.mulSigned_eq w v
  rw [product]
  exact h.setQuotient

theorem divideError (h : s.InMode native enabled) {w : Width} : (s.divideError w).InMode native enabled := by
  obtain ⟨q, r, error⟩ := s.divideError_eq w
  rw [error]
  exact h.setQuotient.enterInterrupt

theorem divUnsigned (h : s.InMode native enabled) {w : Width} {v : Val w} :
    (s.divUnsigned w v).InMode native enabled := by
  rcases s.divUnsigned_cases w v with ⟨_, e⟩ | ⟨_, _, e⟩ <;> rw [e]
  · exact h.divideError
  · exact h.setQuotient

theorem divSigned (h : s.InMode native enabled) {w : Width} {v : Val w} : (s.divSigned w v).InMode native enabled := by
  unfold State.divSigned
  dsimp only
  split
  · exact h.divideError
  · exact h.setQuotient

theorem callThrough (h : s.InMode native enabled) {m : MemOp} : (s.callThrough m).InMode native enabled := by
  have read {u : State} (hu : u.InMode native enabled) : (u.afterMem .word m).InMode native enabled := hu.same
  unfold State.callThrough
  split
  · exact (read h).push16.writePc
  · exact (read h.push16).writePc

theorem callFarThrough (h : s.InMode native enabled) {m : MemOp} : (s.callFarThrough m).InMode native enabled := by
  have read {u : State} (hu : u.InMode native enabled) : (u.afterPtr m).InMode native enabled := hu.same
  unfold State.callFarThrough
  dsimp only
  split
  · exact (read h).push16.push16.farTransfer
  · exact (read h.push16.push16).farTransfer

theorem popReg (h : s.InMode native enabled) {r : Reg} : (s.popReg r).InMode native enabled := by
  unfold State.popReg
  split
  · exact h.same
  · exact writeReg16 h.same

theorem prepareFrame (h : s.InMode native enabled) {size : Word} {n : Nat} :
    (s.prepareFrame size n).InMode native enabled := by
  obtain ⟨copied, length, copies⟩ := CopiesFrames.copyFrames s (n - 1)
  obtain ⟨⟨rest, -⟩, -⟩ := copies.last length
  rw [State.prepareFrame_eq]
  dsimp only
  generalize (if n = 0 then _ else _ : State) = w at rest ⊢
  have pushed : w.InMode native enabled := h.samePsw (by rw [rest]) (by rw [rest])
  exact pushed.same

theorem checkIndex (h : s.InMode native enabled) {x : Word} {b : Word × Word} :
    (s.checkIndex x b).InMode native enabled := by
  unfold State.checkIndex
  split
  · exact h.enterInterrupt
  · exact h

theorem breakOnOverflow (h : s.InMode native enabled) :
    (if s.psw.v then s.enterInterrupt 4 s.pc else s).InMode native enabled := by
  split
  · exact h.enterInterrupt
  · exact h

/-- RETEM leaves MD not write-enabled. -/
theorem returnFromEmulation (hn : native = false) : s.returnFromEmulation.InMode native enabled :=
  ⟨fun set => absurd (hn.symm.trans set) Bool.false_ne_true, fun set => absurd set Bool.false_ne_true⟩

theorem poll (h : s.InMode native enabled) :
    (if s.pins.pollLow then s else { s with inProgress := some .poll }).InMode native enabled := by
  split
  · exact h
  · exact h.same

/-- One pass of a block instruction. -/
theorem repeatElement {i : Instr} {k : BlockKind} {element : State → State} (h : s.InMode native enabled)
    (he : (element s).InMode native enabled) : (s.repeatElement i k element).InMode native enabled := by
  rcases s.repeatElement_cases i k element with
    ⟨_, e⟩ | ⟨_, _, _, e⟩ | ⟨_, _, _, ⟨_, e⟩ | ⟨_, e⟩⟩ <;> rw [e]
  · exact he
  · exact h
  · exact he.same
  · exact he.same

theorem moveElement (h : s.InMode native enabled) {w : Width} : (s.moveElement w).InMode native enabled := by
  obtain ⟨_, _, _, _, psw, rest⟩ := s.moveElement_spec w
  exact h.samePsw psw (by rw [rest])

theorem compareElement (h : s.InMode native enabled) {w : Width} : (s.compareElement w).InMode native enabled := by
  obtain ⟨_, _, control, _, _, _, _, rest⟩ := s.compareElement_spec w
  exact h.sameRest rest control

theorem scanElement (h : s.InMode native enabled) {w : Width} : (s.scanElement w).InMode native enabled := by
  obtain ⟨_, _, control, _, _, _, rest⟩ := s.scanElement_spec w
  exact h.sameRest rest control

theorem loadElement (h : s.InMode native enabled) {w : Width} : (s.loadElement w).InMode native enabled := by
  obtain ⟨_, _, _, _, _, psw, rest⟩ := s.loadElement_spec w
  exact h.samePsw psw (by rw [rest])

/-- An element stored at DS1:IY after reads that only the bus shows. -/
theorem storeDest_advanceIy (h : s.InMode native enabled) {w : Width} {cs : List BusCycle} {v : Val w} :
    (((s.recordCycles cs).storeDest w v).advanceIy w).InMode native enabled := by
  obtain ⟨_, _, _, psw, rest⟩ := s.storeDest_advanceIy_spec w cs v
  exact h.samePsw psw (by rw [rest])

/-- A prefix byte. -/
theorem prefixed (h : s.InMode native enabled) (hp : s.Prefixed t) : t.InMode native enabled := by
  rw [hp.same]
  exact h.same

/-- The state that an answer holds. -/
theorem of_next {u : State} (hx : Host.Outcome.next (φ := Fault) (ρ := Refusal) u = .next t)
    (h : u.InMode native enabled) : t.InMode native enabled := Host.Outcome.next.inj hx ▸ h

end State.InMode

/-- Every meaning leaves the mode, but that of BRKEM, those of RETI and POP PSW while MD is write-enabled, and that of
RETEM, which native mode does not have. -/
theorem exec_inMode {native enabled : Bool} {i : Instr} {s t : State} (hbrkem : ∀ v, i ≠ .brkem v)
    (hload : i = .reti ∨ i = .popPsw → enabled = false) (hretem : i = .retem → native = false)
    (hs : s.InMode native enabled) (hx : exec i s = .next t) : t.InMode native enabled := by
  cases i with
  | addRegReg | addMemReg | addRegImm | addMemImm | addAccImm | addcRegReg | addcMemReg | addcRegImm
  | addcMemImm | addcAccImm | subRegReg | subMemReg | subRegImm | subMemImm | subAccImm | subcRegReg
  | subcMemReg | subcRegImm | subcMemImm | subcAccImm | incReg8 | incMem | incReg16 | decReg8 | decMem
  | decReg16 | negReg | negMem | andRegReg | andMemReg | andRegImm | andMemImm | andAccImm | orRegReg
  | orMemReg | orRegImm | orMemImm | orAccImm | xorRegReg | xorMemReg | xorRegImm | xorMemImm | xorAccImm
  | shlReg1 | shlMem1 | shlRegCl | shlMemCl | shlRegImm8 | shlMemImm8 | shrReg1 | shrMem1 | shrRegCl | shrMemCl
  | shrRegImm8 | shrMemImm8 | shraReg1 | shraMem1 | shraRegCl | shraMemCl | shraRegImm8 | shraMemImm8 | rolReg1
  | rolMem1 | rolRegCl | rolMemCl | rolRegImm8 | rolMemImm8 | rorReg1 | rorMem1 | rorRegCl | rorMemCl
  | rorRegImm8 | rorMemImm8 | rolcReg1 | rolcMem1 | rolcRegCl | rolcMemCl | rolcRegImm8 | rolcMemImm8
  | rorcReg1 | rorcMem1 | rorcRegCl | rorcMemCl | rorcRegImm8 | rorcMemImm8 | addRegRegD0 | orRegRegD0
  | addcRegRegD0 | subcRegRegD0 | andRegRegD0 | subRegRegD0 | xorRegRegD0 | incReg16Two | decReg16Two =>
    exact .of_next hx hs.modify
  | addRegMem | addcRegMem | subRegMem | subcRegMem | andRegMem | orRegMem | xorRegMem =>
    exact .of_next hx hs.same.modify
  | cmpRegReg | cmpMemReg | cmpRegImm | cmpMemImm | cmpAccImm | testRegReg | testMemReg | testRegImm
  | testMemImm | testAccImm | test1Reg8Cl | test1Mem8Cl | test1Reg16Cl | test1Mem16Cl | test1Reg8Imm3
  | test1Mem8Imm3 | test1Reg16Imm4 | test1Mem16Imm4 | cmpRegRegD0 => exact .of_next hx hs.test
  | cmpRegMem => exact .of_next hx hs.same.test
  | notReg | notMem | not1Reg8Cl | not1Mem8Cl | not1Reg16Cl | not1Mem16Cl | not1Reg8Imm3 | not1Mem8Imm3
  | not1Reg16Imm4 | not1Mem16Imm4 | clr1Reg8Cl | clr1Mem8Cl | clr1Reg16Cl | clr1Mem16Cl | clr1Reg8Imm3
  | clr1Mem8Imm3 | clr1Reg16Imm4 | clr1Mem16Imm4 | set1Reg8Cl | set1Mem8Cl | set1Reg16Cl | set1Mem16Cl
  | set1Reg8Imm3 | set1Mem8Imm3 | set1Reg16Imm4 | set1Mem16Imm4 => exact .of_next hx hs.rewrite
  | movRegReg | movRegImm | movAhPsw | ldeaReg16Mem16 | cvtbw | cvtwl | movRegRegD0 | movRegImmC6 =>
    exact .of_next hx hs.writeReg
  | movRegMem | movAccDmem | trans | inAccImm8 | inAccDw => exact .of_next hx hs.same.writeReg
  | movDs0Reg16Mem32 | movDs1Reg16Mem32 => exact .of_next hx hs.same.writeReg.writeSreg
  | xchRegReg | xchAwReg16 => exact .of_next hx hs.writeReg.writeReg
  | xchMemReg => exact .of_next hx hs.same.store.writeReg
  | movReg16Sreg => exact .of_next hx hs.writeReg.openWindow
  | movSregReg16 => exact .of_next hx hs.writeSreg.openWindow
  | movSregMem16 | popSreg => exact .of_next hx hs.same.writeSreg.openWindow
  | movMemReg | movMemImm | movDmemAcc => exact .of_next hx hs.store
  | movMem16Sreg => exact .of_next hx hs.store.openWindow
  | popMem16 => exact .of_next hx hs.same.store
  | insReg8Reg8 | insReg8Imm4 => exact .of_next hx hs.insertField
  | extReg8Reg8 | extReg8Imm4 => exact .of_next hx hs.extractField
  | add4s | sub4s | cmp4s => exact .of_next hx hs.bcdString
  | rol4Reg8 | ror4Reg8 => exact .of_next hx hs.rotateNibbleReg
  | rol4Mem8 | ror4Mem8 => exact .of_next hx hs.rotateNibbleMem
  | muluReg8 | muluReg16 => exact .of_next hx hs.mulUnsigned
  | muluMem8 | muluMem16 => exact .of_next hx hs.same.mulUnsigned
  | mulReg8 | mulReg16 => exact .of_next hx hs.mulSigned
  | mulMem8 | mulMem16 => exact .of_next hx hs.same.mulSigned
  | mulReg16Reg16Imm8 | mulReg16Reg16Imm16 => exact .of_next hx hs.writeReg16.setStatus
  | mulReg16Mem16Imm8 | mulReg16Mem16Imm16 => exact .of_next hx hs.same.writeReg16.setStatus
  | divuReg8 | divuReg16 => exact .of_next hx hs.divUnsigned
  | divuMem8 | divuMem16 => exact .of_next hx hs.same.divUnsigned
  | divReg8 | divReg16 => exact .of_next hx hs.divSigned
  | divMem8 | divMem16 => exact .of_next hx hs.same.divSigned
  | adj4a | adj4s => exact .of_next hx hs.writeReg8.setStatus
  | nop => exact .of_next hx hs
  | pushReg16 | pushSreg | pushImm8 | pushImm16 | pushPsw | pushReg16Two => exact .of_next hx hs.push16
  | pushMem16 => exact .of_next hx hs.same.push16
  | pushR => exact .of_next hx hs.push16.push16.push16.push16.push16.push16.push16.push16
  | popReg16 | popReg16Two => exact .of_next hx hs.popReg
  | prepare => exact .of_next hx hs.prepareFrame
  | callNear | callRegptr16 => exact .of_next hx hs.push16.writePc
  | callFar => exact .of_next hx hs.push16.push16.farTransfer
  | callMemptr16 => exact .of_next hx hs.callThrough
  | callMemptr32 => exact .of_next hx hs.callFarThrough
  | brShort | bv | bnv | bc | bnc | be | bne | bnh | bh | bpe | bpo | bn | bp | blt | bge | ble | bgt | bcwz =>
    exact .of_next hx hs.branchIf
  | dbnzne | dbnze | dbnz => exact .of_next hx (State.InMode.same hs).branchIf
  | movPswAh | outImm8Acc | outDwAcc | adjba | adjbs | cvtbd | cvtdb | not1Cy | clr1Cy | set1Cy | clr1Dir
  | set1Dir | popR | dispose | halt | di | ei | fpo1 | fpo1Mem | fpo2 | fpo2Mem | retNear | retNearPop | retFar
  | retFarPop | brNear | brRegptr16 | brMemptr16 | brFar | brMemptr32 => exact .of_next hx hs.same
  | brk3 | brkImm8 => exact .of_next hx hs.enterInterrupt
  | brkv => exact .of_next hx hs.breakOnOverflow
  | chkind => exact .of_next hx hs.same.checkIndex
  | reti => exact .of_next hx (hs.returnFromInterrupt (hload (.inl rfl)))
  | popPsw => exact .of_next hx (State.InMode.loadPsw hs.same (hload (.inr rfl)))
  | brkem v => exact absurd rfl (hbrkem v)
  | retem => exact .of_next hx (.returnFromEmulation (hretem rfl))
  | calln => exact .of_next hx hs.callNative
  | repc | repnc | rep | repne | buslock | ds1Prefix | psPrefix | ssPrefix | ds0Prefix =>
    exact hs.prefixed (exec_prefix rfl hx)
  | movbk => exact .of_next hx (hs.repeatElement hs.moveElement)
  | cmpbk => exact .of_next hx (hs.repeatElement hs.compareElement)
  | cmpm => exact .of_next hx (hs.repeatElement hs.scanElement)
  | ldm => exact .of_next hx (hs.repeatElement hs.loadElement)
  | stm => exact .of_next hx (hs.repeatElement (hs.storeDest_advanceIy (cs := [])))
  | inm => exact .of_next hx (hs.repeatElement hs.storeDest_advanceIy)
  | outm => exact .of_next hx (hs.repeatElement hs.same)
  | poll => exact .of_next hx hs.poll

/-! The end of a step. -/

namespace State.InMode

variable {native enabled : Bool} {s : State}

theorem takeInterrupt (h : s.InMode native enabled) {n : Byte} {ret : Word} :
    (s.takeInterrupt n ret).InMode native enabled := by
  have entered := h.enterInterrupt (n := n) (ret := ret)
  rw [State.takeInterrupt_eq]
  exact entered.same

theorem takeExternal (h : s.InMode native enabled) {w : Window} {ret : Word} :
    (s.takeExternal w ret).InMode native enabled := by
  rcases s.takeExternal_cases w ret with ⟨_, e⟩ | ⟨_, _, _, e⟩ | ⟨_, _, e⟩ <;> rw [e]
  · exact takeInterrupt h.same
  · exact takeInterrupt h.same
  · exact h

theorem takeSingleStep (h : s.InMode native enabled) : s.takeSingleStep.InMode native enabled := by
  unfold State.takeSingleStep
  split
  · exact takeInterrupt h.same
  · exact h

theorem boundary (h : s.InMode native enabled) : s.boundary.InMode native enabled := by
  have closed : s.closeInstruction.InMode native enabled := h.same
  unfold State.boundary
  split
  · exact closed
  · exact closed.takeExternal.takeSingleStep

theorem loopBoundary (h : s.InMode native enabled) : s.loopBoundary.InMode native enabled := by
  have closed : State.InMode native enabled { s with prefixes := Prefixes.none } := h.same
  have taken := closed.takeExternal (w := .none) (ret := s.loopReturn)
  unfold State.loopBoundary
  split
  · exact taken.same
  · exact h

theorem standbyStep (h : s.InMode native enabled) : s.standbyStep.InMode native enabled := by
  unfold State.standbyStep
  split
  · exact h.takeExternal
  · split
    · exact h.same
    · exact h

/-- What follows an instruction, and the next free values. -/
theorem finish (h : s.InMode native enabled) (i : Instr) : (s.finish i).nextDraw.InMode native enabled := by
  have finished : (s.finish i).InMode native enabled := by
    rcases s.finish_cases i with ⟨_, e⟩ | ⟨_, _, e⟩ | ⟨_, _, e⟩ | ⟨_, _, e⟩ <;> rw [e]
    · exact h
    · exact h.boundary
    · exact h
    · exact h.loopBoundary
  exact finished.same

theorem sample (h : s.InMode native enabled) : s.sample.InMode native enabled := by
  rw [State.sample_eq]
  exact h.same

theorem advance (h : s.InMode native enabled) (n : Nat) : (s.advance n).InMode native enabled := by
  rw [State.advance_eq]
  exact h.same

/-- A state as RESET leaves it is in native mode with MD not write-enabled. -/
theorem atReset (h : s.AtReset) : s.InMode native enabled := by
  obtain ⟨md, -⟩ := h.control
  obtain ⟨-, -, mdwe, -⟩ := h.running
  exact ⟨fun _ => md, fun set => absurd (mdwe.symm.trans set) Bool.false_ne_true⟩

theorem resetStep (h : s.InMode native enabled) (o : Host.Outcome State Fault Refusal) :
    (s.resetStep o).InMode native enabled := by
  cases held : s.pins.resetHigh with
  | true =>
    rw [State.resetStep_held o held]
    exact h.sample.same
  | false =>
    rw [State.resetStep_rises o held]
    exact atReset (State.resetEvent_atReset _).nextDraw

end State.InMode

/-- What is in progress is no instruction that changes the mode. -/
theorem State.Inv.exec_inProgress {native enabled : Bool} {s t u : State} {i : Instr} (h : s.Inv)
    (hi : s.inProgress = some i) (ht : t.InMode native enabled) (hx : exec i t = .next u) :
    u.InMode native enabled := by
  have kind := h.progress i hi
  refine exec_inMode ?_ ?_ ?_ ht hx
  · rintro v rfl
    simp [isBlock] at kind
  · rintro (rfl | rfl) <;> simp [isBlock] at kind
  · rintro rfl
    simp [isBlock] at kind

/-- Native mode fetches native instructions. -/
theorem State.isNative_of_fetched {s : State} {i : Instr} {n : Nat} (h : s.fetched = .ok (i, n))
    (hmd : s.psw.md = true) : i.isNative = true := by
  rw [State.fetched, if_pos hmd] at h
  exact isNative_of_decode h

/-- Emulation mode fetches RETEM and CALLN. -/
theorem State.eq_of_fetched {s : State} {i : Instr} {n : Nat} (h : s.fetched = .ok (i, n))
    (hmd : s.psw.md = false) : i = .retem ∨ ∃ v, i = .calln v := by
  rw [State.fetched, if_neg (ne_true_of_eq_false hmd)] at h
  exact eq_of_decodeEmulation h

/-- A step leaves the mode, unless it runs BRKEM, or RETI or POP PSW while MD is write-enabled. -/
theorem step_inMode {s t : State} (hs : s.Inv) (hstep : step s = .next t) :
    t.InMode s.psw.md s.mdwe ∨
      ∃ i n, s.sample.fetched = .ok (i, n) ∧ ((∃ v, i = .brkem v) ∨ (s.mdwe = true ∧ (i = .reti ∨ i = .popPsw))) := by
  have self := s.inMode_self
  rcases step_cases hstep with
    ⟨_, e⟩ | ⟨_, _, e⟩ | ⟨_, _, i, u, hi, hx, e⟩ | ⟨_, _, _, i, n, u, hfetch, _, hx, e⟩
  · rw [e]
    exact .inl (self.resetStep _)
  · rw [e]
    exact .inl self.sample.standbyStep.same
  · have progress : s.inProgress = some i := by rw [State.sample_eq] at hi; exact hi
    rw [e]
    exact .inl ((hs.exec_inProgress progress self.sample.same hx).finish i)
  · by_cases listed : (∃ v, i = .brkem v) ∨ (s.mdwe = true ∧ (i = .reti ∨ i = .popPsw))
    · exact .inr ⟨i, n, hfetch, listed⟩
    · obtain ⟨notBrkem, notLoad⟩ := not_or.mp listed
      rw [e]
      refine .inl ((exec_inMode (fun v hv => notBrkem ⟨v, hv⟩) (fun load => ?_) (fun retem => ?_)
        (self.sample.advance n) hx).finish i)
      · exact Bool.eq_false_iff.mpr fun enabled => notLoad ⟨enabled, load⟩
      · refine Bool.eq_false_iff.mpr fun native => ?_
        have answered := State.isNative_of_fetched hfetch (by rw [State.sample_psw]; exact native)
        rw [retem] at answered
        cases answered

/-- A sample in standby that takes no interrupt leaves the PSW. -/
theorem State.standbyStep_psw {s : State} (hn : s.nmiLatch = false) (hi : s.intAccepted = false) :
    s.standbyStep.psw = s.psw := by
  rw [State.standbyStep_ignored hn hi]
  split <;> rfl

/-- A step from emulation mode to native mode, with nothing in progress. -/
theorem step_toNative {s t : State} (hstep : step s = .next t) (hmd : s.psw.md = false) (hidle : s.inProgress = none)
    (hnative : t.psw.md = true) :
    s.resetRequested = true ∨ (s.standby = true ∧ (s.sample.nmiLatch = true ∨ s.sample.intAccepted = true)) ∨
      ∃ n, s.sample.fetched = .ok (.retem, n) ∨ ∃ v, s.sample.fetched = .ok (.calln v, n) := by
  rcases step_cases hstep with
    ⟨reset, _⟩ | ⟨_, standby, e⟩ | ⟨_, _, i, u, hi, _⟩ | ⟨_, _, _, i, n, u, hfetch, _⟩
  · exact .inl reset
  · refine .inr (.inl ⟨(State.sample_standby s).symm.trans standby, ?_⟩)
    refine Classical.byContradiction fun untaken => ?_
    obtain ⟨noNmi, noInt⟩ := not_or.mp untaken
    have psw := State.standbyStep_psw (Bool.eq_false_iff.mpr noNmi) (Bool.eq_false_iff.mpr noInt)
    rw [e, State.nextDraw_psw, psw, State.sample_psw, hmd] at hnative
    cases hnative
  · rw [State.sample_eq, hidle] at hi
    cases hi
  · refine .inr (.inr ⟨n, ?_⟩)
    rcases State.eq_of_fetched hfetch (by rw [State.sample_psw]; exact hmd) with rfl | ⟨v, rfl⟩
    · exact .inl hfetch
    · exact .inr ⟨v, hfetch⟩

/-- Settles O56: a step leaves the mode or runs one of the listed instructions, and in emulation mode only RETEM and
CALLN are fetched. -/
theorem modeChangesAreTheListedOnes : Obligations.ModeChangesAreTheListedOnes := by
  intro s t hs hstep
  refine ⟨fun native emulation => ?leaves, fun disabled enabled => ?enables, step_toNative hstep⟩
  case leaves =>
    rcases step_inMode hs hstep with kept | ⟨i, n, hfetch, ⟨v, rfl⟩ | ⟨enabled, rfl | rfl⟩⟩
    · exact absurd (emulation.symm.trans (kept.md native)) Bool.false_ne_true
    · exact ⟨n, .inl ⟨v, hfetch⟩⟩
    · exact ⟨n, .inr ⟨enabled, .inl hfetch⟩⟩
    · exact ⟨n, .inr ⟨enabled, .inr hfetch⟩⟩
  case enables =>
    rcases step_inMode hs hstep with kept | ⟨i, n, hfetch, ⟨v, rfl⟩ | ⟨already, _⟩⟩
    · exact absurd (disabled.symm.trans (kept.mdwe enabled)) Bool.false_ne_true
    · exact ⟨v, n, hfetch⟩
    · exact absurd (disabled.symm.trans already) Bool.false_ne_true

end Sys2Proof.Machine

end

section

/-! Decoding an encoding, as the claim says it (30_encoding.md R109, R131). -/

namespace Sys2Proof

/-- Settles O4: RETEM and CALLN by the two encodings of emulation mode, the others by `decode_encode`. -/
theorem decodingAnEncodingGivesTheInstruction : Obligations.DecodingAnEncodingGivesTheInstruction :=
  fun _ rest hwf => ⟨fun h => decodeEmulation_encode h rest, fun hr hc => decode_encode hwf hr hc rest⟩

end Sys2Proof

end

section

/-! What the forms of the opcode map do of the bytes after an opcode (30_encoding.md R109, R116 to R122, R130): they
refuse exactly the listed ones; of the others they answer a well-formed instruction that encodes to the bytes read. -/

namespace Sys2Proof

/-- The first `n` bytes; zeros beyond the end. -/
def bytesRead (bs : List Byte) (n : Nat) : List Byte := (List.range n).map fun k => bs.getD k 0

/-- Bytes read one after another. -/
theorem bytesRead_add (bs : List Byte) (m n : Nat) :
    bytesRead bs (m + n) = bytesRead bs m ++ bytesRead (bs.drop m) n := by
  simp [bytesRead, List.range_add, List.getD_eq_getElem?_getD, Function.comp_def]

/-- A byte after the first `n`. -/
theorem byteAt_drop (bs : List Byte) (n k : Nat) : byteAt (bs.drop n) k = byteAt bs (n + k) := by
  rw [byteAt, byteAt, List.getD_eq_getElem?_getD, List.getD_eq_getElem?_getD, List.getElem?_drop]

/-- The bytes of the word that was read. -/
theorem encodeWord_wordAt (bs : List Byte) (k : Nat) : encodeWord (wordAt bs k) = [byteAt bs k, byteAt bs (k + 1)] := by
  have low : (wordAt bs k).extractLsb' 0 8 = byteAt bs k := Machine.lowByte_append _ _
  have high : (wordAt bs k).extractLsb' 8 8 = byteAt bs (k + 1) := Machine.highByte_append _ _
  rw [encodeWord, low, high]

/-- A refusal under a condition. -/
def refusedIf (p : Prop) [Decidable p] (e : DecodeError) : Option DecodeError := if p then some e else none

/-- Which bytes after an opcode byte are refused, and why: one constructor for each kind of opcode. -/
inductive Refusals where
  /-- None. -/
  | never
  /-- All: the opcode is not listed (R117, R130). -/
  | unlisted
  /-- All but 0AH (R122). -/
  | not0A
  /-- `mod = 11` (R120). -/
  | memoryOnly
  /-- OR, AND and XOR of a sign-extended immediate (44_compare_logic_bit.md R380). -/
  | signedLogic
  /-- The shift or rotate 110 (R119). -/
  | shift
  /-- The operation 001 of the groups F6H and F7H (R119). -/
  | unary
  /-- All operations of the group FEH but 000 and 001 (R119). -/
  | byteStep
  /-- The operation 111 of the group FFH (R119), and the far CALL and BR with `mod = 11` (R120). -/
  | indirect
  /-- Bits 5-3 other than 000 (R121). -/
  | fieldZero
  /-- A segment register with bit 5 set (R121). -/
  | fromSreg
  /-- A segment register with bit 5 set, or PS (40_data_transfer.md R160). -/
  | toSreg
  /-- `mod` other than 11 (R121). -/
  | registerOnly
  /-- `mod` other than 11, or bits 5-3 other than 000 (R121). -/
  | registerFieldZero
deriving DecidableEq

/-- The refusals by the addressing byte: its bits 5-3, and whether its operand is a register. -/
def Refusals.byField : Refusals → BitVec 3 → Bool → Option DecodeError
  | .memoryOnly, _, isReg => refusedIf (isReg = true) .registerWhereMemoryRequired
  | .signedLogic, field, _ => refusedIf (field ∈ [1, 4, 6]) .undefinedSubOpcode
  | .shift, field, _ => refusedIf (field = 6) .undefinedSubOpcode
  | .unary, field, _ => refusedIf (field = 1) .undefinedSubOpcode
  | .byteStep, field, _ => refusedIf (field ∉ [0, 1]) .undefinedSubOpcode
  | .indirect, field, isReg =>
    if field = 7 then some .undefinedSubOpcode
    else refusedIf (isReg = true ∧ field ∈ [3, 5]) .registerWhereMemoryRequired
  | .fieldZero, field, _ => refusedIf (field ≠ 0) .undefinedSubOpcode
  | .fromSreg, field, _ => refusedIf (4 ≤ field.toNat) .undefinedSubOpcode
  | .toSreg, field, _ => if 4 ≤ field.toNat then some .undefinedSubOpcode else refusedIf (field = 1) .movToPS
  | .registerOnly, _, isReg => refusedIf (isReg = false) .undefinedSubOpcode
  | .registerFieldZero, field, isReg => refusedIf (¬ (isReg = true ∧ field = 0)) .undefinedSubOpcode
  | _, _, _ => none

/-- The refusals by the byte after the opcode. -/
def Refusals.of (c : Refusals) (x : Byte) : Option DecodeError :=
  match c with
  | .unlisted => some .undefinedOpcode
  | .not0A => refusedIf (x ≠ 0x0A) .undefinedSubOpcode
  | c => c.byField (x.extractLsb' 3 3) (x.extractLsb' 6 2 == 3)

/-- The second opcode bytes that are listed after 0FH (R130). -/
def listedSecond : List Byte :=
  [0x10, 0x11, 0x12, 0x13, 0x14, 0x15, 0x16, 0x17, 0x18, 0x19, 0x1A, 0x1B, 0x1C, 0x1D, 0x1E, 0x1F,
    0x20, 0x22, 0x26, 0x28, 0x2A, 0x31, 0x33, 0x39, 0x3B, 0xFF]

/-- What is refused after each second opcode byte. -/
def secondRefusals (c : Byte) : Refusals :=
  match c.toNat with
  | 0x10 | 0x11 | 0x12 | 0x13 | 0x14 | 0x15 | 0x16 | 0x17 | 0x18 | 0x19 | 0x1A | 0x1B | 0x1C | 0x1D | 0x1E | 0x1F
  | 0x28 | 0x2A => .fieldZero
  | 0x20 | 0x22 | 0x26 | 0xFF => .never
  | 0x31 | 0x33 => .registerOnly
  | 0x39 | 0x3B => .registerFieldZero
  | _ => .unlisted

/-- The second opcode bytes after which all is refused. -/
theorem secondRefusals_eq_unlisted (c : Byte) : secondRefusals c = .unlisted ↔ c ∉ listedSecond := by
  revert c
  decide

/-- What is refused after each first opcode byte but 0FH. -/
def firstRefusals (b : Byte) : Refusals :=
  match b.toNat with
  | 0x63 | 0xD6 | 0xF1 => .unlisted
  | 0x62 | 0x8D | 0xC4 | 0xC5 => .memoryOnly
  | 0x82 | 0x83 => .signedLogic
  | 0x8C => .fromSreg
  | 0x8E => .toSreg
  | 0x8F | 0xC6 | 0xC7 => .fieldZero
  | 0xC0 | 0xC1 | 0xD0 | 0xD1 | 0xD2 | 0xD3 => .shift
  | 0xD4 | 0xD5 => .not0A
  | 0xF6 | 0xF7 => .unary
  | 0xFE => .byteStep
  | 0xFF => .indirect
  | _ => .never

/-- Why the bytes that begin with these three are no instruction, if they are none. -/
def refusal (b c d : Byte) : Option DecodeError :=
  if b = 0x0F then (secondRefusals c).of d else (firstRefusals b).of c

/-- What a form does of the bytes after the opcode: it refuses them for the reason given, or it answers a well-formed
instruction whose encoding is the opcode and the bytes read. -/
def Form.Does (f : Form) (opcode bs : List Byte) : Option DecodeError → Prop
  | some e => f bs = .error e
  | none => ∃ i n, f bs = .ok (i, n) ∧ i.wellFormed = true ∧ encode i = opcode ++ bytesRead bs n

/-- What a form does of all byte sequences, when the reason for a refusal shows in the first two. -/
def Form.Exact (f : Form) (opcode : List Byte) (reason : Byte → Byte → Option DecodeError) : Prop :=
  ∀ bs, f.Does opcode bs (reason (byteAt bs 0) (byteAt bs 1))

/-- Counting the bytes before those of a form, which belong to the opcode of that form. -/
theorem Form.Does.longer {f g : Form} {opcode bs : List Byte} {n : Nat} {o : Option DecodeError}
    (h : f.Does (opcode ++ bytesRead bs n) (bs.drop n) o) (hg : g bs = Decoded.longer n (f (bs.drop n))) :
    g.Does opcode bs o := by
  cases o with
  | some e =>
    have refused : f (bs.drop n) = .error e := h
    exact hg.trans (by rw [refused]; rfl)
  | none =>
    obtain ⟨i, m, answered, wellFormed, bytes⟩ := h
    refine ⟨i, n + m, ?_, wellFormed, ?_⟩
    · rw [hg, answered, Nat.add_comm]
      rfl
    · rw [bytes, bytesRead_add, List.append_assoc]

/-- A property of the eight values of bits 5-3. -/
theorem forall_field {P : BitVec 3 → Prop} (h0 : P 0) (h1 : P 1) (h2 : P 2) (h3 : P 3) (h4 : P 4) (h5 : P 5) (h6 : P 6)
    (h7 : P 7) (field : BitVec 3) : P field := by
  have cases : field = 0 ∨ field = 1 ∨ field = 2 ∨ field = 3 ∨ field = 4 ∨ field = 5 ∨ field = 6 ∨ field = 7 := by
    revert field
    decide
  rcases cases with rfl | rfl | rfl | rfl | rfl | rfl | rfl | rfl <;> assumption

/-- An addressing byte is its three fields. -/
theorem modrm_fields (b : Byte) : modrm (b.extractLsb' 6 2) (b.extractLsb' 3 3) (b.extractLsb' 0 3) = b := by
  revert b
  decide

/-- Only the code 110 names BP (R105). -/
theorem Base.ofCode_ne_bp {c : BitVec 3} (h : c ≠ 6) : (Base.ofCode c != .bp) = true := by
  revert c
  decide

/-- The operand of an addressing byte, and the bytes that it and its displacement are. -/
theorem addressing_cases (bs : List Byte) :
    let field := (byteAt bs 0).extractLsb' 3 3
    (∃ q, addressing bs = ⟨field, .reg q, 1⟩ ∧ (byteAt bs 0).extractLsb' 6 2 = 3 ∧
        bytesRead bs 1 = [modrm 3 field q.code]) ∨
      (∃ m n, addressing bs = ⟨field, .mem m, n⟩ ∧ (byteAt bs 0).extractLsb' 6 2 ≠ 3 ∧ m.wellFormed = true ∧
        bytesRead bs n = encodeMem field m) := by
  intro field
  have fields := modrm_fields (byteAt bs 0)
  have modes : ∀ mode : BitVec 2, mode = 0 ∨ mode = 1 ∨ mode = 2 ∨ mode = 3 := by decide
  have one : bytesRead bs 1 = [byteAt bs 0] := rfl
  have two : bytesRead bs 2 = [byteAt bs 0, byteAt bs 1] := rfl
  have three : bytesRead bs 3 = [byteAt bs 0, byteAt bs 1, byteAt bs 2] := rfl
  rcases modes ((byteAt bs 0).extractLsb' 6 2) with h | h | h | h <;> rw [h] at fields
  · by_cases hm : (byteAt bs 0).extractLsb' 0 3 = 6
    · refine .inr ⟨.direct (wordAt bs 1), 3, ?_, ?_, rfl, ?_⟩
      · simp [addressing, h, hm, field]
      · simp [h]
      · rw [encodeMem, encodeWord_wordAt, ← hm, fields, three]
    · refine .inr ⟨.based (Base.ofCode ((byteAt bs 0).extractLsb' 0 3)), 1, ?_, ?_, Base.ofCode_ne_bp hm, ?_⟩
      · have direct : ¬ (byteAt bs 0).extractLsb' 0 3 = 6#3 := hm
        simp [addressing, h, direct, field]
      · simp [h]
      · rw [encodeMem, Base.code_ofCode, fields, one]
  · refine .inr ⟨.disp8 (Base.ofCode ((byteAt bs 0).extractLsb' 0 3)) (byteAt bs 1), 2, ?_, ?_, rfl, ?_⟩
    · simp [addressing, h, field]
    · simp [h]
    · rw [encodeMem, Base.code_ofCode, fields, two]
  · refine .inr ⟨.disp16 (Base.ofCode ((byteAt bs 0).extractLsb' 0 3)) (wordAt bs 1), 3, ?_, ?_, rfl, ?_⟩
    · simp [addressing, h, field]
    · simp [h]
    · rw [encodeMem, Base.code_ofCode, encodeWord_wordAt, fields, three]
  · refine .inl ⟨Reg.ofCode ((byteAt bs 0).extractLsb' 0 3), ?_, h, ?_⟩
    · simp [addressing, h, field]
    · rw [Reg.code_ofCode, fields, one]

/-- A byte read as a word fits a byte. -/
theorem zeroExtended_fits (b : Byte) : decide ((b.setWidth 16).toNat < 256) = true := by
  revert b
  decide

/-- The low byte of a byte read as a word. -/
theorem setWidth_zeroExtended (b : Byte) : (b.setWidth 16).setWidth 8 = b := by
  revert b
  decide

/-- The low byte of a byte read as a signed number. -/
theorem setWidth_signExtended (b : Byte) : (b.signExtend 16).setWidth 8 = b := by
  revert b
  decide

namespace Form.Exact
variable {opcode : List Byte}

theorem refuse {e : DecodeError} : (refuse e).Exact opcode fun _ _ => some e := fun _ => rfl

theorem one {i : Instr} (h : encode i = opcode) (hw : i.wellFormed = true) : (one i).Exact opcode fun _ _ => none :=
  fun _ => ⟨i, 0, rfl, hw, h.trans (List.append_nil opcode).symm⟩

theorem withByte {f : Byte → Instr} (h : ∀ b, encode (f b) = opcode ++ [b]) (hw : ∀ b, (f b).wellFormed = true) :
    (withByte f).Exact opcode fun _ _ => none := fun _ => ⟨_, 1, rfl, hw _, h _⟩

theorem withWord {f : Word → Instr} (h : ∀ v, encode (f v) = opcode ++ encodeWord v)
    (hw : ∀ v, (f v).wellFormed = true) : (withWord f).Exact opcode fun _ _ => none :=
  fun bs => ⟨_, 2, rfl, hw _, by rw [h, encodeWord_wordAt]; rfl⟩

theorem withFar {f : Word → Word → Instr} (h : ∀ x y, encode (f x y) = opcode ++ (encodeWord x ++ encodeWord y))
    (hw : ∀ x y, (f x y).wellFormed = true) : (withFar f).Exact opcode fun _ _ => none :=
  fun bs => ⟨_, 4, rfl, hw _ _, by rw [h, encodeWord_wordAt, encodeWord_wordAt]; rfl⟩

theorem withImm {w : Width} {f : Word → Instr} (h : ∀ v, encode (f v) = opcode ++ encodeImm w v)
    (hw : ∀ v, w.immFits v = true → (f v).wellFormed = true) : (withImm w f).Exact opcode fun _ _ => none := by
  intro bs
  cases w with
  | byte => exact ⟨_, 1, rfl, hw _ (zeroExtended_fits _), by rw [h, encodeImm, setWidth_zeroExtended]; rfl⟩
  | word => exact ⟨_, 2, rfl, hw _ rfl, by rw [h, encodeImm, encodeWord_wordAt]; rfl⟩

theorem withSized {z : ImmSize} {f : Word → Instr} (h : ∀ v, encode (f v) = opcode ++ z.encode v)
    (hw : ∀ v, z.immFits v = true → (f v).wellFormed = true) : (withSized z f).Exact opcode fun _ _ => none := by
  intro bs
  cases z with
  | byte | byteS => exact ⟨_, 1, rfl, hw _ (zeroExtended_fits _), by rw [h, ImmSize.encode, setWidth_zeroExtended]; rfl⟩
  | word => exact ⟨_, 2, rfl, hw _ rfl, by rw [h, ImmSize.encode, encodeWord_wordAt]; rfl⟩
  | wordS =>
    refine ⟨_, 1, rfl, hw _ ?_, by rw [h, ImmSize.encode, setWidth_signExtended]; rfl⟩
    rw [ImmSize.immFits, setWidth_signExtended]
    exact beq_self_eq_true _

theorem prepareForm : prepareForm.Exact [0xC8] fun _ _ => none := by
  intro bs
  have bytes (size : Word) (depth : Byte) : encode (.prepare size depth) = 0xC8 :: encodeWord size ++ [depth] := rfl
  exact ⟨_, 3, rfl, rfl, by rw [bytes, encodeWord_wordAt]; rfl⟩

theorem with0AH {i : Instr} (h : encode i = opcode ++ [0x0A]) (hw : i.wellFormed = true) :
    (with0AH i).Exact opcode fun x _ => Refusals.not0A.of x := by
  intro bs
  change Form.Does _ _ _ (refusedIf (byteAt bs 0 ≠ 0x0A) .undefinedSubOpcode)
  by_cases hb : byteAt bs 0 = 0x0A
  · rw [refusedIf, if_neg fun other => other hb]
    exact ⟨i, 1, if_pos hb, hw, by rw [h, ← hb]; rfl⟩
  · rw [refusedIf, if_pos hb]
    exact if_neg hb

/-- An addressing byte, then what its field and operand say. -/
theorem withRm {k : BitVec 3 → Operand → Form} {reason : BitVec 3 → Bool → Option DecodeError}
    (onReg : ∀ field q, (k field (.reg q)).Exact (opcode ++ [modrm 3 field q.code]) fun _ _ => reason field true)
    (onMem : ∀ field m, m.wellFormed = true →
      (k field (.mem m)).Exact (opcode ++ encodeMem field m) fun _ _ => reason field false) :
    (withRm k).Exact opcode fun x _ => reason (x.extractLsb' 3 3) (x.extractLsb' 6 2 == 3) := by
  intro bs
  change Form.Does _ _ _ (reason _ ((byteAt bs 0).extractLsb' 6 2 == 3))
  rcases addressing_cases bs with ⟨q, read, mode, bytes⟩ | ⟨m, n, read, mode, wellFormed, bytes⟩
  · have operand := onReg ((byteAt bs 0).extractLsb' 3 3) q (bs.drop 1)
    rw [← bytes] at operand
    rw [mode]
    exact operand.longer (by rw [Sys2Proof.withRm, read])
  · have operand := onMem ((byteAt bs 0).extractLsb' 3 3) m wellFormed (bs.drop n)
    rw [← bytes] at operand
    rw [beq_false_of_ne mode]
    exact operand.longer (by rw [Sys2Proof.withRm, read])

/-- A register in bits 5-3 and any operand. -/
theorem regRm {onReg : Reg → Reg → Instr} {onMem : Reg → MemOp → Instr}
    (hr : ∀ d q, encode (onReg d q) = opcode ++ [modrm 3 d.code q.code] := by intros; rfl)
    (hm : ∀ r m, encode (onMem r m) = opcode ++ encodeMem r.code m := by intros; rfl)
    (wr : ∀ d q, (onReg d q).wellFormed = true := by intros; rfl)
    (wm : ∀ r m, (onMem r m).wellFormed = m.wellFormed := by intros; rfl) :
    (regRm onReg onMem).Exact opcode fun _ _ => none :=
  withRm (reason := fun _ _ => none) (fun _ _ => one (by rw [hr, Reg.code_ofCode]) (wr _ _))
    (fun _ _ wf => one (by rw [hm, Reg.code_ofCode]) ((wm _ _).trans wf))

/-- A register in bits 5-3 and a memory operand (R120). -/
theorem regMem {onMem : Reg → MemOp → Instr} (hm : ∀ r m, encode (onMem r m) = opcode ++ encodeMem r.code m)
    (wm : ∀ r m, (onMem r m).wellFormed = m.wellFormed) :
    (regMem onMem).Exact opcode fun x _ => Refusals.memoryOnly.of x :=
  withRm (reason := Refusals.memoryOnly.byField) (fun _ _ => refuse)
    (fun _ _ wf => one (by rw [hm, Reg.code_ofCode]) ((wm _ _).trans wf))

/-- Bits 5-3 are 000, and the operand says what follows (R121). -/
theorem withRm0 {onReg : Reg → Form} {onMem : MemOp → Form}
    (hr : ∀ q, (onReg q).Exact (opcode ++ [modrm 3 0 q.code]) fun _ _ => none)
    (hm : ∀ m, m.wellFormed = true → (onMem m).Exact (opcode ++ encodeMem 0 m) fun _ _ => none) :
    (withRm0 onReg onMem).Exact opcode fun x _ => Refusals.fieldZero.of x :=
  withRm (reason := Refusals.fieldZero.byField)
    (forall_field hr (fun _ => refuse) (fun _ => refuse) (fun _ => refuse) (fun _ => refuse) (fun _ => refuse)
      (fun _ => refuse) (fun _ => refuse))
    (forall_field hm (fun _ _ => refuse) (fun _ _ => refuse) (fun _ _ => refuse) (fun _ _ => refuse)
      (fun _ _ => refuse) (fun _ _ => refuse) (fun _ _ => refuse))

theorem bitForm {onReg : Reg → Instr} {onMem : MemOp → Instr}
    (hr : ∀ q, encode (onReg q) = opcode ++ [modrm 3 0 q.code] := by intros; rfl)
    (hm : ∀ m, encode (onMem m) = opcode ++ encodeMem 0 m := by intros; rfl)
    (wr : ∀ q, (onReg q).wellFormed = true := by intros; rfl)
    (wm : ∀ m, (onMem m).wellFormed = m.wellFormed := by intros; rfl) :
    (bitForm onReg onMem).Exact opcode fun x _ => Refusals.fieldZero.of x :=
  withRm0 (fun q => one (hr q) (wr q)) (fun m wf => one (hm m) ((wm m).trans wf))

theorem bitImmForm {onReg : Reg → Byte → Instr} {onMem : MemOp → Byte → Instr}
    (hr : ∀ q b, encode (onReg q b) = opcode ++ [modrm 3 0 q.code] ++ [b] := by intros; rfl)
    (hm : ∀ m b, encode (onMem m b) = opcode ++ encodeMem 0 m ++ [b] := by intros; rfl)
    (wr : ∀ q b, (onReg q b).wellFormed = true := by intros; rfl)
    (wm : ∀ m b, (onMem m b).wellFormed = m.wellFormed := by intros; rfl) :
    (bitImmForm onReg onMem).Exact opcode fun x _ => Refusals.fieldZero.of x :=
  withRm0 (fun q => withByte (hr q) (wr q)) (fun m wf => withByte (hm m) fun b => (wm m b).trans wf)

/-- INS and EXT with two registers (R121). -/
theorem bitFieldReg {f : Reg → Reg → Instr} (h : ∀ d q, encode (f d q) = opcode ++ [modrm 3 q.code d.code])
    (hw : ∀ d q, (f d q).wellFormed = true) : (bitFieldReg f).Exact opcode fun x _ => Refusals.registerOnly.of x :=
  withRm (reason := Refusals.registerOnly.byField) (fun _ _ => one (by rw [h, Reg.code_ofCode]) (hw _ _))
    (fun _ _ _ => refuse)

/-- INS and EXT with a length byte (R121). -/
theorem bitFieldImm {f : Reg → Byte → Instr} (h : ∀ d b, encode (f d b) = opcode ++ [modrm 3 0 d.code] ++ [b])
    (hw : ∀ d b, (f d b).wellFormed = true) :
    (bitFieldImm f).Exact opcode fun x _ => Refusals.registerFieldZero.of x := by
  unfold Sys2Proof.bitFieldImm Sys2Proof.withRm0
  refine withRm (reason := Refusals.registerFieldZero.byField)
    (forall_field (fun d => withByte (h d) (hw d)) ?_ ?_ ?_ ?_ ?_ ?_ ?_) (forall_field ?_ ?_ ?_ ?_ ?_ ?_ ?_ ?_)
  iterate 7 exact fun _ => refuse
  iterate 8 exact fun _ _ => refuse

theorem mulImm16 : mulImm16.Exact [0x69] fun _ _ => none := by
  have reg (d q : Reg) (imm : Word) :
      encode (.mulReg16Reg16Imm16 d q imm) = [0x69] ++ [modrm 3 d.code q.code] ++ encodeWord imm := rfl
  have mem (d : Reg) (m : MemOp) (imm : Word) :
      encode (.mulReg16Mem16Imm16 d m imm) = [0x69] ++ encodeMem d.code m ++ encodeWord imm := rfl
  exact withRm (reason := fun _ _ => none)
    (fun _ _ => withWord (fun _ => by rw [reg, Reg.code_ofCode]) (fun _ => rfl))
    (fun _ _ wf => withWord (fun _ => by rw [mem, Reg.code_ofCode]) (fun _ => wf))

theorem mulImm8 : mulImm8.Exact [0x6B] fun _ _ => none := by
  have reg (d q : Reg) (imm : Byte) :
      encode (.mulReg16Reg16Imm8 d q imm) = [0x6B] ++ [modrm 3 d.code q.code] ++ [imm] := rfl
  have mem (d : Reg) (m : MemOp) (imm : Byte) :
      encode (.mulReg16Mem16Imm8 d m imm) = [0x6B] ++ encodeMem d.code m ++ [imm] := rfl
  exact withRm (reason := fun _ _ => none)
    (fun _ _ => withByte (fun _ => by rw [reg, Reg.code_ofCode]) (fun _ => rfl))
    (fun _ _ wf => withByte (fun _ => by rw [mem, Reg.code_ofCode]) (fun _ => wf))

theorem fpo1Form {x : BitVec 3} : (fpo1Form x).Exact [fpo1Byte x] fun _ _ => none :=
  withRm (reason := fun _ _ => none) (fun _ _ => one rfl rfl) (fun _ _ wf => one rfl wf)

theorem fpo2Form {x : BitVec 1} : (fpo2Form x).Exact [fpo2Byte x] fun _ _ => none :=
  withRm (reason := fun _ _ => none) (fun _ _ => one rfl rfl) (fun _ _ wf => one rfl wf)

theorem moveFromSreg : moveFromSreg.Exact [0x8C] fun x _ => Refusals.fromSreg.of x :=
  withRm (reason := Refusals.fromSreg.byField)
    (forall_field (fun _ => one rfl rfl) (fun _ => one rfl rfl) (fun _ => one rfl rfl) (fun _ => one rfl rfl)
      (fun _ => refuse) (fun _ => refuse) (fun _ => refuse) (fun _ => refuse))
    (forall_field (fun _ wf => one rfl wf) (fun _ wf => one rfl wf) (fun _ wf => one rfl wf) (fun _ wf => one rfl wf)
      (fun _ _ => refuse) (fun _ _ => refuse) (fun _ _ => refuse) (fun _ _ => refuse))

/-- PS, bits 5-3 being 001, is refused (40_data_transfer.md R160). -/
theorem moveToSreg : moveToSreg.Exact [0x8E] fun x _ => Refusals.toSreg.of x :=
  withRm (reason := Refusals.toSreg.byField)
    (forall_field (fun _ => one rfl rfl) (fun _ => refuse) (fun _ => one rfl rfl) (fun _ => one rfl rfl)
      (fun _ => refuse) (fun _ => refuse) (fun _ => refuse) (fun _ => refuse))
    (forall_field (fun _ wf => one rfl wf) (fun _ _ => refuse) (fun _ wf => one rfl wf) (fun _ wf => one rfl wf)
      (fun _ _ => refuse) (fun _ _ => refuse) (fun _ _ => refuse) (fun _ _ => refuse))

theorem shiftOneGroup {w : Width} : (shiftOneGroup w).Exact [withW 0xD0 w] fun x _ => Refusals.shift.of x := by
  refine withRm (reason := Refusals.shift.byField) (forall_field ?_ ?_ ?_ ?_ ?_ ?_ (fun _ => refuse) ?_)
    (forall_field ?_ ?_ ?_ ?_ ?_ ?_ (fun _ _ => refuse) ?_)
  iterate 7 exact fun _ => one rfl rfl
  iterate 7 exact fun _ wf => one rfl wf

theorem shiftClGroup {w : Width} : (shiftClGroup w).Exact [withW 0xD2 w] fun x _ => Refusals.shift.of x := by
  refine withRm (reason := Refusals.shift.byField) (forall_field ?_ ?_ ?_ ?_ ?_ ?_ (fun _ => refuse) ?_)
    (forall_field ?_ ?_ ?_ ?_ ?_ ?_ (fun _ _ => refuse) ?_)
  iterate 7 exact fun _ => one rfl rfl
  iterate 7 exact fun _ wf => one rfl wf

theorem shiftImmGroup {w : Width} : (shiftImmGroup w).Exact [withW 0xC0 w] fun x _ => Refusals.shift.of x := by
  refine withRm (reason := Refusals.shift.byField) (forall_field ?_ ?_ ?_ ?_ ?_ ?_ (fun _ => refuse) ?_)
    (forall_field ?_ ?_ ?_ ?_ ?_ ?_ (fun _ _ => refuse) ?_)
  iterate 7 exact fun _ => withByte (fun _ => rfl) (fun _ => rfl)
  iterate 7 exact fun _ wf => withByte (fun _ => rfl) (fun _ => wf)

theorem groupF6 : groupF6.Exact [0xF6] fun x _ => Refusals.unary.of x := by
  refine withRm (reason := Refusals.unary.byField)
    (forall_field (fun _ => withImm (fun _ => rfl) (fun _ fits => fits)) (fun _ => refuse) ?_ ?_ ?_ ?_ ?_ ?_)
    (forall_field (fun _ wf => withImm (fun _ => rfl) fun _ fits => Bool.and_eq_true_iff.mpr ⟨wf, fits⟩)
      (fun _ _ => refuse) ?_ ?_ ?_ ?_ ?_ ?_)
  iterate 6 exact fun _ => one rfl rfl
  iterate 6 exact fun _ wf => one rfl wf

theorem groupF7 : groupF7.Exact [0xF7] fun x _ => Refusals.unary.of x := by
  refine withRm (reason := Refusals.unary.byField)
    (forall_field (fun _ => withImm (fun _ => rfl) (fun _ fits => fits)) (fun _ => refuse) ?_ ?_ ?_ ?_ ?_ ?_)
    (forall_field (fun _ wf => withImm (fun _ => rfl) fun _ fits => Bool.and_eq_true_iff.mpr ⟨wf, fits⟩)
      (fun _ _ => refuse) ?_ ?_ ?_ ?_ ?_ ?_)
  iterate 6 exact fun _ => one rfl rfl
  iterate 6 exact fun _ wf => one rfl wf

theorem groupFE : groupFE.Exact [0xFE] fun x _ => Refusals.byteStep.of x := by
  refine withRm (reason := Refusals.byteStep.byField)
    (forall_field (fun _ => one rfl rfl) (fun _ => one rfl rfl) ?_ ?_ ?_ ?_ ?_ ?_)
    (forall_field (fun _ wf => one rfl wf) (fun _ wf => one rfl wf) ?_ ?_ ?_ ?_ ?_ ?_)
  iterate 6 exact fun _ => refuse
  iterate 6 exact fun _ _ => refuse

theorem groupFF : groupFF.Exact [0xFF] fun x _ => Refusals.indirect.of x := by
  refine withRm (reason := Refusals.indirect.byField)
    (forall_field ?_ ?_ ?_ (fun _ => refuse) ?_ (fun _ => refuse) ?_ (fun _ => refuse))
    (forall_field ?_ ?_ ?_ ?_ ?_ ?_ ?_ (fun _ _ => refuse))
  iterate 5 exact fun _ => one rfl rfl
  iterate 7 exact fun _ wf => one rfl wf

/-- OR, AND and XOR of an immediate, which the encodings with `s = 1` have not (44_compare_logic_bit.md R380). -/
theorem logical {z : ImmSize} {f : Width → Word → Instr} {operand : List Byte}
    (h : ∀ w v, encode (f w v) = withW 0x80 w :: operand ++ encodeImm w v)
    (hw : ∀ w v, w.immFits v = true → (f w v).wellFormed = true) :
    (immediateGroup.logical z f).Exact (z.opcode :: operand) fun _ _ =>
      refusedIf (z = .byteS ∨ z = .wordS) .undefinedSubOpcode := by
  cases z with
  | byte => exact withImm (w := .byte) (h .byte) (hw .byte)
  | word => exact withImm (w := .word) (h .word) (hw .word)
  | byteS | wordS => exact refuse

/-- The reason for which the immediate group refuses: a logical operation with `s = 1`. -/
def immediateReason (z : ImmSize) (field : BitVec 3) (_ : Bool) : Option DecodeError :=
  if field ∈ [1, 4, 6] then refusedIf (z = .byteS ∨ z = .wordS) .undefinedSubOpcode else none

theorem immediateGroup (z : ImmSize) :
    (immediateGroup z).Exact [z.opcode] fun x _ => immediateReason z (x.extractLsb' 3 3) (x.extractLsb' 6 2 == 3) := by
  refine withRm (reason := immediateReason z)
    (forall_field ?_ (fun _ => logical (fun _ _ => rfl) fun _ _ fits => fits) ?_ ?_
      (fun _ => logical (fun _ _ => rfl) fun _ _ fits => fits) ?_
      (fun _ => logical (fun _ _ => rfl) fun _ _ fits => fits) ?_)
    (forall_field ?_
      (fun _ wf => logical (fun _ _ => rfl) fun _ _ fits => Bool.and_eq_true_iff.mpr ⟨wf, fits⟩) ?_ ?_
      (fun _ wf => logical (fun _ _ => rfl) fun _ _ fits => Bool.and_eq_true_iff.mpr ⟨wf, fits⟩) ?_
      (fun _ wf => logical (fun _ _ => rfl) fun _ _ fits => Bool.and_eq_true_iff.mpr ⟨wf, fits⟩) ?_)
  iterate 5 exact fun _ => withSized (fun _ => rfl) (fun _ fits => fits)
  iterate 5 exact fun _ wf => withSized (fun _ => rfl) (fun _ fits => Bool.and_eq_true_iff.mpr ⟨wf, fits⟩)

theorem immediateGroup_unsigned {z : ImmSize} (h : ¬ (z = .byteS ∨ z = .wordS)) :
    (Sys2Proof.immediateGroup z).Exact [z.opcode] fun _ _ => none := by
  intro bs
  have never (field : BitVec 3) (isReg : Bool) : immediateReason z field isReg = none := by
    rw [immediateReason, refusedIf, if_neg h, ite_self]
  rw [← never]
  exact immediateGroup z bs

/-- The second opcode bytes that are not listed (R130). -/
theorem extendedForm_unlisted {b : Byte} (hb : b ∉ listedSecond) :
    Sys2Proof.extendedForm b = Sys2Proof.refuse .undefinedOpcode := by
  have other {n : Nat} (hn : b.toNat = n) : BitVec.ofNat 8 n ∉ listedSecond := by
    rw [← hn, BitVec.ofNat_toNat, BitVec.setWidth_eq]
    exact hb
  unfold Sys2Proof.extendedForm
  split
  case h_27 => rfl
  all_goals
    refine absurd ?_ (other ‹b.toNat = _›)
    decide

/-- The second opcode byte, after 0FH (R130). -/
theorem extendedForm (b : Byte) : (extendedForm b).Exact [0x0F, b] fun x _ => (secondRefusals b).of x := by
  by_cases hb : b ∈ listedSecond
  · revert b
    simp only [listedSecond, List.forall_mem_cons]
    exact ⟨bitForm, bitForm, bitForm, bitForm, bitForm, bitForm, bitForm, bitForm, bitImmForm, bitImmForm, bitImmForm,
      bitImmForm, bitImmForm, bitImmForm, bitImmForm, bitImmForm, one rfl rfl, one rfl rfl, one rfl rfl, bitForm,
      bitForm,
      bitFieldReg (fun _ _ => rfl) (fun _ _ => rfl), bitFieldReg (fun _ _ => rfl) (fun _ _ => rfl),
      bitFieldImm (fun _ _ => rfl) (fun _ _ => rfl), bitFieldImm (fun _ _ => rfl) (fun _ _ => rfl),
      withByte (fun _ => rfl) (fun _ => rfl), List.forall_mem_nil _⟩
  · rw [extendedForm_unlisted hb, (secondRefusals_eq_unlisted b).mpr hb]
    exact refuse

theorem extendedGroup : extendedGroup.Exact [0x0F] fun c d => (secondRefusals c).of d :=
  fun bs => by
    have second := extendedForm (byteAt bs 0) (bs.drop 1)
    rw [byteAt_drop] at second
    exact second.longer rfl

end Form.Exact
end Sys2Proof

end

section

/-! The opcode map, first byte by first byte (30_encoding.md R116), and what native decoding does of any bytes. -/

namespace Sys2Proof
namespace Form.Exact

/-- The entries of a list have a property of their places, counted from `first` on. -/
def AtPlaces {α : Type} (P : Nat → α → Prop) (first : Nat) (xs : List α) : Prop :=
  ∀ k x, xs[k]? = some x → P (first + k) x

theorem AtPlaces.nil {α : Type} {P : Nat → α → Prop} {first : Nat} : AtPlaces P first [] := fun _ _ h => nomatch h

theorem AtPlaces.cons {α : Type} {P : Nat → α → Prop} {first : Nat} {x : α} {xs : List α} (h : P first x)
    (hxs : AtPlaces P (first + 1) xs) : AtPlaces P first (x :: xs) := by
  intro k y hk
  cases k with
  | zero =>
    obtain rfl : x = y := Option.some.inj hk
    exact h
  | succ k =>
    rw [← Nat.add_assoc, Nat.add_right_comm]
    exact hxs k y hk

/-- An entry that the list has. -/
theorem AtPlaces.getD {α : Type} {P : Nat → α → Prop} {first : Nat} {xs : List α} (h : AtPlaces P first xs) {k : Nat}
    (hk : k < xs.length) (default : α) : P (first + k) (xs.getD k default) := by
  have found : xs[k]? = some xs[k] := List.getElem?_eq_getElem hk
  rw [List.getD_eq_getElem?_getD, found]
  exact h k _ found

/-- The form is exact for a first byte. -/
def Entry (n : Nat) (f : Form) : Prop := f.Exact [BitVec.ofNat 8 n] (refusal (BitVec.ofNat 8 n))

/-- The forms are those of the first bytes from `first` on. -/
def Row (first : Nat) (row : List Form) : Prop := AtPlaces Entry first row

theorem Row.nil {first : Nat} : Row first [] := AtPlaces.nil

theorem Row.cons {first : Nat} {f : Form} {row : List Form}
    (h : f.Exact [BitVec.ofNat 8 first] (refusal (BitVec.ofNat 8 first))) (hrow : Row (first + 1) row) :
    Row first (f :: row) := AtPlaces.cons h hrow

theorem opcodes00 : Row 0x00 opcodes00 := by
  iterate 4 refine .cons regRm ?_
  iterate 2 refine .cons (withImm (fun _ => rfl) (fun _ fits => fits)) ?_
  iterate 2 refine .cons (one rfl rfl) ?_
  iterate 4 refine .cons regRm ?_
  iterate 2 refine .cons (withImm (fun _ => rfl) (fun _ fits => fits)) ?_
  refine .cons (one rfl rfl) ?_
  exact .cons extendedGroup .nil

/-- The rows of two operations of two operands, each followed by two opcodes of one byte. -/
theorem opcodes10_20_30 : Row 0x10 opcodes10 ∧ Row 0x20 opcodes20 ∧ Row 0x30 opcodes30 := by
  refine ⟨?_, ?_, ?_⟩
  all_goals
    iterate 4 refine .cons regRm ?_
    iterate 2 refine .cons (withImm (fun _ => rfl) (fun _ fits => fits)) ?_
    iterate 2 refine .cons (one rfl rfl) ?_
    iterate 4 refine .cons regRm ?_
    iterate 2 refine .cons (withImm (fun _ => rfl) (fun _ fits => fits)) ?_
    iterate 2 refine .cons (one rfl rfl) ?_
    exact .nil

theorem opcodes40 : Row 0x40 opcodes40 := by
  iterate 16 refine .cons (one rfl rfl) ?_
  exact .nil

theorem opcodes50 : Row 0x50 opcodes50 := by
  iterate 16 refine .cons (one rfl rfl) ?_
  exact .nil

theorem opcodes60 : Row 0x60 opcodes60 := by
  iterate 2 refine .cons (one rfl rfl) ?_
  refine .cons (regMem (fun _ _ => rfl) (fun _ _ => rfl)) ?_
  refine .cons refuse ?_
  iterate 2 refine .cons (one rfl rfl) ?_
  iterate 2 refine .cons fpo2Form ?_
  refine .cons (withWord (fun _ => rfl) (fun _ => rfl)) ?_
  refine .cons mulImm16 ?_
  refine .cons (withByte (fun _ => rfl) (fun _ => rfl)) ?_
  refine .cons mulImm8 ?_
  iterate 4 refine .cons (one rfl rfl) ?_
  exact .nil

theorem opcodes70 : Row 0x70 opcodes70 := by
  iterate 16 refine .cons (withByte (fun _ => rfl) (fun _ => rfl)) ?_
  exact .nil

theorem opcodes80 : Row 0x80 opcodes80 := by
  iterate 2 refine .cons (immediateGroup_unsigned (by decide)) ?_
  iterate 2 refine .cons (immediateGroup _) ?_
  iterate 8 refine .cons regRm ?_
  refine .cons moveFromSreg ?_
  refine .cons (regMem (fun _ _ => rfl) (fun _ _ => rfl)) ?_
  refine .cons moveToSreg ?_
  exact .cons (withRm0 (fun _ => one rfl rfl) (fun _ wf => one rfl wf)) .nil

theorem opcodes90 : Row 0x90 opcodes90 := by
  iterate 10 refine .cons (one rfl rfl) ?_
  refine .cons (withFar (fun _ _ => rfl) (fun _ _ => rfl)) ?_
  iterate 5 refine .cons (one rfl rfl) ?_
  exact .nil

theorem opcodesA0 : Row 0xA0 opcodesA0 := by
  iterate 4 refine .cons (withWord (fun _ => rfl) (fun _ => rfl)) ?_
  iterate 4 refine .cons (one rfl rfl) ?_
  iterate 2 refine .cons (withImm (fun _ => rfl) (fun _ fits => fits)) ?_
  iterate 6 refine .cons (one rfl rfl) ?_
  exact .nil

theorem opcodesB0 : Row 0xB0 opcodesB0 := by
  iterate 16 refine .cons (withImm (fun _ => rfl) (fun _ fits => fits)) ?_
  exact .nil

theorem opcodesC0 : Row 0xC0 opcodesC0 := by
  iterate 2 refine .cons shiftImmGroup ?_
  refine .cons (withWord (fun _ => rfl) (fun _ => rfl)) ?_
  refine .cons (one rfl rfl) ?_
  iterate 2 refine .cons (regMem (fun _ _ => rfl) (fun _ _ => rfl)) ?_
  iterate 2 refine .cons (withRm0 (fun _ => withImm (fun _ => rfl) (fun _ fits => fits)) fun _ wf =>
    withImm (fun _ => rfl) (fun _ fits => Bool.and_eq_true_iff.mpr ⟨wf, fits⟩)) ?_
  refine .cons prepareForm ?_
  refine .cons (one rfl rfl) ?_
  refine .cons (withWord (fun _ => rfl) (fun _ => rfl)) ?_
  iterate 2 refine .cons (one rfl rfl) ?_
  refine .cons (withByte (fun _ => rfl) (fun _ => rfl)) ?_
  iterate 2 refine .cons (one rfl rfl) ?_
  exact .nil

theorem opcodesD0 : Row 0xD0 opcodesD0 := by
  iterate 2 refine .cons shiftOneGroup ?_
  iterate 2 refine .cons shiftClGroup ?_
  iterate 2 refine .cons (with0AH rfl rfl) ?_
  refine .cons refuse ?_
  refine .cons (one rfl rfl) ?_
  iterate 8 refine .cons fpo1Form ?_
  exact .nil

theorem opcodesE0 : Row 0xE0 opcodesE0 := by
  iterate 8 refine .cons (withByte (fun _ => rfl) (fun _ => rfl)) ?_
  iterate 2 refine .cons (withWord (fun _ => rfl) (fun _ => rfl)) ?_
  refine .cons (withFar (fun _ _ => rfl) (fun _ _ => rfl)) ?_
  refine .cons (withByte (fun _ => rfl) (fun _ => rfl)) ?_
  iterate 4 refine .cons (one rfl rfl) ?_
  exact .nil

theorem opcodesF0 : Row 0xF0 opcodesF0 := by
  refine .cons (one rfl rfl) ?_
  refine .cons refuse ?_
  iterate 4 refine .cons (one rfl rfl) ?_
  refine .cons groupF6 ?_
  refine .cons groupF7 ?_
  iterate 6 refine .cons (one rfl rfl) ?_
  refine .cons groupFE ?_
  exact .cons groupFF .nil

/-- The row of sixteen is that of the first bytes with the upper half `n`. -/
def FullRow (n : Nat) (row : List Form) : Prop := row.length = 16 ∧ Row (16 * n) row

theorem opcodeMap : AtPlaces FullRow 0 opcodeMap := by
  obtain ⟨opcodes10, opcodes20, opcodes30⟩ := opcodes10_20_30
  exact .cons ⟨rfl, opcodes00⟩ <| .cons ⟨rfl, opcodes10⟩ <| .cons ⟨rfl, opcodes20⟩ <| .cons ⟨rfl, opcodes30⟩ <|
    .cons ⟨rfl, opcodes40⟩ <| .cons ⟨rfl, opcodes50⟩ <| .cons ⟨rfl, opcodes60⟩ <| .cons ⟨rfl, opcodes70⟩ <|
    .cons ⟨rfl, opcodes80⟩ <| .cons ⟨rfl, opcodes90⟩ <| .cons ⟨rfl, opcodesA0⟩ <| .cons ⟨rfl, opcodesB0⟩ <|
    .cons ⟨rfl, opcodesC0⟩ <| .cons ⟨rfl, opcodesD0⟩ <| .cons ⟨rfl, opcodesE0⟩ <| .cons ⟨rfl, opcodesF0⟩ .nil

theorem opcodeForm (b : Byte) : (opcodeForm b).Exact [b] (refusal b) := by
  have upper : b.toNat / 16 < 16 := Nat.div_lt_of_lt_mul b.isLt
  obtain ⟨length, row⟩ := opcodeMap.getD (k := b.toNat / 16) upper []
  have lower : b.toNat % 16 < 16 := Nat.mod_lt _ (by decide)
  have entry := AtPlaces.getD row (Nat.lt_of_lt_of_eq lower length.symm) (Sys2Proof.refuse .undefinedOpcode)
  have place : 16 * (0 + b.toNat / 16) + b.toNat % 16 = b.toNat := by omega
  rw [place, Entry, BitVec.ofNat_toNat, BitVec.setWidth_eq] at entry
  exact entry

end Form.Exact

/-- What native decoding does of any bytes. -/
theorem decode_does (bs : List Byte) :
    Form.Does decode [] bs (refusal (byteAt bs 0) (byteAt bs 1) (byteAt bs 2)) := by
  have first := Form.Exact.opcodeForm (byteAt bs 0) (bs.drop 1)
  rw [byteAt_drop, byteAt_drop] at first
  exact first.longer rfl

/-- The refusals of native decoding. -/
theorem decode_eq_error_iff (bs : List Byte) (e : DecodeError) :
    decode bs = .error e ↔ refusal (byteAt bs 0) (byteAt bs 1) (byteAt bs 2) = some e := by
  have does := decode_does bs
  cases h : refusal (byteAt bs 0) (byteAt bs 1) (byteAt bs 2) with
  | none =>
    rw [h] at does
    obtain ⟨i, n, answered, -⟩ := does
    rw [answered]
    exact ⟨nofun, nofun⟩
  | some r =>
    rw [h] at does
    have refused : decode bs = .error r := does
    rw [refused, Except.error.injEq, Option.some.injEq]

/-- The answers of native decoding. -/
theorem decode_eq_ok {bs : List Byte} {i : Instr} {n : Nat} (h : decode bs = .ok (i, n)) :
    i.wellFormed = true ∧ encode i = bytesRead bs n := by
  have does := decode_does bs
  cases hr : refusal (byteAt bs 0) (byteAt bs 1) (byteAt bs 2) with
  | none =>
    rw [hr] at does
    obtain ⟨j, m, answered, wellFormed, bytes⟩ := does
    obtain ⟨rfl, rfl⟩ : i = j ∧ n = m := by simpa using h.symm.trans answered
    exact ⟨wellFormed, bytes⟩
  | some r => exact nomatch h.symm.trans ((decode_eq_error_iff bs r).mpr hr)

/-- At least the opcode byte is read. -/
theorem one_le_of_decode {bs : List Byte} {i : Instr} {n : Nat} (h : decode bs = .ok (i, n)) : 1 ≤ n := by
  unfold decode at h
  cases form : opcodeForm (byteAt bs 0) (bs.drop 1) with
  | error e => rw [form] at h; cases h
  | ok x => rw [form] at h; cases h; exact Nat.le_add_left 1 x.2

/-- Settles O5, by what every entry of the opcode map does; the length is that of the encoding. -/
theorem encodingADecodedInstructionGivesItsBytes : Obligations.EncodingADecodedInstructionGivesItsBytes := by
  intro bs i n h
  obtain ⟨wellFormed, bytes⟩ := decode_eq_ok h
  have length : (encode i).length = n := by rw [bytes, bytesRead, List.length_map, List.length_range]
  exact ⟨wellFormed, one_le_of_decode h, length ▸ encode_length_le wellFormed, bytes⟩

end Sys2Proof

end

section

/-! The byte sequences that are no instruction (30_encoding.md R117 to R122, R130), reason by reason. -/

namespace Sys2Proof

/-- The refusals of native decoding are by the byte after the first opcode byte, or after 0FH by the third byte. -/
theorem decode_refuses_iff (bs : List Byte) (e : DecodeError) :
    decode bs = .error e ↔
      (firstRefusals (byteAt bs 0)).of (byteAt bs 1) = some e ∨
        (byteAt bs 0 = 0x0F ∧ (secondRefusals (byteAt bs 1)).of (byteAt bs 2) = some e) := by
  rw [decode_eq_error_iff]
  generalize byteAt bs 0 = b
  by_cases hb : b = 0x0F
  · subst hb
    have never : (firstRefusals 0x0F).of (byteAt bs 1) = none := rfl
    rw [never]
    exact ⟨fun h => .inr ⟨rfl, h⟩, fun h => h.elim nofun And.right⟩
  · rw [refusal, if_neg hb]
    exact ⟨.inl, fun h => h.resolve_right fun other => hb other.1⟩

/-- A refusal under a condition is given where the condition holds. -/
@[simp] theorem refusedIf_eq_some_iff {p : Prop} [Decidable p] {e r : DecodeError} :
    refusedIf p e = some r ↔ p ∧ e = r := by
  rw [refusedIf]
  split <;> simp [*]

/-- A refusal under one of two conditions that exclude each other. -/
theorem refusedIf_else_eq_some_iff {p q : Prop} [Decidable p] [Decidable q] {e e' r : DecodeError} (h : q → ¬ p) :
    (if p then some e else refusedIf q e') = some r ↔ (p ∧ e = r) ∨ (q ∧ e' = r) := by
  by_cases hp : p
  · have hq : ¬ q := fun hq => h hq hp
    simp [hp, hq]
  · simp [hp]

namespace Refusals

theorem byField_indirect (field : BitVec 3) (isReg : Bool) (e : DecodeError) :
    Refusals.indirect.byField field isReg = some e ↔
      (field = 7 ∧ .undefinedSubOpcode = e) ∨ ((isReg = true ∧ field ∈ [3, 5]) ∧ .registerWhereMemoryRequired = e) :=
  refusedIf_else_eq_some_iff (by revert field isReg; decide)

theorem byField_toSreg (field : BitVec 3) (isReg : Bool) (e : DecodeError) :
    Refusals.toSreg.byField field isReg = some e ↔
      (4 ≤ field.toNat ∧ .undefinedSubOpcode = e) ∨ (field = 1 ∧ .movToPS = e) :=
  refusedIf_else_eq_some_iff (by revert field; decide)

variable (k : Refusals) (x : Byte)

/-- Where an opcode is not listed. -/
theorem of_undefinedOpcode : k.of x = some .undefinedOpcode ↔ k = .unlisted := by
  cases k
  case indirect => simp [Refusals.of, byField_indirect]
  case toSreg => simp [Refusals.of, byField_toSreg]
  all_goals simp [Refusals.of, byField]

/-- Where an operand must be memory. -/
theorem of_registerWhereMemoryRequired :
    k.of x = some .registerWhereMemoryRequired ↔
      x.extractLsb' 6 2 = 3 ∧ (k = .memoryOnly ∨ (k = .indirect ∧ x.extractLsb' 3 3 ∈ [3, 5])) := by
  cases k
  case indirect => simp [Refusals.of, byField_indirect]
  case toSreg => simp [Refusals.of, byField_toSreg]
  all_goals simp [Refusals.of, byField]

/-- Where PS would be loaded. -/
theorem of_movToPS : k.of x = some .movToPS ↔ k = .toSreg ∧ x.extractLsb' 3 3 = 1 := by
  cases k
  case indirect => simp [Refusals.of, byField_indirect]
  case toSreg => simp [Refusals.of, byField_toSreg]
  all_goals simp [Refusals.of, byField]

/-- Where a sub-opcode field or fixed bits have an unlisted value. -/
theorem of_undefinedSubOpcode :
    k.of x = some .undefinedSubOpcode ↔
      (k = .signedLogic ∧ x.extractLsb' 3 3 ∈ [1, 4, 6]) ∨ (k = .shift ∧ x.extractLsb' 3 3 = 6) ∨
      (k = .unary ∧ x.extractLsb' 3 3 = 1) ∨ (k = .byteStep ∧ x.extractLsb' 3 3 ∉ [0, 1]) ∨
      (k = .indirect ∧ x.extractLsb' 3 3 = 7) ∨ (k = .fieldZero ∧ x.extractLsb' 3 3 ≠ 0) ∨
      ((k = .fromSreg ∨ k = .toSreg) ∧ 4 ≤ (x.extractLsb' 3 3).toNat) ∨ (k = .not0A ∧ x ≠ 0x0A) ∨
      (k = .registerOnly ∧ x.extractLsb' 6 2 ≠ 3) ∨
      (k = .registerFieldZero ∧ ¬ (x.extractLsb' 6 2 = 3 ∧ x.extractLsb' 3 3 = 0)) := by
  cases k
  case indirect => simp [Refusals.of, byField_indirect]
  case toSreg => simp [Refusals.of, byField_toSreg]
  all_goals simp [Refusals.of, byField]

end Refusals

/-! The opcode bytes of each kind. -/

section
variable (b c : Byte)

theorem firstRefusals_eq_unlisted : firstRefusals b = .unlisted ↔ b ∈ [0x63, 0xD6, 0xF1] := by revert b; decide

theorem firstRefusals_eq_memoryOnly : firstRefusals b = .memoryOnly ↔ b ∈ [0x62, 0x8D, 0xC4, 0xC5] := by
  revert b
  decide

theorem firstRefusals_eq_indirect : firstRefusals b = .indirect ↔ b = 0xFF := by revert b; decide

theorem firstRefusals_eq_toSreg : firstRefusals b = .toSreg ↔ b = 0x8E := by revert b; decide

theorem firstRefusals_eq_signedLogic : firstRefusals b = .signedLogic ↔ b ∈ [0x82, 0x83] := by revert b; decide

theorem firstRefusals_eq_shift : firstRefusals b = .shift ↔ b ∈ [0xC0, 0xC1, 0xD0, 0xD1, 0xD2, 0xD3] := by
  revert b
  decide

theorem firstRefusals_eq_unary : firstRefusals b = .unary ↔ b ∈ [0xF6, 0xF7] := by revert b; decide

theorem firstRefusals_eq_byteStep : firstRefusals b = .byteStep ↔ b = 0xFE := by revert b; decide

theorem firstRefusals_eq_fieldZero : firstRefusals b = .fieldZero ↔ b ∈ [0x8F, 0xC6, 0xC7] := by revert b; decide

theorem firstRefusals_eq_not0A : firstRefusals b = .not0A ↔ b ∈ [0xD4, 0xD5] := by revert b; decide

theorem firstRefusals_eq_sreg : firstRefusals b = .fromSreg ∨ firstRefusals b = .toSreg ↔ b ∈ [0x8C, 0x8E] := by
  revert b
  decide

theorem firstRefusals_ne_register : firstRefusals b ≠ .registerOnly ∧ firstRefusals b ≠ .registerFieldZero := by
  revert b
  decide

theorem secondRefusals_eq_fieldZero :
    secondRefusals c = .fieldZero ↔
      c ∈ [0x10, 0x11, 0x12, 0x13, 0x14, 0x15, 0x16, 0x17, 0x18, 0x19, 0x1A, 0x1B, 0x1C, 0x1D, 0x1E, 0x1F,
        0x28, 0x2A] := by
  revert c
  decide

theorem secondRefusals_eq_registerOnly : secondRefusals c = .registerOnly ↔ c ∈ [0x31, 0x33] := by revert c; decide

theorem secondRefusals_eq_registerFieldZero : secondRefusals c = .registerFieldZero ↔ c ∈ [0x39, 0x3B] := by
  revert c
  decide

theorem secondRefusals_kinds :
    secondRefusals c ∈ [.never, .unlisted, .fieldZero, .registerOnly, .registerFieldZero] := by
  revert c
  decide

end

/-- After 0FH the third byte is refused for the values of its own fields only. -/
theorem secondRefusals_of (c d : Byte) (e : DecodeError) :
    (secondRefusals c).of d = some e ↔
      (secondRefusals c = .unlisted ∧ .undefinedOpcode = e) ∨
      (((secondRefusals c = .fieldZero ∧ d.extractLsb' 3 3 ≠ 0) ∨
        (secondRefusals c = .registerOnly ∧ d.extractLsb' 6 2 ≠ 3) ∨
        (secondRefusals c = .registerFieldZero ∧ ¬ (d.extractLsb' 6 2 = 3 ∧ d.extractLsb' 3 3 = 0))) ∧
        .undefinedSubOpcode = e) := by
  have kinds := secondRefusals_kinds c
  generalize secondRefusals c = k at kinds ⊢
  simp only [List.mem_cons, List.not_mem_nil, or_false] at kinds
  rcases kinds with rfl | rfl | rfl | rfl | rfl <;> simp [Refusals.of, Refusals.byField]

/-- Settles O6: the refusals of each kind of opcode for each reason, and the opcode bytes of the kind. -/
theorem refusedEncodingsAreTheListedOnes : Obligations.RefusedEncodingsAreTheListedOnes := by
  refine ⟨fun bs => (decode_refuses_iff bs _).trans ?_,
    fun bs => ⟨(decode_refuses_iff bs _).trans ?_, (decode_refuses_iff bs _).trans ?_⟩,
    fun bs => (decode_refuses_iff bs _).trans ?_⟩
  all_goals rw [secondRefusals_of]
  · simp only [Refusals.of_undefinedOpcode, firstRefusals_eq_unlisted, secondRefusals_eq_unlisted, and_true,
      reduceCtorEq, and_false, or_false]
    exact .rfl
  · simp only [Refusals.of_registerWhereMemoryRequired, firstRefusals_eq_memoryOnly, firstRefusals_eq_indirect,
      reduceCtorEq, and_false, or_false]
    exact .rfl
  · simp only [Refusals.of_movToPS, firstRefusals_eq_toSreg, reduceCtorEq, and_false, or_false]
    exact .rfl
  · obtain ⟨register, registerFieldZero⟩ := firstRefusals_ne_register (byteAt bs 0)
    simp only [Refusals.of_undefinedSubOpcode, firstRefusals_eq_sreg, firstRefusals_eq_signedLogic,
      firstRefusals_eq_shift, firstRefusals_eq_unary, firstRefusals_eq_byteStep, firstRefusals_eq_indirect,
      firstRefusals_eq_fieldZero, firstRefusals_eq_not0A, secondRefusals_eq_fieldZero, secondRefusals_eq_registerOnly,
      secondRefusals_eq_registerFieldZero, register, registerFieldZero, reduceCtorEq, and_false, and_true, false_and,
      false_or, or_false, or_assoc]
    exact .rfl

end Sys2Proof

end

section

/-! Memory operands (30_encoding.md R105), and the operations of two operands into a register or memory: addition and
subtraction (42_add_sub_bcd.md R250 to R274), logic and TEST (44_compare_logic_bit.md R380, R391 to R413). -/

namespace Sys2Proof.Machine

/-- The default segment register of the base of a memory operand (20_memory.md R64). -/
theorem defaultSeg_based (b : Base) : defaultSeg (.based b) = if b ∈ [.bpIx, .bpIy, .bp] then .ss else .ds0 := by
  cases b <;> rfl

/-- Settles O11: the sums are those of `ea`, and the segment is the default of the base or the override. -/
theorem effectiveAddressesAndSegments : Obligations.EffectiveAddressesAndSegments := by
  intro s d a b
  refine ⟨rfl, rfl, rfl, rfl, rfl, rfl, rfl, rfl, rfl, rfl, rfl, rfl, ?_, rfl, rfl, rfl⟩
  rw [← defaultSeg_based]
  rfl

/-- An addition into a register, after reads that only the bus shows. -/
theorem AddsInto.of_addWith {i : Instr} {s u : State} {w : Width} {d : Reg} {src : Val w} {c : Bool}
    (hx : exec i s = .next (u.addWith w (.reg d) src c)) (hu : SameButMemory s u) :
    AddsInto i s u w (.reg d) src c := by
  obtain ⟨becomes, carries, result, control, rest⟩ := u.addWith_spec w (.reg d) src c
  have value : u.readOperand w (.reg d) = s.readOperand w (.reg d) := hu.registers.readReg w d
  rw [hu.psw] at control
  rw [value] at becomes carries result
  exact ⟨_, hx, becomes, carries, result, control, hu.rest.trans rest⟩

/-- A subtraction from a register, after reads that only the bus shows. -/
theorem SubtractsFrom.of_subWith {i : Instr} {s u : State} {w : Width} {d : Reg} {src : Val w} {c : Bool}
    (hx : exec i s = .next (u.subWith w (.reg d) src c)) (hu : SameButMemory s u) :
    SubtractsFrom i s u w (.reg d) src c := by
  obtain ⟨becomes, borrows, result, control, rest⟩ := u.subWith_spec w (.reg d) src c
  have value : u.readOperand w (.reg d) = s.readOperand w (.reg d) := hu.registers.readReg w d
  rw [hu.psw] at control
  rw [value] at becomes borrows result
  exact ⟨_, hx, becomes, borrows, result, control, hu.rest.trans rest⟩

/-- Settles O23: each form is one `addWith` or `subWith` on a register, after at most one read of memory. -/
theorem additionAndSubtractionIntoRegistersComplete : Obligations.AdditionAndSubtractionIntoRegistersComplete := by
  refine ⟨fun s w z d q m imm => ?_, fun s w z d q m imm => ?_⟩
  · have register {i : Instr} {w : Width} {d : Reg} {src : Val w} {c : Bool}
        (hx : exec i s = .next (s.addWith w (.reg d) src c)) : AddsInto i s s w (.reg d) src c :=
      .of_addWith hx (.refl s)
    have memory {i : Instr} {src : Val w} {c : Bool}
        (hx : exec i s = .next ((s.afterMem w m).addWith w (.reg d) src c)) :
        AddsInto i s (s.afterMem w m) w (.reg d) src c := .of_addWith hx (s.afterOperand_sameButMemory w (.mem m))
    exact ⟨register rfl, register rfl, memory rfl, register rfl, register rfl, register rfl, register rfl, memory rfl,
      register rfl, register rfl⟩
  · have register {i : Instr} {w : Width} {d : Reg} {src : Val w} {c : Bool}
        (hx : exec i s = .next (s.subWith w (.reg d) src c)) : SubtractsFrom i s s w (.reg d) src c :=
      .of_subWith hx (.refl s)
    have memory {i : Instr} {src : Val w} {c : Bool}
        (hx : exec i s = .next ((s.afterMem w m).subWith w (.reg d) src c)) :
        SubtractsFrom i s (s.afterMem w m) w (.reg d) src c := .of_subWith hx (s.afterOperand_sameButMemory w (.mem m))
    exact ⟨register rfl, register rfl, memory rfl, register rfl, register rfl, register rfl, register rfl, memory rfl,
      register rfl, register rfl⟩

/-- A logical operation stored to its operand, after reads that only the bus shows. -/
theorem LogicInto.of_logicTo {i : Instr} {s u v : State} {w : Width} {o : Operand} {r : Val w}
    (hx : exec i s = .next (v.logicTo w o r)) (hv : SameButMemory s v) (hu : v.afterOperand w o = u) :
    LogicInto i s u w o r := by
  obtain ⟨becomes, ⟨v0, cy, ac, result, control⟩, rest⟩ := v.logicTo_spec w o r
  rw [hu] at becomes
  rw [hv.psw] at control
  have draws : v.draws = s.draws := by rw [hv]
  rw [draws] at ac
  exact ⟨_, hx, becomes, ⟨v0, cy, ac, result, control⟩, hv.rest.trans rest⟩

/-- TEST sets the flags of a result, after reads that only the bus shows. -/
theorem State.setLogicFlags_spec {s u : State} {n : Nat} (r : BitVec n) (hu : SameButMemory s u) :
    let t := u.setStatus (s.logicFlags r)
    LogicFlags s t r ∧ SameRegisters s t ∧ SameMemory u t ∧ SameRest s t := by
  obtain ⟨-, registers, memory, rest⟩ := State.setStatus_afterRead hu (s.logicFlags r)
  exact ⟨s.logicFlags_spec _ r (congrArg (Psw.withStatus · _) hu.psw), registers, memory, rest⟩

/-- Settles O29: each form of AND, OR and XOR is one `logicTo`, each form of TEST the flags alone. -/
theorem logicAndTestComplete : Obligations.LogicAndTestComplete := by
  refine ⟨fun s w d q m imm => ?_, fun s w d q m imm => ?_⟩
  · have register {i : Instr} {d : Reg} {r : Val w} (hx : exec i s = .next (s.logicTo w (.reg d) r)) :
        LogicInto i s s w (.reg d) r := .of_logicTo hx (.refl s) rfl
    have memory {i : Instr} {r : Val w} (hx : exec i s = .next ((s.afterMem w m).logicTo w (.reg d) r)) :
        LogicInto i s (s.afterMem w m) w (.reg d) r := .of_logicTo hx (s.afterOperand_sameButMemory w (.mem m)) rfl
    exact ⟨register rfl, register rfl, memory rfl, register rfl, register rfl, register rfl, register rfl, memory rfl,
      register rfl, register rfl, register rfl, register rfl, memory rfl, register rfl, register rfl⟩
  · have stored {i : Instr} {r : Val w} (hx : exec i s = .next (s.logicTo w (.mem m) r)) :
        LogicInto i s (s.afterMem w m) w (.mem m) r := .of_logicTo hx (.refl s) rfl
    have register (r : Val w) := State.setLogicFlags_spec r (.refl s)
    have memory (r : Val w) := State.setLogicFlags_spec r (s.afterOperand_sameButMemory w (.mem m))
    simp only [List.forall_mem_cons]
    exact ⟨stored rfl, stored rfl, stored rfl, stored rfl, stored rfl, stored rfl, ⟨_, rfl, register _⟩,
      ⟨_, rfl, memory _⟩, ⟨_, rfl, register _⟩, ⟨_, rfl, memory _⟩, ⟨_, rfl, register _⟩, List.forall_mem_nil _⟩

end Sys2Proof.Machine

end

section

/-! PUSH and POP (46_control_transfer.md R540 to R555): one word pushed, one word popped, and where it goes. -/

namespace Sys2Proof.Machine

/-- One word pushed: its store, and SP below it. -/
theorem State.push16_spec (s : State) (v : Word) :
    let t := s.push16 v
    Stores s t (stackStores s.sp [v]) ∧ t = { s with sp := s.sp - 2, mem := t.mem, bus := t.bus } :=
  ⟨s.push16_stores v, s.push16_eq v⟩

/-- PUSH stores the register's word; of SP, the word before or after the decrement (D7). -/
theorem State.pushValue_cases (s : State) (r : Reg) :
    (r ≠ .ahSp → s.pushValue r = s.readReg16 r) ∧
      (r = .ahSp → s.pushValue r = s.sp ∨ s.pushValue r = s.sp - 2) := by
  refine ⟨fun h => if_neg h, fun h => ?_⟩
  rw [State.pushValue, if_pos h]
  split
  · exact .inl rfl
  · exact .inr rfl

/-- Settles O46: each form is one `push16`, and PUSH mem16 reads its operand first. -/
theorem pushesComplete : Obligations.PushesComplete := by
  intro s r g m imm8 imm16 pushesAfter pushes
  have ofPush {i : Instr} {v : Word} (hx : exec i s = .next (s.push16 v)) : pushes i v := ⟨_, hx, s.push16_spec v⟩
  have both {v : Word} (h : s.pushValue r = v) : pushes (.pushReg16 r) v ∧ pushes (.pushReg16Two r) v := by
    subst h
    exact ⟨ofPush rfl, ofPush rfl⟩
  obtain ⟨other, sp⟩ := s.pushValue_cases r
  exact ⟨⟨_, rfl, (s.afterMem .word m).push16_spec _⟩, fun hr => both (other hr), fun hr => (sp hr).imp both both,
    ofPush rfl, ofPush rfl, ofPush rfl, ofPush rfl⟩

/-- What one word popped to memory leaves: it is read, SP is raised, and the word is stored. -/
theorem State.popMem_spec (s : State) (m : MemOp) (v : Word) :
    let t := (s.popWords 1).storeMem .word m v
    Stores (s.afterLoad .word .ss s.sp) t [⟨.word, s.memSreg m, s.ea m, v⟩] ∧
      t = { s with sp := s.sp + 2, mem := t.mem, bus := t.bus } := by
  have stores := (s.popWords 1).store_stores .word (s.memSreg m) (s.ea m) v
  have changed := (s.popWords 1).store_eq .word (s.memSreg m) (s.ea m) v
  rw [s.popWords_one] at stores changed ⊢
  exact ⟨stores.congr rfl rfl rfl rfl rfl rfl (State.store_platform ..) rfl rfl, changed⟩

/-- What one word popped leaves: SP past it, and the read on the bus. -/
theorem State.popWords_one_frame (s : State) :
    let t := s.popWords 1
    t.sp = s.sp + 2 ∧ SameWordsBut [.ahSp] s t ∧ SameMemory (s.afterLoad .word .ss s.sp) t ∧ SameRest s t := by
  rw [s.popWords_one]
  refine ⟨rfl, fun r hr => ?_, .of_fields rfl rfl rfl, rfl⟩
  cases r with
  | ahSp => exact absurd (List.mem_singleton_self _) hr
  | alAw | clCw | dlDw | blBw | chBp | dhIx | bhIy => rfl

/-- POP reg16 writes the popped word to its register; to SP, the word or the word plus 2 (D7). -/
theorem State.popReg_eq (s : State) (r : Reg) :
    ∃ v : Word, s.popReg r = (s.popWords 1).writeReg .word r v ∧ (r ≠ .ahSp → v = s.stackWord 0) ∧
      (r = .ahSp → v = s.stackWord 0 ∨ v = s.stackWord 0 + 2) := by
  by_cases hr : r = .ahSp
  · subst hr
    refine ⟨if Config.popSpKeepsPopped then s.stackWord 0 else s.stackWord 0 + 2, rfl, fun h => absurd rfl h,
      fun _ => ?_⟩
    split
    · exact .inl rfl
    · exact .inr rfl
  · exact ⟨s.stackWord 0, if_neg hr, fun _ => rfl, fun h => absurd h hr⟩

/-- What POP reg16 leaves: the word in its register, SP past it unless it is SP that was loaded, nothing else. -/
theorem State.popReg_spec (s : State) (r : Reg) :
    let t := s.popReg r
    let x := s.load .word s.ss s.sp
    (r ≠ .ahSp → t.readReg16 r = x ∧ t.sp = s.sp + 2) ∧ (r = .ahSp → t.sp = x ∨ t.sp = x + 2) ∧
      SameWordsBut [r, .ahSp] s t ∧ SameMemory (s.afterLoad .word .ss s.sp) t ∧ t.psw = s.psw ∧ SameRest s t := by
  obtain ⟨v, written, word, spWord⟩ := s.popReg_eq r
  obtain ⟨sp, popWords, popMemory, popRest⟩ := s.popWords_one_frame
  obtain ⟨others, memory, rest⟩ := (s.popWords 1).writeReg_frame .word r v
  have value := (s.popWords 1).readReg_writeReg .word r v
  rw [s.stackWord_zero] at word spWord
  rw [written]
  refine ⟨fun hr => ⟨value.trans (word hr), (others .ahSp (Ne.symm hr)).trans sp⟩, fun hr => ?_, fun q hq => ?_,
    popMemory.trans memory, State.writeReg_psw .., popRest.trans rest⟩
  · subst hr
    rw [← value] at spWord
    exact spWord rfl
  · obtain ⟨hr, hsp⟩ : q ≠ r ∧ q ∉ [Reg.ahSp] := by simpa using hq
    exact (others q hr).trans (popWords q hsp)

/-- What POP sreg leaves: the word in its register, SP past it, and the interrupt-inhibit window. -/
theorem State.popSreg_spec (s : State) (g : SReg) :
    let t := ((s.popWords 1).writeSreg g (s.stackWord 0)).openWindow .sreg
    t.readSreg g = s.load .word s.ss s.sp ∧ (∀ h, h ≠ g → t.readSreg h = s.readSreg h) ∧
      t = { s.afterLoad .word .ss s.sp with
        sp := s.sp + 2, ps := t.ps, ss := t.ss, ds0 := t.ds0, ds1 := t.ds1, window := .sreg } := by
  rw [s.popWords_one, s.stackWord_zero]
  obtain ⟨value, others, -, changed⟩ :=
    State.writeSreg_openWindow_spec { s.afterLoad .word .ss s.sp with sp := s.sp + 2 } g (s.load .word s.ss s.sp)
  exact ⟨value, fun h hg => (others h hg).trans (by cases h <;> rfl), changed⟩

/-- Settles O48, by what one popped word leaves in memory, a register, a segment register and the PSW. -/
theorem popsComplete : Obligations.PopsComplete := by
  intro s r g m x u
  have word : s.stackWord 0 = x := s.stackWord_zero
  refine ⟨?_, ?_, ⟨_, rfl, s.popSreg_spec g⟩, ⟨_, rfl, ?_⟩⟩
  · rw [← word]
    exact ⟨_, rfl, s.popMem_spec m _⟩
  · simp only [List.forall_mem_cons]
    exact ⟨⟨_, rfl, s.popReg_spec r⟩, ⟨_, rfl, s.popReg_spec r⟩, List.forall_mem_nil _⟩
  · rw [word, s.popWords_one]
    exact ⟨rfl, rfl⟩

end Sys2Proof.Machine

end
